-- ==== Sys2Proof/Word.lean ====
section
/-! DEFINITION. The word type of the part's ports: frames, stored records and samples are bytes. Quantities of the manual
are whole numbers with stated ranges (spec/00, Conventions) and are natural numbers here, not words. -/

namespace Sys2Proof

/-- One byte of a frame, of a stored record or of the sound store. -/
abbrev Byte := BitVec 8

end Sys2Proof
end

