-- ==== Sys2Proof/Syntax.lean ====
section
/-! DEFINITION. The commands of the part: one constructor per row of spec/opcode_table.json. A command is one of the
part's steps, "each whole and indivisible" (spec/95). Its operands are what the outside world supplies in that step. -/

namespace Sys2Proof

inductive Instr where
  /-- FRAME_DELIVERED (R1): the bytes of a delivered frame and the strength it was received with. -/
  | frameDelivered (bytes : List Byte) (strength : Fin 256)
  /-- DRIVE (R22): the dispatcher takes the head of the receive FIFO, a DRIVE frame. -/
  | drive
  /-- RELEASE (R25): the dispatcher takes a RELEASE frame from the head of the FIFO. -/
  | release
  /-- HALT (R28): the dispatcher takes a HALT frame from the head of the FIFO. -/
  | halt
  /-- CALIBRATE (R35): the dispatcher takes a CALIBRATE frame from the head of the FIFO. -/
  | calibrate
  /-- DIAG_QUERY (R36): the dispatcher takes a DIAG_QUERY frame from the head of the FIFO. -/
  | diagQuery
  /-- COUPLE (R96): the dispatcher takes a COUPLE frame from the head of the FIFO. -/
  | couple
  /-- UNCOUPLE (R116): the dispatcher takes an UNCOUPLE frame from the head of the FIFO. -/
  | uncouple
  /-- JOIN (R10): the dispatcher takes a JOIN frame from the head of the FIFO. -/
  | join
  /-- STATUS (R9): the dispatcher takes a STATUS frame from the head of the FIFO. -/
  | status
  /-- MARKER (R11): the dispatcher takes a MARKER frame from the head of the FIFO. -/
  | marker
  /-- DIAG_REPORT_DISCARDED (R7): the dispatcher takes a DIAG_REPORT of another station from the head of the FIFO. -/
  | diagReportDiscarded
  /-- PEER_AGE_TICK (R13). -/
  | peerAgeTick
  /-- LISTEN_START (R16). -/
  | listenStart
  /-- LISTEN_WINDOW_END (R16): `busy` when channel-busy was high at any time during the window. -/
  | listenWindowEnd (busy : Bool)
  /-- BACKOFF_END (R17). -/
  | backoffEnd
  /-- FRAME_HANDOVER (R18): the transceiver takes the last byte. -/
  | frameHandover
  /-- TRANSMISSION_END (R18): transmit-active falls after the hand-over. -/
  | transmissionEnd
  /-- TX_ACTIVE_TIMEOUT (R18): transmit-active has not risen within 2 ms. -/
  | txActiveTimeout
  /-- TX_CUT_OFF (R18): transmit-active falls before the last byte is taken. -/
  | txCutOff
  /-- JABBER (R19): transmit-active has stayed high for more than 20 ms. -/
  | jabber
  /-- QUIET_END (R19): 2 s after the jabber, with transmit-active low. -/
  | quietEnd
  /-- STATUS_INTERVAL_EXPIRY (R179). -/
  | statusIntervalExpiry
  /-- SUPERVISION_EXPIRY (R26). -/
  | supervisionExpiry
  /-- PARK_DELAY_EXPIRY (R38). -/
  | parkDelayExpiry
  /-- CONTROL_PERIOD (R43): the back-EMF reading of the gap (R61) and the sum of the 92 raw current samples of the drive
  interval just ended (R62). -/
  | controlPeriod (bemf : Fin 1024) (sampleSum : Fin 94117)
  /-- BLOCK_STALE (R47). -/
  | blockStale
  /-- STALL_LATCH (R73). -/
  | stallLatch
  /-- HARD_CURRENT_SAMPLE (R71): one raw motor current sample. -/
  | hardCurrentSample (sample : Fin 1024)
  /-- SPINUP_END (R75). -/
  | spinupEnd
  /-- MEASURE_END (R77). -/
  | measureEnd
  /-- WRITE_COMPLETE (R78): the setting memory reports a write complete. -/
  | writeComplete
  /-- WRITE_TIMEOUT (R78): 20 ms without that report. -/
  | writeTimeout
  /-- WHEEL_PULSE (R83): a falling edge on the wheel sensor. -/
  | wheelPulse
  /-- SENSOR_RECOVERY (R92). -/
  | sensorRecovery
  /-- BEAT_MS_TICK (R90): one millisecond of the Beat Counter's time base. -/
  | beatMsTick
  /-- SENSOR_FAULT (R91). -/
  | sensorFault
  /-- INTERVAL_TIMER_EXPIRY (R89). -/
  | intervalTimerExpiry
  /-- NEGOTIATION_TIMEOUT (R103). -/
  | negotiationTimeout
  /-- JOIN_TIMER_EXPIRY (R98). -/
  | joinTimerExpiry
  /-- MEMBER_TIMER_EXPIRY (R107): the timer of the member with this address. -/
  | memberTimerExpiry (address : Nat)
  /-- OUTPUT_SAMPLE (R133): one 16 kHz instant. -/
  | outputSample
  /-- FILL_GRANT (R136). -/
  | fillGrant
  /-- FILL_COMPLETE (R137): the sample bytes the sound store returned, first address first. -/
  | fillComplete (samples : List Byte)
  /-- SMOKE_SAMPLE (R146): the temperature sensor reading. -/
  | smokeSample (reading : Fin 1024)
  /-- HEAT_UP_TIMEOUT (R150). -/
  | heatUpTimeout
  /-- PURGE_END (R150). -/
  | purgeEnd
  /-- PUFF_END (R151). -/
  | puffEnd
  /-- LIGHT_MS_TICK (R159): one millisecond of the Light Controller's time base. -/
  | lightMsTick
  /-- FLARE_END (R163). -/
  | flareEnd
  /-- SUPPLY_SAMPLE (R165): V_in and V_res in 0.1 V. -/
  | supplySample (vin vres : Fin 256)
  /-- DROPOUT_DETECTED (R165). -/
  | dropoutDetected
  /-- PICKUP_RETURN (R165). -/
  | pickupReturn
  /-- HOLD_END (R168). -/
  | holdEnd
  /-- SETTLE_END (R168). -/
  | settleEnd
  /-- STEP_DOWN_EXPIRY (R169). -/
  | stepDownExpiry
  /-- WARM_RESTART (R171): the hold timer reaches 0. -/
  | warmRestart
  /-- BROWNOUT (R172): the core supply falls below the retention level. -/
  | brownout
  /-- COLD_START (R173): the configuration record, the calibration record and the sound directory as read, each absent when
  a read was not answered within 20 ms; `markLost` when the supply fell so far that the brownout mark was lost (R172). -/
  | coldStart (configRecord calibrationRecord directory : Option (List Byte)) (markLost : Bool)
  /-- STARTUP_QUALIFIED (R173). -/
  | startupQualified
  /-- COLD_START_END (R21). -/
  | coldStartEnd
  /-- TRANSMIT_ACTIVE_FALL_IN_QUIET (R19). -/
  | transmitActiveFallInQuiet
  deriving DecidableEq, Repr

end Sys2Proof
end

