-- ==== Sys2Proof/Config.lean ====
section
/-! DEFINITION. What the manual leaves open and what is fixed for the part, apart from the configuration record (which is
state: it is loaded at cold start). -/

namespace Sys2Proof

/-- FREE VALUE (log 17). The n-th sample byte that a sound store did not return: R177 says that a fill "completes with
whatever the store returned". -/
opaque Config.unreadSample : Nat → Byte

/-- V_in below this is a low sample (R165). -/
def Config.vinLow : Nat := 80
/-- V_in at or above this is a good sample (R165). -/
def Config.vinOk : Nat := 100
/-- The reserve threshold of HOLD (R166). -/
def Config.vHold : Nat := 65
/-- The number of bytes of the sound store (section 7.1). -/
def Config.storeSize : Nat := 16777216
/-- Raw motor current samples in one drive interval (R62). -/
def Config.samplesPerInterval : Nat := 92
/-- Bytes of the configuration record, of the calibration record and of the sound directory (section 11.5). -/
def Config.configLength : Nat := 217
def Config.calibrationLength : Nat := 6
def Config.directoryLength : Nat := 1319

end Sys2Proof
end

