-- ==== Sys2Proof/Machine/Types.lean ====
section
/-! DEFINITION. The data of the nine units: names, records and unit states, each field as the chapter that owns it lists
it. Reset values are in Machine/Defaults.lean. -/

namespace Sys2Proof.Machine

/-! ### Names used by several units -/

inductive Direction where | forward | reverse
  deriving DecidableEq, Repr
inductive Orientation where | normal | reversed
  deriving DecidableEq, Repr
/-- The indication of a marker; UNKNOWN is the part's own fifth value (section 3.4). -/
inductive Aspect where | clear | caution | restrict | stop | unknown
  deriving DecidableEq, Repr
inductive Role where | lead | middle | tail
  deriving DecidableEq, Repr
inductive ConsistState where | solo | ability | acknowledge | formed | broken
  deriving DecidableEq, Repr
inductive ResetCause where | powerOn | brownout | warm
  deriving DecidableEq, Repr
inductive SupplyState where | normal | dropout | hold | settle
  deriving DecidableEq, Repr
inductive PartMode where | start | run | parked
  deriving DecidableEq, Repr
inductive LabourLevel where | coast | light | working | heavy
  deriving DecidableEq, Repr

/-! ### Configuration record (sections 11.5, 2.4, 9.1) -/

inductive SignalLossAction where | stop | continue_
  deriving DecidableEq, Repr

/-- An entry of the function map (section 2.4). -/
inductive FunctionAction where
  | none
  | lights (mask : Byte)
  | sound (program : Nat)
  | smokeEnable
  | dim
  | soundOn
  | shunt
  deriving DecidableEq, Repr

inductive Effect where | steady | flicker | pulse | strobe | ditch | mars
  deriving DecidableEq, Repr
inductive DirectionRule where | any | forward | reverse
  deriving DecidableEq, Repr
inductive RoleRule where | any | leadOnly | tailOnly | notInConsist
  deriving DecidableEq, Repr
inductive ParkRule where | off | stay | dim
  deriving DecidableEq, Repr

/-- The record of one light output (section 9.1). -/
structure OutputRecord where
  effect : Effect
  level : Nat
  dimLevel : Nat
  directionRule : DirectionRule
  roleRule : RoleRule
  essential : Bool
  parkRule : ParkRule
  deriving DecidableEq, Repr

/-- The configuration fields in force, loaded at cold start (R174, R175). -/
structure Settings where
  ownAddress : Nat
  supervisionTime : Nat
  signalLossAction : SignalLossAction
  /-- In minutes; 0 means the locomotive never parks. -/
  parkDelay : Nat
  functionMap : List FunctionAction
  consistMask : BitVec 24
  /-- P0 to P16. -/
  curve : List Nat
  accel : Nat
  decel : Nat
  passingThreshold : Nat
  restrictedStep : Nat
  markerUse : Bool
  kp : Nat
  ki : Nat
  currentLimit : Nat
  hardCurrentLimit : Nat
  dutyCap : Nat
  stallDuty : Nat
  lightThreshold : Nat
  heavyThreshold : Nat
  sensorFitted : Bool
  preload : Nat
  beatsPerRevolution : Nat
  pulseDistance : Nat
  beatConstant : Nat
  loadShareOffered : Bool
  capShareOffered : Bool
  shareGain : Nat
  trimMax : Nat
  masterLevel : Nat
  /-- Q0 to Q8. -/
  temperatureTable : List Nat
  tIdle : Nat
  tWork : Nat
  tMax : Nat
  heaterPower : Nat
  fanIdle : Nat
  /-- COAST, LIGHT, WORKING, HEAVY. -/
  fanPuff : List Nat
  outputs : List OutputRecord
  s1 : Nat
  s2 : Nat
  s3 : Nat
  deriving DecidableEq, Repr

/-! ### Air Interface (chapter 1) -/

/-- A frame waiting in the receive FIFO: its bytes and its received strength (section 1.3). -/
structure RxFrame where
  bytes : List Byte
  strength : Nat
  deriving DecidableEq, Repr

/-- The ability word (section 6.1). -/
structure Ability where
  p0 : Nat
  p16 : Nat
  accel : Nat
  decel : Nat
  loadShare : Bool
  capShare : Bool
  deriving DecidableEq, Repr

/-- The status fields of a locomotive entry (section 1.5): present once a STATUS has been heard. -/
structure StatusFields where
  consistId : Option Nat
  consistState : ConsistState
  eStop : Bool
  stall : Bool
  driveFault : Bool
  load : Nat
  cap : Option Nat
  deriving DecidableEq, Repr

/-- The fields a JOIN supplies (section 1.5): the ability word and ack seen. -/
structure JoinFields where
  ability : Ability
  ack : Bool
  deriving DecidableEq, Repr

/-- A locomotive entry of the peer table (section 1.5). Ages are in 100 ms units. -/
structure LocoEntry where
  address : Nat
  age : Option Nat
  statusAge : Option Nat
  pinned : Bool
  status : Option StatusFields
  joined : Option JoinFields
  deriving DecidableEq, Repr

/-- An entry of the peer table that holds a station. A marker entry is never pinned. -/
inductive PeerEntry where
  | loco (entry : LocoEntry)
  | marker (address age : Nat)
  deriving DecidableEq, Repr

/-- The kinds of frame the part transmits. -/
inductive TxKind where | join | status | diagReport
  deriving DecidableEq, Repr

/-- A transmit slot (section 1.6). -/
structure TxSlot where
  requested : Bool
  attempts : Nat
  deriving DecidableEq, Repr

/-- The transmitter state (section 1.6); BACKOFF and QUIET carry the milliseconds left. -/
inductive TxState where
  | idle
  | listen (kind : TxKind)
  | backoff (left : Nat)
  | sending
  | quiet (left : Nat)
  deriving DecidableEq, Repr

/-- The nine latches (R181). -/
structure Latches where
  linkLost : Bool
  negotiationFailed : Bool
  sensorFault : Bool
  smokeFault : Bool
  configDefaulted : Bool
  calDefaulted : Bool
  calRefused : Bool
  addressConflict : Bool
  coupleRefused : Bool
  deriving DecidableEq, Repr

/-- The eight diagnostic counters (R180). -/
structure Counters where
  checkFail : Nat
  malformed : Nat
  rxOverrun : Nat
  foreignDrive : Nat
  txGiveup : Nat
  jabber : Nat
  soundUnderrun : Nat
  dropoutCount : Nat
  deriving DecidableEq, Repr

/-- The transmission in progress (R18): what was composed, and what is kept with it until it is handed over. -/
structure Transmission where
  kind : TxKind
  /-- The attempt count the slot held. -/
  attempts : Nat
  /-- The querier the frame was composed for (DIAG_REPORT). -/
  querier : Nat
  frame : List Byte
  /-- The latches as the frame carries them (DIAG_REPORT, R182). -/
  carried : Latches
  handedOver : Bool
  deriving DecidableEq, Repr

structure AirInterface where
  rxFifo : List RxFrame
  peers : List (Option PeerEntry)
  joinSlot : TxSlot
  statusSlot : TxSlot
  diagSlot : TxSlot
  /-- The querier of the DIAG_REPORT slot. -/
  querier : Nat
  transmitter : TxState
  backoffRegister : Nat
  outgoing : Option Transmission
  transmitRequest : Bool
  /-- The transceiver's transmit-active line as the commands last showed it (log 18). -/
  transmitActive : Bool
  /-- The STATUS interval timer, in ms (R179). -/
  statusTimer : Option Nat
  deriving DecidableEq, Repr

/-! ### Command Unit (chapter 2) -/

inductive BoundVia where | own | consist
  deriving DecidableEq, Repr

/-- The binding: throttle, bound-via and supervision timer are present together (section 2.2). -/
structure Binding where
  throttle : Nat
  via : BoundVia
  supervision : Nat
  deriving DecidableEq, Repr

structure CommandUnit where
  binding : Option Binding
  commandedStep : Nat
  requestedDirection : Direction
  functions : BitVec 24
  /-- Source and instance number of the last HALT taken (section 2.3). -/
  lastHalt : Option (Nat × Nat)
  /-- Milliseconds the park conditions have held (section 2.6). -/
  parkTimer : Option Nat
  partMode : PartMode
  deriving DecidableEq, Repr

/-! ### Motion Unit (chapters 3 and 4) -/

inductive FaultCause where | stall | driveFault
  deriving DecidableEq, Repr
inductive CalPhase where | spinup | measure | store
  deriving DecidableEq, Repr

/-- The motion state (R41). The fault latch of chapter 4 is the cause FAULTED carries. -/
inductive MotionState where
  | idle
  | moving
  | eStopped
  | faulted (cause : FaultCause)
  | calibrating (phase : CalPhase)
  deriving DecidableEq, Repr

inductive RampSense where | rising | falling | steady
  deriving DecidableEq, Repr

/-- The current-block record (section 3.4); block id absent is UNKNOWN. -/
structure BlockRecord where
  blockId : Option Nat
  aspect : Aspect
  capStep : Nat
  markerAddress : Option Nat
  age : Nat
  deriving DecidableEq, Repr

/-- Kbs and Kff. -/
structure CalValues where
  kbs : Nat
  kff : Nat
  deriving DecidableEq, Repr

/-- The calibration record (section 4.6); its phase is the one CALIBRATING carries. -/
structure CalRecord where
  phaseTimer : Nat
  dcal : Nat
  bemfSum : Nat
  wheelSum : Nat
  foldbackSeen : Bool
  newValues : Option CalValues
  deriving DecidableEq, Repr

/-- The state of the setting-memory write (section 4.6), with the record written and the ms left of its 20. -/
inductive WriteState where
  | none
  | writing (record : List Byte) (left : Nat)
  | restoring (record : List Byte) (left : Nat)
  deriving DecidableEq, Repr

structure MotionUnit where
  state : MotionState
  travel : Direction
  /-- The ramp accumulator R, in sixteenths of a speed unit. -/
  ramp : Nat
  setpoint : Nat
  measuredSpeed : Nat
  /-- The duty applied; it is also the previous duty of R66 and R69 (R60). -/
  duty : Nat
  filteredCurrent : Nat
  labour : LabourLevel
  rampSense : RampSense
  integrator : Int
  periodCurrent : Nat
  stallCount : Nat
  bemf : Nat
  block : BlockRecord
  calibration : Option CalRecord
  write : WriteState
  /-- Kbs and Kff in force. -/
  inForce : CalValues
  /-- The calibration defaults are in force: the standing condition of CAL_DEFAULTED (R181). -/
  calDefaultsInForce : Bool
  deriving DecidableEq, Repr

/-! ### Beat Counter (chapter 5) -/

inductive BeatMode where | event | interval
  deriving DecidableEq, Repr
inductive SensorStatus where | ok | fault
  deriving DecidableEq, Repr

structure BeatCounter where
  /-- The 1 ms time base. -/
  now : Nat
  mode : BeatMode
  sensor : SensorStatus
  counter : Nat
  phase : Nat
  lastPulse : Option Nat
  period : Option Nat
  pulseAge : Nat
  wheelSpeed : Nat
  faultWatch : Nat
  goodPulses : Nat
  intervalTimer : Option Nat
  beatAge : Option Nat
  lastInterval : Option Nat
  deriving DecidableEq, Repr

/-! ### Consist Unit (chapter 6) -/

inductive WatchMark where | watched | lost | reheard
  deriving DecidableEq, Repr

/-- The member state record of another member (section 6.1). -/
structure MemberRecord where
  address : Nat
  ability : Option Ability
  ackHeard : Bool
  timer : Option Nat
  mark : WatchMark
  deriving DecidableEq, Repr

/-- What the consist record holds in every state except SOLO. -/
structure Membership where
  consistId : Nat
  members : List (Nat × Orientation)
  position : Nat
  role : Role
  orientation : Orientation
  others : List MemberRecord
  deriving DecidableEq, Repr

/-- The common parameters (R105). -/
structure CommonParameters where
  vmin : Nat
  vtop : Nat
  accel : Nat
  decel : Nat
  loadShare : Bool
  capShare : Bool
  deriving DecidableEq, Repr

structure ConsistUnit where
  state : ConsistState
  membership : Option Membership
  common : Option CommonParameters
  negotiationTimer : Option Nat
  joinTimer : Option Nat
  renegotiationPending : Bool
  consistFault : Bool
  signalLossStop : Bool
  deriving DecidableEq, Repr

/-! ### Sound Engine (chapter 7) -/

/-- A present segment of a program: where it starts in the store and how many samples it has. -/
structure SampleRun where
  start : Nat
  length : Nat
  deriving DecidableEq, Repr

/-- An enabled program record (R121); a disabled one is absent from the table. -/
structure Program where
  voice : Nat
  priority : Nat
  loop : Bool
  attack : Option SampleRun
  body : SampleRun
  release : Option SampleRun
  gain : Nat
  deriving DecidableEq, Repr

inductive Segment where | attack | body | release
  deriving DecidableEq, Repr

/-- The fetch cursor: the next sample to fetch, or END. -/
inductive Cursor where
  | fetch (segment : Segment) (offset : Nat)
  | ended
  deriving DecidableEq, Repr

inductive TriggerOrigin where | beat | function | motion | ambient
  deriving DecidableEq, Repr

structure Trigger where
  program : Nat
  priority : Nat
  origin : TriggerOrigin
  deriving DecidableEq, Repr

structure ResumeEntry where
  program : Nat
  segment : Segment
  offset : Nat
  mask : Nat
  repeating : Bool
  releaseDue : Bool
  deriving DecidableEq, Repr

inductive HalfState where | empty | filling | ready | playing
  deriving DecidableEq, Repr

/-- A half-buffer: one run of consecutive samples of one segment (section 7.5). An EMPTY half is all zeros. -/
structure HalfBuffer where
  state : HalfState
  segment : Segment
  offset : Nat
  count : Nat
  samples : List Byte
  deriving DecidableEq, Repr

inductive HalfId where | h0 | h1
  deriving DecidableEq, Repr

/-- What a SOUNDING voice plays: the program, its mask and the play position. -/
structure Playing where
  program : Nat
  mask : Nat
  segment : Segment
  offset : Nat
  deriving DecidableEq, Repr

/-- A voice record (section 7.2). The voice is SOUNDING exactly when `current` is present. -/
structure Voice where
  current : Option Playing
  repeating : Bool
  cursor : Cursor
  /-- Newest first. -/
  stack : List ResumeEntry
  pending : Option Trigger
  generation : Nat
  half0 : HalfBuffer
  half1 : HalfBuffer
  nextFill : HalfId
  /-- While a half is PLAYING, that half (R134, R135, log 39). -/
  nextPlay : HalfId
  priming : Bool
  letGo : Bool
  deriving DecidableEq, Repr

/-- The fill in flight on the one sound-store reader, with its tag (R136). -/
structure Fill where
  voice : Nat
  half : HalfId
  tag : Nat
  deriving DecidableEq, Repr

structure SoundEngine where
  programs : List (Option Program)
  /-- Entry number labour level x 4 + phase. -/
  beatTable : List (Option Nat)
  /-- DEPART, ARRIVE, REVERSE, E_STOP. -/
  motionTable : List (Option Nat)
  ambient : Option Nat
  volumeCurve : List Nat
  voices : List Voice
  reader : Option Fill
  /-- The last value sent to the audio output. -/
  output : Int
  /-- The MODEL's count of sample bytes that the store did not return (log 17). -/
  unread : Nat
  deriving DecidableEq, Repr

/-! ### Smoke Controller (chapter 8) -/

inductive SmokeState where | off | heating | ready | shed | purge | fault
  deriving DecidableEq, Repr

structure SmokeController where
  state : SmokeState
  temperature : Nat
  heater : Bool
  fanDuty : Nat
  heatUpTimer : Option Nat
  purgeTimer : Option Nat
  /-- Oldest first. -/
  dryWindow : List Nat
  puffTimer : Option Nat
  puffDuty : Nat
  deriving DecidableEq, Repr

/-! ### Light Controller (chapter 9) -/

/-- The running state of one output; its effect timer is stopped while it is dark. -/
structure LightOutput where
  lit : Bool
  effectTimer : Option Nat
  flicker : Nat
  applied : Nat
  deriving DecidableEq, Repr

structure LightController where
  outputs : List LightOutput
  /-- One per pair of outputs. -/
  ditchTimers : List (Option Nat)
  flareTimer : Option Nat
  randomRegister : Nat
  deriving DecidableEq, Repr

/-! ### Supply Monitor (chapter 10) -/

structure SupplyMonitor where
  state : SupplyState
  shedLevel : Nat
  lowCount : Nat
  goodCount : Nat
  holdTimer : Option Nat
  settleTimer : Option Nat
  stepDownTimer : Option Nat
  startCount : Nat
  resetCause : ResetCause
  brownoutMark : Bool
  /-- Set when steps 2 to 5 of the cold start are done (R173). -/
  loaded : Bool
  /-- The built-in configuration defaults are in force: the standing condition of CONFIG_DEFAULTED (R181). -/
  configDefaultsInForce : Bool
  /-- The last samples of the two voltages. -/
  vin : Nat
  vres : Nat
  deriving DecidableEq, Repr

/-! ### The part -/

/-- Everything the part holds. -/
structure Controller where
  settings : Settings
  air : AirInterface
  command : CommandUnit
  motion : MotionUnit
  beat : BeatCounter
  consist : ConsistUnit
  sound : SoundEngine
  smoke : SmokeController
  light : LightController
  supply : SupplyMonitor
  counters : Counters
  latches : Latches
  deriving DecidableEq, Repr

end Sys2Proof.Machine
end

