-- ==== Sys2Proof/Machine/Defaults.lean ====
section
/-! DEFINITION. Built-in defaults of the stored records (section 11.5, R121, R176) and the cold-start state of every unit, as
a function of the settings loaded (R40, R59, R82, R93, R119, R144, R156, R164, R173). -/

namespace Sys2Proof.Machine

/-- The default output record (section 11.5). -/
def OutputRecord.builtIn : OutputRecord :=
  { effect := .steady, level := 255, dimLevel := 64, directionRule := .any, roleRule := .any, essential := false,
    parkRule := .off }

/-- The built-in defaults that a bad configuration record gives (R174, section 11.5). -/
def Settings.builtIn : Settings :=
  { ownAddress := 0x0003
    supervisionTime := 1500
    signalLossAction := .stop
    parkDelay := 10
    functionMap := .lights 0xFF#8 :: List.replicate 23 .none
    consistMask := BitVec.allOnes 24
    curve := List.replicate 17 0
    accel := 24
    decel := 32
    passingThreshold := 180
    restrictedStep := 24
    markerUse := true
    kp := 32
    ki := 40
    currentLimit := 300
    hardCurrentLimit := 600
    dutyCap := 1000
    stallDuty := 900
    lightThreshold := 40
    heavyThreshold := 140
    sensorFitted := true
    preload := 2
    beatsPerRevolution := 4
    pulseDistance := 392
    beatConstant := 9800
    loadShareOffered := true
    capShareOffered := true
    shareGain := 8
    trimMax := 40
    masterLevel := 12
    temperatureTable := [0, 25, 60, 100, 150, 205, 265, 330, 400]
    tIdle := 230
    tWork := 255
    tMax := 320
    heaterPower := 800
    fanIdle := 150
    fanPuff := [200, 400, 650, 900]
    outputs := List.replicate 8 OutputRecord.builtIn
    s1 := 110
    s2 := 95
    s3 := 80 }

/-- Kbs and Kff of a bad calibration record (R176). -/
def CalValues.builtIn : CalValues := { kbs := 1024, kff := 1000 }

/-- The built-in volume curve (R121). -/
def builtInVolumeCurve : List Nat := [0, 6, 12, 20, 30, 42, 56, 72, 90, 110, 132, 156, 182, 208, 232, 255]

def Latches.clear : Latches :=
  { linkLost := false, negotiationFailed := false, sensorFault := false, smokeFault := false, configDefaulted := false,
    calDefaulted := false, calRefused := false, addressConflict := false, coupleRefused := false }

def Counters.zero : Counters :=
  { checkFail := 0, malformed := 0, rxOverrun := 0, foreignDrive := 0, txGiveup := 0, jabber := 0, soundUnderrun := 0,
    dropoutCount := 0 }

def TxSlot.empty : TxSlot := { requested := false, attempts := 0 }

/-- The number of entries of the peer table (section 1.5). -/
def peerTableSize : Nat := 16

/-- The Air Interface after a cold start: FIFO, table and slots empty, transmitter IDLE, backoff register seeded with the
own address (R17, R20). -/
def AirInterface.cold (ownAddress : Nat) (transmitActive : Bool) : AirInterface :=
  { rxFifo := []
    peers := List.replicate peerTableSize none
    joinSlot := TxSlot.empty
    statusSlot := TxSlot.empty
    diagSlot := TxSlot.empty
    querier := 0
    transmitter := .idle
    backoffRegister := ownAddress
    outgoing := none
    transmitRequest := false
    transmitActive := transmitActive
    statusTimer := none }

/-- The Command Unit at cold start (R40). -/
def CommandUnit.cold : CommandUnit :=
  { binding := none, commandedStep := 0, requestedDirection := .forward, functions := 0#24, lastHalt := none,
    parkTimer := none, partMode := .start }

/-- The current-block record at cold start (R49). -/
def BlockRecord.cold : BlockRecord :=
  { blockId := none, aspect := .unknown, capStep := 0, markerAddress := none, age := 0 }

/-- The Motion Unit at cold start (R42, R59, R82). -/
def MotionUnit.cold (inForce : CalValues) (defaults : Bool) : MotionUnit :=
  { state := .idle
    travel := .forward
    ramp := 0
    setpoint := 0
    measuredSpeed := 0
    duty := 0
    filteredCurrent := 0
    labour := .coast
    rampSense := .steady
    integrator := 0
    periodCurrent := 0
    stallCount := 0
    bemf := 0
    block := BlockRecord.cold
    calibration := none
    write := .none
    inForce := inForce
    calDefaultsInForce := defaults }

/-- The Beat Counter at cold start, once the configuration is loaded (R93). -/
def BeatCounter.cold (cfg : Settings) : BeatCounter :=
  { now := 0
    mode := if cfg.sensorFitted then .event else .interval
    sensor := .ok
    counter := cfg.preload
    phase := 0
    lastPulse := none
    period := none
    pulseAge := 0
    wheelSpeed := 0
    faultWatch := 0
    goodPulses := 0
    intervalTimer := none
    beatAge := none
    lastInterval := none }

/-- The consist record at cold start (section 6.1, R119). -/
def ConsistUnit.cold : ConsistUnit :=
  { state := .solo, membership := none, common := none, negotiationTimer := none, joinTimer := none,
    renegotiationPending := false, consistFault := false, signalLossStop := false }

def HalfBuffer.empty : HalfBuffer := { state := .empty, segment := .attack, offset := 0, count := 0, samples := [] }

/-- A voice record at cold start (section 7.2). -/
def Voice.cold : Voice :=
  { current := none, repeating := false, cursor := .ended, stack := [], pending := none, generation := 0,
    half0 := HalfBuffer.empty, half1 := HalfBuffer.empty, nextFill := .h0, nextPlay := .h0, priming := false,
    letGo := false }

/-- The tables a sound directory sets (R121, R177). -/
structure SoundTables where
  programs : List (Option Program)
  beatTable : List (Option Nat)
  motionTable : List (Option Nat)
  ambient : Option Nat
  volumeCurve : List Nat
  deriving DecidableEq, Repr

/-- The tables of an unusable directory (R121, R177). -/
def SoundTables.builtIn : SoundTables :=
  { programs := List.replicate 64 none, beatTable := List.replicate 16 none, motionTable := List.replicate 4 none,
    ambient := none, volumeCurve := builtInVolumeCurve }

/-- The Sound Engine at cold start (R144). -/
def SoundEngine.cold (tables : SoundTables) (unread : Nat) : SoundEngine :=
  { programs := tables.programs
    beatTable := tables.beatTable
    motionTable := tables.motionTable
    ambient := tables.ambient
    volumeCurve := tables.volumeCurve
    voices := List.replicate 4 Voice.cold
    reader := none
    output := 0
    unread := unread }

/-- The Smoke Controller at cold start (R156). -/
def SmokeController.cold : SmokeController :=
  { state := .off, temperature := 0, heater := false, fanDuty := 0, heatUpTimer := none, purgeTimer := none,
    dryWindow := [], puffTimer := none, puffDuty := 0 }

def LightOutput.dark : LightOutput := { lit := false, effectTimer := none, flicker := 0, applied := 0 }

/-- The Light Controller at cold start, its pseudo-random register seeded with 65536 less the own address (R162, R164). -/
def LightController.cold (ownAddress : Nat) : LightController :=
  { outputs := List.replicate 8 LightOutput.dark, ditchTimers := List.replicate 4 none, flareTimer := none,
    randomRegister := 65536 - ownAddress }

/-- The Supply Monitor at cold start (section 10.1). -/
def SupplyMonitor.cold (cause : ResetCause) (mark loaded configDefaults : Bool) : SupplyMonitor :=
  { state := .settle, shedLevel := 0, lowCount := 0, goodCount := 0, holdTimer := none, settleTimer := none,
    stepDownTimer := none, startCount := 0, resetCause := cause, brownoutMark := mark, loaded := loaded,
    configDefaultsInForce := configDefaults, vin := 0, vres := 0 }

/-- The part as power comes up, before a stored record has been read (log 5). -/
def Controller.powerOn (mark : Bool) : Controller :=
  { settings := Settings.builtIn
    air := AirInterface.cold Settings.builtIn.ownAddress false
    command := CommandUnit.cold
    motion := MotionUnit.cold CalValues.builtIn false
    beat := BeatCounter.cold Settings.builtIn
    consist := ConsistUnit.cold
    sound := SoundEngine.cold SoundTables.builtIn 0
    smoke := SmokeController.cold
    light := LightController.cold Settings.builtIn.ownAddress
    supply := SupplyMonitor.cold .powerOn mark false false
    counters := Counters.zero
    latches := Latches.clear }

end Sys2Proof.Machine
end

