-- ==== Sys2Proof/Machine/State.lean ====
section
/-! DEFINITION. The state of the machine, the reasons a step can stop, the state after reset, and one modifier per unit. -/

namespace Sys2Proof.Machine

/-- The machine: the part and the commands that wait for it, first in, first out. -/
structure State extends Controller where
  pending : List Instr
  deriving DecidableEq, Repr

/-- The part never stops: what goes wrong is a state, a counter or a latch (INVENTORY.md, Faults). Nothing raises a fault. -/
inductive Fault where
  deriving DecidableEq, Repr

inductive Refusal where
  /-- Raised by an arm of `exec` whose command has no meaning yet; safe. No arm raises it in this model. -/
  | notModelled (mnemonic : String)
  deriving DecidableEq, Repr

/-- Right after reset: power has come up, nothing has been loaded and nothing waits (log 5). -/
def State.reset : State := { toController := Controller.powerOn false, pending := [] }

/-- Change the part and leave the queue. -/
def State.update (s : State) (f : Controller → Controller) : State := { s with toController := f s.toController }

def Controller.onSettings (c : Controller) (f : Settings → Settings) : Controller := { c with settings := f c.settings }
def Controller.onAir (c : Controller) (f : AirInterface → AirInterface) : Controller := { c with air := f c.air }
def Controller.onCommand (c : Controller) (f : CommandUnit → CommandUnit) : Controller := { c with command := f c.command }
def Controller.onMotion (c : Controller) (f : MotionUnit → MotionUnit) : Controller := { c with motion := f c.motion }
def Controller.onBeat (c : Controller) (f : BeatCounter → BeatCounter) : Controller := { c with beat := f c.beat }
def Controller.onConsist (c : Controller) (f : ConsistUnit → ConsistUnit) : Controller := { c with consist := f c.consist }
def Controller.onSound (c : Controller) (f : SoundEngine → SoundEngine) : Controller := { c with sound := f c.sound }
def Controller.onSmoke (c : Controller) (f : SmokeController → SmokeController) : Controller := { c with smoke := f c.smoke }
def Controller.onLight (c : Controller) (f : LightController → LightController) : Controller := { c with light := f c.light }
def Controller.onSupply (c : Controller) (f : SupplyMonitor → SupplyMonitor) : Controller := { c with supply := f c.supply }
def Controller.onCounters (c : Controller) (f : Counters → Counters) : Controller := { c with counters := f c.counters }
def Controller.onLatches (c : Controller) (f : Latches → Latches) : Controller := { c with latches := f c.latches }

end Sys2Proof.Machine
end

