-- ==== Sys2Proof/Machine/Ops.lean ====
section
/-! DEFINITION. Shared operations: arithmetic of spec/00, counters and latches, transmit requests, action levels, and the two
judgements that follow every change of part mode, motion state or consist state. -/

namespace Sys2Proof.Machine

/-! ### Arithmetic (spec/00, Conventions) -/

def clampNat (low high x : Nat) : Nat := max low (min x high)

def clampInt (low high x : Int) : Int := max low (min x high)

/-- A count that saturates at `limit`. -/
def saturatingSucc (limit n : Nat) : Nat := min limit (n + 1)

/-- A timer that stops at its last millisecond: reaching 0 is the expiry, a step of its own (log 2). -/
def lowerTimer : Option Nat → Option Nat
  | some (n + 2) => some (n + 1)
  | t => t

/-- The timer has no more than its last millisecond left. -/
def timerDue : Option Nat → Bool
  | some n => n ≤ 1
  | none => false

/-! ### Diagnostic counters (R180) -/

/-- Every counter rises by one for each occurrence and stays at 255. -/
def countUp (n : Nat) : Nat := saturatingSucc 255 n

def Controller.countCheckFail (c : Controller) : Controller := c.onCounters fun k => { k with checkFail := countUp k.checkFail }
def Controller.countMalformed (c : Controller) : Controller := c.onCounters fun k => { k with malformed := countUp k.malformed }
def Controller.countRxOverrun (c : Controller) : Controller := c.onCounters fun k => { k with rxOverrun := countUp k.rxOverrun }
def Controller.countForeignDrive (c : Controller) : Controller :=
  c.onCounters fun k => { k with foreignDrive := countUp k.foreignDrive }
def Controller.countTxGiveup (c : Controller) : Controller := c.onCounters fun k => { k with txGiveup := countUp k.txGiveup }
def Controller.countJabber (c : Controller) : Controller := c.onCounters fun k => { k with jabber := countUp k.jabber }
/-- Up to four voices can run into underrun at one output instant (R134). -/
def Controller.countSoundUnderruns (n : Nat) (c : Controller) : Controller :=
  c.onCounters fun k => { k with soundUnderrun := min 255 (k.soundUnderrun + n) }
def Controller.countDropout (c : Controller) : Controller :=
  c.onCounters fun k => { k with dropoutCount := countUp k.dropoutCount }

/-! ### Transmit requests (R15) -/

/-- A request sets an empty slot with attempt count 0 and merges with a waiting one. -/
def TxSlot.file (slot : TxSlot) : TxSlot := if slot.requested then slot else { requested := true, attempts := 0 }

def Controller.fileJoin (c : Controller) : Controller := c.onAir fun a => { a with joinSlot := a.joinSlot.file }
def Controller.fileStatus (c : Controller) : Controller := c.onAir fun a => { a with statusSlot := a.statusSlot.file }
/-- The newest querier replaces the one held. -/
def Controller.fileDiag (querier : Nat) (c : Controller) : Controller :=
  c.onAir fun a => { a with diagSlot := a.diagSlot.file, querier := querier }

/-! ### Views of the state -/

/-- The ramped speed v_r (section 3.2). -/
def MotionUnit.rampedSpeed (m : MotionUnit) : Nat := m.ramp / 16

/-- The load (R68). -/
def MotionUnit.load (m : MotionUnit) : Nat := m.filteredCurrent / 4

/-- The fault latch of section 4.1: present exactly while the motion state is FAULTED. -/
def MotionUnit.faultLatch (m : MotionUnit) : Option FaultCause :=
  match m.state with
  | .faulted cause => some cause
  | _ => none

def MotionState.isCalibrating : MotionState → Bool
  | .calibrating _ => true
  | _ => false

def MotionState.isFaulted : MotionState → Bool
  | .faulted _ => true
  | _ => false

/-- The consist id held (section 6.1). -/
def ConsistUnit.consistId (k : ConsistUnit) : Option Nat := k.membership.map (·.consistId)

/-- The own consist address (section 1.2, Addresses). -/
def Controller.ownConsistAddress (c : Controller) : Option Nat := c.consist.consistId.map (0x1000 + ·)

/-! ### Action levels (R31, R32) -/

/-- Some function that is on has an action with this property. -/
def anyFunctionOn (map : List FunctionAction) (functions : BitVec 24) (p : FunctionAction → Bool) : Bool :=
  (List.range 24).any fun i => functions.getLsbD i && p (map.getD i .none)

def Controller.smokeEnableLevel (c : Controller) : Bool :=
  anyFunctionOn c.settings.functionMap c.command.functions (· == .smokeEnable)

def Controller.dimLevel (c : Controller) : Bool := anyFunctionOn c.settings.functionMap c.command.functions (· == .dim)

def Controller.shuntLevel (c : Controller) : Bool := anyFunctionOn c.settings.functionMap c.command.functions (· == .shunt)

/-- SOUND_ON is fixed on where the map gives it to no function. -/
def Controller.soundOnLevel (c : Controller) : Bool :=
  if c.settings.functionMap.any (· == .soundOn) then
    anyFunctionOn c.settings.functionMap c.command.functions (· == .soundOn)
  else true

/-- The mask of a LIGHTS function includes output `k` (R32). DESIGN CHOICE (log 31): bit `k`, least significant first, is output
`k`; section 2.4 gives one bit per output and no order. -/
def FunctionAction.lightsOutput (k : Nat) : FunctionAction → Bool
  | .lights mask => mask.getLsbD k
  | _ => false

/-- The lights-function level of output `k` (R32). -/
def Controller.lightsFunctionLevel (c : Controller) (k : Nat) : Bool :=
  anyFunctionOn c.settings.functionMap c.command.functions (FunctionAction.lightsOutput k)

/-! ### What follows a change of part mode, motion state or consist state -/

/-- The STATUS interval in force (R179). -/
def Controller.statusInterval (c : Controller) : Nat :=
  if c.command.partMode = .parked then 5000
  else if c.consist.state ≠ .solo ∨ c.motion.state = .moving ∨ c.motion.state.isCalibrating then 200
  else 1000

/-- When the interval in force becomes shorter, the time left is cut to it; otherwise it is kept (R179). -/
def Controller.cutStatusTimer (c : Controller) : Controller :=
  c.onAir fun a => { a with statusTimer := a.statusTimer.map (min · c.statusInterval) }

/-- The park conditions, with a park delay that is not 0 (R37). -/
def Controller.parkConditions (c : Controller) : Bool :=
  c.command.partMode == .run && c.motion.state == .idle && c.consist.state == .solo && c.settings.parkDelay != 0

/-- The park delay in ms (section 2.6). -/
def Settings.parkLimit (cfg : Settings) : Nat := cfg.parkDelay * 60000

/-- The park timer has reached the park delay (R38). -/
def Controller.parkDelayOver (c : Controller) : Bool := c.command.parkTimer.any (c.settings.parkLimit ≤ ·)

/-- The park timer runs while the conditions hold and starts from zero when they next hold (R37). -/
def Controller.judgePark (c : Controller) : Controller :=
  c.onCommand fun u => { u with parkTimer := if c.parkConditions then some (u.parkTimer.getD 0) else none }

/-- Both judgements. -/
def Controller.afterStateChange (c : Controller) : Controller := c.cutStatusTimer.judgePark

end Sys2Proof.Machine
end

