-- ==== Sys2Proof/Machine/LightOps.lean ====
section
/-! DEFINITION. The Light Controller's judgements and effects (chapter 9). -/

namespace Sys2Proof.Machine

def dark : OutputRecord := OutputRecord.builtIn

def Controller.outputRecord (c : Controller) (k : Nat) : OutputRecord := c.settings.outputs.getD k dark

/-- The role rule is met (R157): outside FORMED and BROKEN the locomotive counts as SOLO for its lights. -/
def roleRuleMet (state : ConsistState) (role : Option Role) : RoleRule → Bool
  | .any => true
  | .leadOnly => (state == .formed || state == .broken) && role == some .lead
  | .tailOnly => (state == .formed || state == .broken) && role == some .tail
  | .notInConsist => !(state == .formed || state == .broken)

def directionRuleMet (travel : Direction) : DirectionRule → Bool
  | .any => true
  | .forward => travel == .forward
  | .reverse => travel == .reverse

/-- The on-condition of output `k` (R157). -/
def Controller.onCondition (c : Controller) (k : Nat) : Bool :=
  c.lightsFunctionLevel k && directionRuleMet c.motion.travel (c.outputRecord k).directionRule
    && roleRuleMet c.consist.state (c.consist.membership.map (·.role)) (c.outputRecord k).roleRule

/-- Output `k` is lit (R158). -/
def Controller.isLit (c : Controller) (k : Nat) : Bool :=
  c.onCondition k && c.supply.shedLevel < 4 && (c.supply.shedLevel < 3 || (c.outputRecord k).essential)
    && !(c.command.partMode == .parked && (c.outputRecord k).parkRule == .off)

/-- The base level of a lit output `k` (R158). -/
def Controller.baseLevel (c : Controller) (k : Nat) : Nat :=
  if c.dimLevel || 3 ≤ c.supply.shedLevel || (c.command.partMode == .parked && (c.outputRecord k).parkRule == .dim) then
    (c.outputRecord k).dimLevel
  else (c.outputRecord k).level

/-- An output that turns lit starts its effect timer at 0, without a flicker value until its first draw (R162); one that turns
dark stops the timer and its applied level becomes 0 at once; one that stays as it is keeps both (R159). -/
def LightOutput.judge (lit : Bool) (o : LightOutput) : LightOutput :=
  if lit then
    if o.lit then o else { o with lit := true, effectTimer := some 0, flicker := 0 }
  else { o with lit := false, effectTimer := none, applied := 0 }

/-- At least one output of pair `k` is lit with effect DITCH (R161). -/
def Controller.pairDitching (c : Controller) (k : Nat) : Bool :=
  (c.isLit (2 * k) && (c.outputRecord (2 * k)).effect == .ditch)
    || (c.isLit (2 * k + 1) && (c.outputRecord (2 * k + 1)).effect == .ditch)

/-- Judge again which outputs are lit (R159) and which DITCH timers run (R161). -/
def Controller.judgeLights (c : Controller) : Controller :=
  c.onLight fun l =>
    { l with
      outputs := l.outputs.mapIdx fun k o => o.judge (c.isLit k)
      ditchTimers := l.ditchTimers.mapIdx fun k t => if c.pairDitching k then some (t.getD 0) else none }

/-! ### Effects -/

/-- The length of the cycle in which an effect timer is a position (R160, R162); STEADY and DITCH use none (log 23). -/
def Effect.cycle : Effect → Nat
  | .steady => 1
  | .flicker => 40
  | .pulse => 2000
  | .strobe => 1200
  | .ditch => 1
  | .mars => 1000

/-- The sweep of MARS between the dim level and the base level, truncated toward zero (R160). -/
def marsLevel (base dim t : Nat) : Nat :=
  let p : Int := if t < 500 then t else 1000 - t
  ((dim : Int) + Int.tdiv (((base : Int) - dim) * p) 500).toNat

/-- The applied level of the fixed cycles of R160 and of DITCH (R161). `t` is the position in the output's own cycle,
`ditch` the position of the pair's. FLICKER is `flickerLevel`. -/
def effectLevel (effect : Effect) (base dim t : Nat) (odd : Bool) (ditch : Nat) : Nat :=
  match effect with
  | .steady => base
  | .pulse => if t < 1000 then base * t / 1000 else base * (2000 - t) / 1000
  | .strobe => if t < 30 ∨ (100 ≤ t ∧ t < 130) then base else 0
  | .mars => marsLevel base dim t
  | .ditch => if (ditch < 500) = !odd then base else 0
  | .flicker => 0

/-- The next number of the pseudo-random register and of the backoff register (R17, R162). -/
def nextRandom (value : Nat) : Nat := value * 75 % 65537

/-- The flicker value that a draw gives from the new register value (R162). -/
def flickerDraw (base register : Nat) : Nat := base - register % (base / 4 + 1)

/-- The flare is in force: its timer runs and the shed level is below 3 (R163). -/
def Controller.flareInForce (c : Controller) : Bool :=
  (match c.light.flareTimer with
    | some n => 0 < n
    | none => false) && c.supply.shedLevel < 3

/-- The applied level of a FLICKER output (R162, R163). -/
def flickerLevel (flare : Bool) (value : Nat) : Nat := if flare then min 255 (value + 64) else value

/-- One lit output at one millisecond: draw where its position calls for one, compute the applied level, move the timer on.
The register runs through the outputs in ascending number (R162). -/
def lightOutputTick (c : Controller) (k register : Nat) (o : LightOutput) : LightOutput × Nat :=
  match o.effectTimer with
  | none => (o, register)
  | some t =>
    let record := c.outputRecord k
    let base := c.baseLevel k
    let next := some ((t + 1) % record.effect.cycle)
    if record.effect = .flicker then
      let register' := if t = 0 then nextRandom register else register
      let value := if t = 0 then flickerDraw base register' else o.flicker
      ({ o with flicker := value, applied := flickerLevel c.flareInForce value, effectTimer := next }, register')
    else
      let ditch := ((c.light.ditchTimers.getD (k / 2) none).getD 0)
      ({ o with applied := effectLevel record.effect base record.dimLevel t (k % 2 == 1) ditch, effectTimer := next },
        register)

/-- All outputs from number `k` on. -/
def lightOutputsTick (c : Controller) : Nat → Nat → List LightOutput → List LightOutput × Nat
  | _, register, [] => ([], register)
  | k, register, o :: rest =>
    let here := lightOutputTick c k register o
    let others := lightOutputsTick c (k + 1) here.2 rest
    (here.1 :: others.1, others.2)

/-- One millisecond of the Light Controller: applied levels, then the timers move on (R159 to R163). -/
def Controller.lightTick (c : Controller) : Controller :=
  let ticked := lightOutputsTick c 0 c.light.randomRegister c.light.outputs
  c.onLight fun l =>
    { l with
      outputs := ticked.1
      randomRegister := ticked.2
      ditchTimers := l.ditchTimers.map fun t => t.map fun n => (n + 1) % 1000
      flareTimer := l.flareTimer.map (· - 1) }

/-- A beat event starts or restarts the flare when its labour level is WORKING or HEAVY (R163). -/
def Controller.flareBeat (labour : LabourLevel) (c : Controller) : Controller :=
  c.onLight fun l => if labour = .working ∨ labour = .heavy then { l with flareTimer := some 60 } else l

/-- FLICKER outputs lose their raise when the flare ends (R163); one that has not drawn yet stays at 0. -/
def Controller.endFlare (c : Controller) : Controller :=
  c.onLight fun l =>
    { l with
      flareTimer := none
      outputs := l.outputs.mapIdx fun k o =>
        if o.lit ∧ (c.outputRecord k).effect = .flicker then { o with applied := flickerLevel false o.flicker } else o }

/-- Warm restart: every output dark, every timer stopped; the register is kept (R164). -/
def LightController.warm (l : LightController) : LightController :=
  { l with
    outputs := l.outputs.map (LightOutput.judge false)
    ditchTimers := l.ditchTimers.map fun _ => none
    flareTimer := none }

end Sys2Proof.Machine
end

