-- ==== Sys2Proof/Machine/PeerOps.lean ====
section
/-! DEFINITION. The peer table (section 1.5): finding, placing, recording, ageing, pinning. -/

namespace Sys2Proof.Machine

abbrev PeerTable := List (Option PeerEntry)

def PeerEntry.address : PeerEntry → Nat
  | .loco e => e.address
  | .marker a _ => a

/-- A pinned entry; a marker entry never is (section 1.5). -/
def PeerEntry.pinned : PeerEntry → Bool
  | .loco e => e.pinned
  | .marker _ _ => false

def PeerEntry.age : PeerEntry → Option Nat
  | .loco e => e.age
  | .marker _ n => some n

/-- A locomotive entry with only its address present. -/
def LocoEntry.bare (address : Nat) : LocoEntry :=
  { address := address, age := none, statusAge := none, pinned := false, status := none, joined := none }

/-- The index of the entry keyed by this address. -/
def findPeer (address : Nat) (table : PeerTable) : Option Nat :=
  table.findIdx? fun e =>
    match e with
    | some e => e.address == address
    | none => false

/-- The entry keyed by this address. -/
def peerEntry (address : Nat) (table : PeerTable) : Option PeerEntry := (findPeer address table).bind fun i => (table[i]?).join

/-- The locomotive entry keyed by this address. -/
def locoEntry (address : Nat) (table : PeerTable) : Option LocoEntry :=
  match peerEntry address table with
  | some (.loco e) => some e
  | _ => none

/-- A locomotive entry is fresh while its status age is present and below 10 (R13). -/
def LocoEntry.fresh (e : LocoEntry) : Bool :=
  match e.statusAge with
  | some n => n < 10
  | none => false

/-! ### Placement (R12) -/

/-- How good a victim an entry is: absent for a free or pinned entry, else its age plus one. -/
def victimRank : Option PeerEntry → Option Nat
  | some e => if e.pinned then none else some ((e.age.getD 0) + 1)
  | none => none

/-- The unpinned entry with the greatest age, the lowest index of several (R12): its index and rank. -/
def chooseVictim : Nat → PeerTable → Option (Nat × Nat)
  | _, [] => none
  | k, e :: rest =>
    match victimRank e, chooseVictim (k + 1) rest with
    | none, later => later
    | some n, none => some (k, n)
    | some n, some (j, m) => if n < m then some (j, m) else some (k, n)

/-- The index a new station takes: the lowest free entry, or the evicted one (R12). -/
def placementIndex (table : PeerTable) : Option Nat :=
  match table.findIdx? (·.isNone) with
  | some i => some i
  | none => (chooseVictim 0 table).map (·.1)

def placePeer (entry : PeerEntry) (table : PeerTable) : PeerTable :=
  match placementIndex table with
  | some i => table.set i (some entry)
  | none => table

/-- Find or make the locomotive entry of a station, turning a marker entry into one in place, and apply `record` to it (R9,
R10, R14). -/
def recordLoco (address : Nat) (record : LocoEntry → LocoEntry) (table : PeerTable) : PeerTable :=
  match findPeer address table with
  | some i =>
    match (table[i]?).join with
    | some (.loco e) => table.set i (some (.loco (record e)))
    | _ => table.set i (some (.loco (record (LocoEntry.bare address))))
  | none => placePeer (.loco (record (LocoEntry.bare address))) table

/-- Record a STATUS (R9). -/
def LocoEntry.heardStatus (fields : StatusFields) (e : LocoEntry) : LocoEntry :=
  { e with status := some fields, age := some 0, statusAge := some 0 }

/-- Record a JOIN (R10). -/
def LocoEntry.heardJoin (fields : JoinFields) (e : LocoEntry) : LocoEntry := { e with joined := some fields, age := some 0 }

/-- The E_STOP flag an entry held before; absent without status fields (R9). -/
def previousEStop (address : Nat) (table : PeerTable) : Option Bool :=
  (locoEntry address table).bind fun e => e.status.map (·.eStop)

/-- Record a MARKER from a station whose entry is not pinned (R11). -/
def recordMarker (address : Nat) (table : PeerTable) : PeerTable :=
  match findPeer address table with
  | some i => table.set i (some (.marker address 0))
  | none => placePeer (.marker address 0) table

/-- The station's entry is pinned (R11). -/
def peerPinned (address : Nat) (table : PeerTable) : Bool :=
  match peerEntry address table with
  | some e => e.pinned
  | none => false

/-! ### Ageing (R13) -/

def raiseAge (age : Option Nat) : Option Nat := age.map (saturatingSucc 255)

/-- One entry at the 100 ms tick: raised, and removed when stale and unpinned. -/
def agePeer : Option PeerEntry → Option PeerEntry
  | none => none
  | some (.marker a n) => if 100 ≤ saturatingSucc 255 n then none else some (.marker a (saturatingSucc 255 n))
  | some (.loco e) =>
    let aged : LocoEntry := { e with age := raiseAge e.age, statusAge := raiseAge e.statusAge }
    match aged.age with
    | some n => if !e.pinned && 40 ≤ n then none else some (.loco aged)
    | none => some (.loco aged)

def agePeers (table : PeerTable) : PeerTable := table.map agePeer

/-! ### Pinning (R14) -/

def pinPeer (address : Nat) (table : PeerTable) : PeerTable := recordLoco address (fun e => { e with pinned := true }) table

/-- An unpinned entry that was never heard is removed at once. -/
def unpinEntry (address : Nat) : Option PeerEntry → Option PeerEntry
  | some (.loco e) =>
    if e.address = address ∧ e.pinned then
      if e.age.isSome then some (.loco { e with pinned := false }) else none
    else some (.loco e)
  | e => e

def unpinPeer (address : Nat) (table : PeerTable) : PeerTable := table.map (unpinEntry address)

def Controller.onPeers (c : Controller) (f : PeerTable → PeerTable) : Controller := c.onAir fun a => { a with peers := f a.peers }

end Sys2Proof.Machine
end

