-- ==== Sys2Proof/Machine/SoundOps.lean ====
section
/-! DEFINITION. The Sound Engine's operations on voices: starting, pushing, resuming, letting go, ending, fetching and
playing (chapter 7). A `table` is the program table; a disabled program is absent from it. -/

namespace Sys2Proof.Machine

abbrev ProgramTable := List (Option Program)

def lookupProgram (table : ProgramTable) (n : Nat) : Option Program := (table[n]?).join

/-! ### Programs and segments -/

def Program.firstSegment (p : Program) : Segment := if p.attack.isSome then .attack else .body

/-- The number of samples of a segment; 0 where the program has none. -/
def Program.segmentLength (p : Program) : Segment → Nat
  | .attack => (p.attack.map (·.length)).getD 0
  | .body => p.body.length
  | .release => (p.release.map (·.length)).getD 0

/-- The cursor at the release, or END where the program has none (R129, R130). -/
def Program.releaseCursor (p : Program) : Cursor := if p.release.isSome then .fetch .release 0 else .ended

/-- Where the cursor moves when it passes the last sample of its segment (R130). -/
def Program.afterSegment (p : Program) (repeating : Bool) : Segment → Cursor
  | .attack => .fetch .body 0
  | .body => if repeating then .fetch .body 0 else p.releaseCursor
  | .release => .ended

/-! ### Halves -/

def HalfId.other : HalfId → HalfId
  | .h0 => .h1
  | .h1 => .h0

def Voice.half (v : Voice) : HalfId → HalfBuffer
  | .h0 => v.half0
  | .h1 => v.half1

def Voice.setHalf (v : Voice) (id : HalfId) (h : HalfBuffer) : Voice :=
  match id with
  | .h0 => { v with half0 := h }
  | .h1 => { v with half1 := h }

/-- A READY or PLAYING half becomes EMPTY; a FILLING half stays until its fill completes (R126). -/
def HalfBuffer.drop (h : HalfBuffer) : HalfBuffer :=
  match h.state with
  | .ready => HalfBuffer.empty
  | .playing => HalfBuffer.empty
  | _ => h

/-- The voice plays from a half. -/
def Voice.isPlaying (v : Voice) : Bool := v.half0.state == .playing || v.half1.state == .playing

def Voice.hasReady (v : Voice) : Bool := v.half0.state == .ready || v.half1.state == .ready

/-- A new playing on the voice: the generation advances, READY and PLAYING halves are dropped, next-fill and next-play become
H0 and the voice primes (R126, R132). -/
def Voice.renew (v : Voice) : Voice :=
  { v with
    generation := (v.generation + 1) % 65536
    half0 := v.half0.drop
    half1 := v.half1.drop
    nextFill := .h0
    nextPlay := .h0
    priming := true
    letGo := false }

/-! ### Starting, pushing, stopping -/

/-- A LOOP is held by a function or as the ambient program (R126). -/
def TriggerOrigin.holds : TriggerOrigin → Bool
  | .function => true
  | .ambient => true
  | _ => false

/-- Start a trigger's program (R126). -/
def Voice.startProgram (v : Voice) (p : Program) (t : Trigger) : Voice :=
  { v.renew with
    current := some { program := t.program, mask := t.priority, segment := p.firstSegment, offset := 0 }
    repeating := p.loop && t.origin.holds
    cursor := .fetch p.firstSegment 0 }

/-- Start the program a trigger names; a disabled program starts nothing (R121). -/
def Voice.start (table : ProgramTable) (v : Voice) (t : Trigger) : Voice :=
  match lookupProgram table t.program with
  | some p => v.startProgram p t
  | none => v

/-- Push the current program onto the resume stack (R127). -/
def Voice.push (v : Voice) : Voice :=
  match v.current with
  | none => v
  | some cur =>
    { v with
      stack :=
        { program := cur.program, segment := cur.segment, offset := cur.offset, mask := cur.mask,
          repeating := v.repeating, releaseDue := v.letGo && cur.segment != .release } :: v.stack }

/-- The voice becomes IDLE (R131 case 3; priming: log 21). -/
def Voice.becomeIdle (v : Voice) : Voice :=
  { v with
    current := none
    repeating := false
    letGo := false
    priming := false
    cursor := .ended
    generation := (v.generation + 1) % 65536 }

/-- Stop a voice at parking (R141): stack and pending trigger are cleared; a SOUNDING voice becomes IDLE and drops its
READY and PLAYING halves. -/
def Voice.stop (v : Voice) : Voice :=
  let v := { v with stack := [], pending := none }
  if v.current.isSome then { v.becomeIdle with half0 := v.half0.drop, half1 := v.half1.drop } else v

/-- A voice at a warm restart (R145, section 7.2). -/
def Voice.warm (v : Voice) : Voice :=
  { v.becomeIdle with
    stack := []
    pending := none
    half0 := v.half0.drop
    half1 := v.half1.drop
    nextFill := .h0
    nextPlay := .h0 }

/-! ### The end of a program -/

/-- Resume a stack entry at its place, or at its release if that is due (R132). -/
def Voice.resume (p : Program) (v : Voice) (e : ResumeEntry) : Voice :=
  if e.releaseDue then
    { v.renew with
      current := some { program := e.program, mask := e.mask, segment := .release, offset := 0 }
      repeating := e.repeating
      cursor := p.releaseCursor }
  else
    { v.renew with
      current := some { program := e.program, mask := e.mask, segment := e.segment, offset := e.offset }
      repeating := e.repeating
      cursor := .fetch e.segment e.offset }

/-- The pending trigger goes before a resumed program of this mask (R131 case 1). -/
def pendingBefore (pending : Option Trigger) (mask : Nat) : Bool :=
  match pending with
  | some t => mask < t.priority
  | none => false

/-- A program ends (R131): start the pending trigger, or resume the stack, or become IDLE. A release-due entry of a program
without a release ends at once in its turn (R132). -/
def Voice.endProgram (table : ProgramTable) : List ResumeEntry → Voice → Voice
  | [], v =>
    match v.pending with
    | some t => Voice.start table { v with stack := [], pending := none } t
    | none => { v.becomeIdle with stack := [] }
  | e :: rest, v =>
    if pendingBefore v.pending e.mask then
      match v.pending with
      | some t => Voice.start table { v with stack := e :: rest, pending := none } t
      | none => v
    else
      match lookupProgram table e.program with
      | none => Voice.endProgram table rest { v with stack := rest }
      | some p =>
        let resumed := Voice.resume p { v with stack := rest } e
        if e.releaseDue && p.release.isNone then Voice.endProgram table rest resumed else resumed

/-- A fill of the present generation is in flight for this voice (R131). -/
def fillInFlight (reader : Option Fill) (index : Nat) (v : Voice) : Bool :=
  match reader with
  | some f => f.voice == index && f.tag == v.generation
  | none => false

/-- The condition of R131 under which a program has ended. -/
def Voice.exhausted (reader : Option Fill) (index : Nat) (v : Voice) : Bool :=
  v.current.isSome && !v.isPlaying && !v.hasReady && !fillInFlight reader index v && v.cursor == .ended && !v.priming

def Voice.endIfExhausted (table : ProgramTable) (reader : Option Fill) (index : Nat) (v : Voice) : Voice :=
  if v.exhausted reader index then Voice.endProgram table v.stack v else v

/-! ### Triggers -/

/-- A trigger becomes pending, replaces the pending trigger, or is discarded (R128). -/
def Voice.hold (v : Voice) (t : Trigger) : Voice :=
  match v.pending with
  | none => { v with pending := some t }
  | some held => if held.priority ≤ t.priority then { v with pending := some t } else v

/-- A voice judges a trigger of the enabled program `p`, by the first row that applies (R125). -/
def Voice.judge (p : Program) (v : Voice) (t : Trigger) : Voice :=
  match v.current with
  | none => v.startProgram p t
  | some cur =>
    if cur.mask < t.priority then
      if v.stack.length < 2 then v.push.startProgram p t else v.hold t
    else if cur.program = t.program ∧ p.loop ∧ v.repeating then v
    else if cur.program = t.program ∧ t.origin = .beat then v.startProgram p t
    else v.hold t

/-- Let go of program `n` on its voice, everywhere it stands (R129). DESIGN CHOICE (log 33): the pending trigger is discarded
for a ONESHOT program too, whose current playing is not affected. DESIGN CHOICE (log 35): only the cursor moves; with nothing
fetched the play position stays in ATTACK or BODY until the fill of the release is accepted. -/
def Voice.release (p : Program) (n : Nat) (v : Voice) : Voice :=
  let v :=
    match v.current with
    | some cur =>
      if cur.program = n ∧ p.loop ∧ v.repeating then
        { v with
          repeating := false
          letGo := true
          cursor :=
            match v.cursor with
            | .fetch .attack _ => p.releaseCursor
            | .fetch .body _ => p.releaseCursor
            | other => other }
      else v
    | none => v
  { v with
    stack := v.stack.map fun e => if e.program = n ∧ e.repeating then { e with repeating := false, releaseDue := true } else e
    pending :=
      match v.pending with
      | some t => if t.program = n then none else some t
      | none => none }

/-! ### The engine -/

def SoundEngine.onVoice (e : SoundEngine) (index : Nat) (f : Voice → Voice) : SoundEngine :=
  { e with voices := e.voices.modify index f }

/-- Give the program's trigger to its voice; a disabled program or no program starts nothing (R121, R122, R123). -/
def SoundEngine.trigger (e : SoundEngine) (n : Option Nat) (origin : TriggerOrigin) : SoundEngine :=
  match n with
  | none => e
  | some n =>
    match lookupProgram e.programs n with
    | none => e
    | some p => e.onVoice p.voice fun v => v.judge p { program := n, priority := p.priority, origin := origin }

/-- Let go of a program on its voice; it ends where nothing of it is left (R129, R131). -/
def SoundEngine.letGo (e : SoundEngine) (n : Option Nat) : SoundEngine :=
  match n with
  | none => e
  | some n =>
    match lookupProgram e.programs n with
    | none => e
    | some p => e.onVoice p.voice fun v => (v.release p n).endIfExhausted e.programs e.reader p.voice

/-- The number of a labour level in the beat table (section 7.1). -/
def LabourLevel.index : LabourLevel → Nat
  | .coast => 0
  | .light => 1
  | .working => 2
  | .heavy => 3

/-- The trigger of a beat event (R122). -/
def SoundEngine.beatTrigger (e : SoundEngine) (labour : LabourLevel) (phase : Nat) : SoundEngine :=
  e.trigger (e.beatTable.getD (labour.index * 4 + phase) none) .beat

/-- The four motion events (R58). -/
inductive MotionEvent where | depart | arrive | reverse | eStop
  deriving DecidableEq, Repr

def MotionEvent.index : MotionEvent → Nat
  | .depart => 0
  | .arrive => 1
  | .reverse => 2
  | .eStop => 3

/-- The trigger of a motion event (R123). -/
def SoundEngine.motionTrigger (e : SoundEngine) (event : MotionEvent) : SoundEngine :=
  e.trigger (e.motionTable.getD event.index none) .motion

def Controller.raise (event : MotionEvent) (c : Controller) : Controller := c.onSound (·.motionTrigger event)

/-- The ambient trigger, given while SOUND_ON is on (R124). -/
def Controller.triggerAmbient (c : Controller) : Controller :=
  if c.soundOnLevel then c.onSound fun e => e.trigger e.ambient .ambient else c

/-- What the Sound Engine does when the part mode becomes PARKED (R141). -/
def SoundEngine.park (e : SoundEngine) : SoundEngine :=
  let stopped : SoundEngine := { e with voices := e.voices.mapIdx fun k v => if k < 3 then v.stop else v }
  stopped.letGo stopped.ambient

/-- Warm restart (R145). -/
def SoundEngine.warm (e : SoundEngine) : SoundEngine := { e with voices := e.voices.map Voice.warm }

/-! ### Fetching (R136, R137) -/

/-- Samples left to play in the PLAYING half; 0 without one (R136). -/
def Voice.samplesLeft (v : Voice) : Nat :=
  let left (h : HalfBuffer) : Nat :=
    if h.state = .playing then h.offset + h.count - (v.current.map (·.offset)).getD 0 else 0
  left v.half0 + left v.half1

/-- Eligible for a fill (R136). -/
def Voice.eligible (v : Voice) : Bool :=
  v.current.isSome && v.cursor != .ended && (v.half v.nextFill).state == .empty

/-- The eligible voice with the fewest samples left, the lowest-numbered of several (R136): its number and what it has left. -/
def chooseVoice : Nat → List Voice → Option (Nat × Nat)
  | _, [] => none
  | k, v :: rest =>
    let later := chooseVoice (k + 1) rest
    if v.eligible then
      match later with
      | some (j, n) => if n < v.samplesLeft then some (j, n) else some (k, v.samplesLeft)
      | none => some (k, v.samplesLeft)
    else later

/-- A grant to this voice: the next-fill half becomes FILLING with the lesser of 64 and the samples left in the cursor's
segment, next-fill changes over and the cursor advances (R130, R136). -/
def Voice.grant (table : ProgramTable) (v : Voice) : Voice :=
  match v.current, v.cursor with
  | some cur, .fetch segment offset =>
    match lookupProgram table cur.program with
    | none => v
    | some p =>
      let n := min 64 (p.segmentLength segment - offset)
      { v.setHalf v.nextFill { state := .filling, segment := segment, offset := offset, count := n, samples := [] } with
        nextFill := v.nextFill.other
        cursor :=
          if offset + n < p.segmentLength segment then .fetch segment (offset + n)
          else p.afterSegment v.repeating segment }
  | _, _ => v

/-- The fetch arbiter's choice and grant; nothing while the reader is busy or no voice is eligible (R136). -/
def SoundEngine.grantFill (e : SoundEngine) : SoundEngine :=
  match e.reader, chooseVoice 0 e.voices with
  | none, some (k, _) =>
    match e.voices[k]? with
    | none => e
    | some v =>
      { e.onVoice k (Voice.grant e.programs) with
        reader := some { voice := k, half := v.nextFill, tag := v.generation } }
  | _, _ => e

/-- The bytes of a completed fill: what the store returned, and free values for what it did not (R177, log 17). -/
def filledSamples (unread count : Nat) (samples : List Byte) : List Byte :=
  samples.take count ++ (List.range (count - samples.length)).map fun i => Config.unreadSample (unread + i)

/-- A completed fill of the present generation: the half becomes READY, and it plays at once where the voice has no PLAYING
half, priming or in underrun, from the half's first sample on (R134, R135, R137). DEDUCED (log 39): next-play stands and so
names the half that plays. -/
def Voice.accept (v : Voice) (id : HalfId) (samples : List Byte) : Voice :=
  let h := v.half id
  if v.isPlaying then v.setHalf id { h with state := .ready, samples := samples }
  else
    { v.setHalf id { h with state := .playing, samples := samples } with
      priming := false
      current := v.current.map fun cur => { cur with segment := h.segment, offset := h.offset } }

/-- A fill completes (R137): with the voice's generation as its tag it is accepted, otherwise its samples are discarded and
the half becomes EMPTY. The reader is then free. -/
def SoundEngine.completeFill (e : SoundEngine) (samples : List Byte) : SoundEngine :=
  match e.reader with
  | none => e
  | some f =>
    match e.voices[f.voice]? with
    | none => { e with reader := none }
    | some v =>
      let count := (v.half f.half).count
      if f.tag = v.generation then
        { e.onVoice f.voice (·.accept f.half (filledSamples e.unread count samples)) with
          reader := none
          unread := e.unread + (count - samples.length) }
      else { e.onVoice f.voice (·.setHalf f.half HalfBuffer.empty) with reader := none }

/-! ### Playing (R133, R134) -/

/-- The PLAYING half of a voice. -/
def Voice.playingHalf (v : Voice) : Option HalfId :=
  if v.half0.state = .playing then some .h0 else if v.half1.state = .playing then some .h1 else none

/-- The sample a voice contributes at an output instant, as a signed number; 0 without a PLAYING half (R133). -/
def Voice.contribution (v : Voice) : Int :=
  match v.playingHalf, v.current with
  | some id, some cur => ((v.half id).samples.getD (cur.offset - (v.half id).offset) 0#8).toInt
  | _, _ => 0

/-- The gain of a voice's current program; 0 for an IDLE voice (R133). -/
def Voice.gain (table : ProgramTable) (v : Voice) : Nat :=
  match v.current with
  | some cur => ((lookupProgram table cur.program).map (·.gain)).getD 0
  | none => 0

/-- After a half is exhausted (R134): the other half plays, or the voice is in underrun (`true`: to be counted), or the
program has run out. -/
def Voice.afterExhaustion (table : ProgramTable) (reader : Option Fill) (index : Nat) (v : Voice) (cur : Playing)
    (other : HalfId) : Voice × Bool :=
  let h := v.half other
  if h.state = .ready then
    ({ v.setHalf other { h with state := .playing } with
        current := some { cur with segment := h.segment, offset := h.offset } }, false)
  else if h.state = .filling ∧ fillInFlight reader index v then
    ({ v with current := some { cur with segment := h.segment, offset := h.offset } }, true)
  else
    match v.cursor with
    | .fetch segment offset => ({ v with current := some { cur with segment := segment, offset := offset } }, true)
    | .ended => (Voice.endProgram table v.stack v, false)

/-- A voice takes its next sample (R133); `true` when SOUND_UNDERRUN is to be counted (R134). DEDUCED (log 39):
next-play becomes the half that plays after an exhaustion, and stands while it does. -/
def Voice.takeSample (table : ProgramTable) (reader : Option Fill) (index : Nat) (v : Voice) : Voice × Bool :=
  match v.playingHalf, v.current with
  | some id, some cur =>
    let h := v.half id
    if cur.offset + 1 < h.offset + h.count then ({ v with current := some { cur with offset := cur.offset + 1 } }, false)
    else
      Voice.afterExhaustion table reader index { v.setHalf id HalfBuffer.empty with nextPlay := id.other } cur id.other
  | _, _ => (v, false)

/-- The effective level of the mixer (R139). -/
def effectiveLevel (master shed : Nat) : Nat := if 2 ≤ shed then master - 4 else master

/-- The mixer is muted (R140), or the part mode is START (R138). -/
def Controller.muted (c : Controller) : Bool :=
  3 ≤ c.supply.shedLevel || !c.soundOnLevel || c.command.partMode == .start

/-- The mixer's value for these voices (R138): the sum of sample x gain x vol, divided by 4096 toward zero, saturated. -/
def mix (table : ProgramTable) (vol : Nat) (voices : List Voice) : Int :=
  let sum : Int := (voices.map fun v => v.contribution * (v.gain table : Int) * (vol : Int)).sum
  clampInt (-2048) 2047 (Int.tdiv sum 4096)

/-- The value sent to the audio output at this instant (R138 to R140). -/
def Controller.audioOutput (c : Controller) : Int :=
  if c.muted then 0
  else
    mix c.sound.programs (c.sound.volumeCurve.getD (effectiveLevel c.settings.masterLevel c.supply.shedLevel) 0)
      c.sound.voices

/-- One output instant (R133, R134, R138): the mixer's value goes out, every voice takes its sample, underruns are counted. -/
def Controller.outputInstant (c : Controller) : Controller :=
  let taken := c.sound.voices.mapIdx fun k v => v.takeSample c.sound.programs c.sound.reader k
  (c.onSound fun e => { e with output := c.audioOutput, voices := taken.map (·.1) }).countSoundUnderruns
    (taken.countP (·.2))

end Sys2Proof.Machine
end

