-- ==== Sys2Proof/Machine/MotionOps.lean ====
section
/-! DEFINITION. The Motion Unit's operations: changes of motion state, emergency stops, faults, calibration aborts, speed
curves, targets, the ramp and the regulator (chapters 3 and 4), with the caps and the trim that the Consist Unit supplies
(R110, R111, R115). -/

namespace Sys2Proof.Machine

/-! ### Changes of the motion state (R41) -/

/-- The four STATUS flags that follow the motion state (section 3.1): E_STOP, STALL, DRIVE_FAULT, CALIBRATING. -/
def MotionState.flags : MotionState → Bool × Bool × Bool × Bool
  | .idle => (false, false, false, false)
  | .moving => (false, false, false, false)
  | .eStopped => (true, false, false, false)
  | .faulted .stall => (false, true, false, false)
  | .faulted .driveFault => (false, false, true, false)
  | .calibrating _ => (false, false, false, true)

/-- Set the motion state; a change of one of its flags files a STATUS request (R41, R72, R75). -/
def Controller.setMotionState (state : MotionState) (c : Controller) : Controller :=
  let changed := (c.onMotion fun m => { m with state := state }).afterStateChange
  if c.motion.state.flags = state.flags then changed else changed.fileStatus

/-- The duty is forced to 0 outside the control period (R60), and I with it: the regulator runs again with I at 0 (R65,
R167). With the duty at 0 the labour level is COAST (R74, log 26). -/
def Controller.driveOff (c : Controller) : Controller :=
  c.onMotion fun m => { m with duty := 0, integrator := 0, labour := .coast }

/-- The drive off and R at 0 (R56). -/
def Controller.standStill (c : Controller) : Controller := c.driveOff.onMotion fun m => { m with ramp := 0 }

/-- Abort or end a calibration: duty and I become 0, R is 0, sums and new values are discarded, the old values stay in force
(R77, R79, R80); the motion state becomes `state`. -/
def Controller.leaveCalibration (state : MotionState) (c : Controller) : Controller :=
  (c.onMotion fun m =>
    { m with duty := 0, ramp := 0, integrator := 0, calibration := none, labour := .coast }).setMotionState state

/-- An emergency stop request (R56). I becomes 0 at once, so that a regulator that runs again starts with I at 0 (R65). The
setpoint stands until the next period, while the labour level is COAST with the state (R74, log 26). -/
def Controller.emergencyStop (c : Controller) : Controller :=
  match c.motion.state with
  | .idle => (c.standStill.setMotionState .eStopped).raise .eStop
  | .moving => (c.standStill.setMotionState .eStopped).raise .eStop
  | .calibrating _ => (c.leaveCalibration .eStopped).raise .eStop
  | .eStopped => c
  | .faulted _ => c

/-- A drive notice with this clamped step (R57). -/
def Controller.driveNotice (step : Nat) (c : Controller) : Controller :=
  match c.motion.state with
  | .eStopped => if step = 0 then c.setMotionState .idle else c
  | .faulted _ => if step = 0 then c.setMotionState .idle else c
  | .calibrating _ => if 0 < step then c.leaveCalibration .idle else c
  | .idle => c
  | .moving => c

/-- Latch a fault (R72). The setpoint stands until the next period, while the labour level is COAST with the state (R74, log
26). -/
def Controller.latchFault (cause : FaultCause) (c : Controller) : Controller :=
  (c.onMotion fun m =>
    { m with
      duty := 0, ramp := 0, integrator := 0, stallCount := 0, calibration := none, labour := .coast }).setMotionState
    (.faulted cause)

/-- A calibration in progress is aborted to IDLE (R80): supply state leaving NORMAL, sensor notice. -/
def Controller.abortCalibration (c : Controller) : Controller :=
  if c.motion.state.isCalibrating then c.leaveCalibration .idle else c

/-! ### Speed curves (R44, R45, R106) -/

/-- The own curve (R44). -/
def ownCurve (points : List Nat) (step : Nat) : Nat :=
  if step = 0 then 0
  else if 96 ≤ step then points.getD 16 0
  else
    points.getD (step / 6) 0 + (points.getD (step / 6 + 1) 0 - points.getD (step / 6) 0) * (step % 6) / 6

/-- The consist curve (R106). -/
def consistCurve (common : CommonParameters) (step : Nat) : Nat :=
  if step = 0 then 0 else common.vmin + (common.vtop - common.vmin) * (step - 1) / 95

/-- The common parameters while the consist state is FORMED or BROKEN. -/
def ConsistUnit.commonInForce (k : ConsistUnit) : Option CommonParameters :=
  match k.state with
  | .formed => k.common
  | .broken => k.common
  | _ => none

/-- The curve in force (R45). -/
def Controller.curveInForce (c : Controller) (step : Nat) : Nat :=
  match c.consist.commonInForce with
  | some common => consistCurve common step
  | none => ownCurve c.settings.curve step

/-- The command target (R45). -/
def Controller.commandTarget (c : Controller) : Nat :=
  if c.command.partMode = .parked then 0
  else if c.shuntLevel then c.curveInForce c.command.commandedStep / 2
  else c.curveInForce c.command.commandedStep

/-! ### Caps (R48, R110, R111) -/

/-- The block's aspect; a block silent for 2000 periods is UNKNOWN (R47, log 19). -/
def BlockRecord.effectiveAspect (b : BlockRecord) : Aspect := if 2000 ≤ b.age then .unknown else b.aspect

/-- The own marker cap (R48). -/
def Controller.markerCap (c : Controller) : Option Nat :=
  if c.settings.markerUse then
    match c.motion.block.effectiveAspect with
    | .clear => none
    | .caution => some (c.curveInForce c.motion.block.capStep)
    | .restrict => some (c.curveInForce c.settings.restrictedStep)
    | .stop => some 0
    | .unknown => some (c.curveInForce c.settings.restrictedStep)
  else none

/-- The least of the values that are present. -/
def leastPresent : List (Option Nat) → Option Nat
  | [] => none
  | none :: rest => leastPresent rest
  | some n :: rest =>
    match leastPresent rest with
    | some m => some (min n m)
    | none => some n

/-- The other members' records; none in SOLO. -/
def ConsistUnit.others (k : ConsistUnit) : List MemberRecord := (k.membership.map (·.others)).getD []

/-- The status fields of another member whose peer entry is fresh. -/
def Controller.freshStatus (c : Controller) (address : Nat) : Option StatusFields :=
  (locoEntry address c.air.peers).bind fun e => if e.fresh then e.status else none

/-- The merged consist cap (R110). -/
def Controller.mergedCap (c : Controller) : Option Nat :=
  match c.consist.state, c.consist.common with
  | .formed, some common =>
    if common.capShare then
      leastPresent (c.markerCap :: c.consist.others.map fun o => (c.freshStatus o.address).bind (·.cap))
    else none
  | _, _ => none

/-- The consist stop cap is present (R111). -/
def ConsistUnit.stopCap (k : ConsistUnit) : Bool := k.state == .broken || k.consistFault || k.signalLossStop

/-- The consist top speed as a term of the target (R50). -/
def ConsistUnit.topSpeed (k : ConsistUnit) : Option Nat :=
  match k.state with
  | .formed => k.common.map (·.vtop)
  | _ => none

/-- The effective target (R50); `waiting` while a reversal is waiting (R52). -/
def Controller.effectiveTarget (waiting : Bool) (c : Controller) : Nat :=
  if c.motion.state = .eStopped ∨ c.motion.state.isFaulted ∨ c.motion.state.isCalibrating ∨ waiting then 0
  else
    (leastPresent
      [some c.commandTarget, c.markerCap, c.mergedCap, if c.consist.stopCap then some 0 else none, c.consist.topSpeed]).getD 0

/-! ### Direction (R51, R52) -/

def Direction.opposite : Direction → Direction
  | .forward => .reverse
  | .reverse => .forward

/-- The demanded direction (R51). -/
def Controller.demandedDirection (c : Controller) : Direction :=
  match c.consist.membership.map (·.orientation) with
  | some Orientation.reversed => c.command.requestedDirection.opposite
  | _ => c.command.requestedDirection

/-- The drive may be regulated: supply state NORMAL or DROPOUT (R52, R55, R65). -/
def SupplyState.drives : SupplyState → Bool
  | .normal => true
  | .dropout => true
  | _ => false

/-- The direction stage runs (R52). -/
def Controller.directionStageRuns (c : Controller) : Bool := !c.motion.state.isCalibrating && c.supply.state.drives

/-- A reversal is waiting (R52). -/
def Controller.reversalWaiting (c : Controller) : Bool :=
  c.directionStageRuns && c.demandedDirection != c.motion.travel && 0 < c.motion.rampedSpeed

/-- The direction stage: at standstill the travel direction takes the demanded direction, REVERSE is raised and a STATUS
request filed (R52). -/
def Controller.directionStage (c : Controller) : Controller :=
  if c.directionStageRuns && c.demandedDirection != c.motion.travel && c.motion.rampedSpeed == 0 then
    ((c.onMotion fun m => { m with travel := c.demandedDirection }).raise .reverse).fileStatus
  else c

/-! ### The ramp (R53 to R55) -/

/-- A rate, with the SHUNT multiplier (R54). -/
def shuntRate (shunt : Bool) (rate : Nat) : Nat := if shunt then min 255 (4 * rate) else rate

/-- The acceleration and deceleration rates in force (R54). -/
def Controller.ratesInForce (c : Controller) : Nat × Nat :=
  match c.consist.commonInForce with
  | some common => (shuntRate c.shuntLevel common.accel, shuntRate c.shuntLevel common.decel)
  | none => (shuntRate c.shuntLevel c.settings.accel, shuntRate c.shuntLevel c.settings.decel)

/-- R moves toward the ramp target (R53). -/
def rampToward (accel decel target ramp : Nat) : Nat :=
  if ramp < target then min (ramp + accel) target
  else if target < ramp then max (ramp - decel) target
  else ramp

/-- The ramp sense (R53). -/
def senseOf (before after : Nat) : RampSense :=
  if before < after then .rising else if after < before then .falling else .steady

/-- v_r has risen from 0 or fallen to 0: the motion state changes and the event is raised (R41, R53, R58). -/
def Controller.judgeDeparture (before : Nat) (c : Controller) : Controller :=
  if before = 0 ∧ 0 < c.motion.rampedSpeed then (c.setMotionState .moving).raise .depart
  else if 0 < before ∧ c.motion.rampedSpeed = 0 then (c.setMotionState .idle).raise .arrive
  else c

/-- The ramp stage (R53, R55). -/
def Controller.rampStage (waiting : Bool) (c : Controller) : Controller :=
  match c.motion.state with
  | .eStopped => c.onMotion fun m => { m with ramp := 0, rampSense := .steady }
  | .faulted _ => c.onMotion fun m => { m with ramp := 0, rampSense := .steady }
  | .calibrating _ => c.onMotion fun m => { m with ramp := 0, rampSense := .steady }
  | _ =>
    if c.supply.state.drives then
      let r := rampToward c.ratesInForce.1 c.ratesInForce.2 (16 * c.effectiveTarget waiting) c.motion.ramp
      (c.onMotion fun m => { m with ramp := r, rampSense := senseOf m.ramp r }).judgeDeparture c.motion.rampedSpeed
    else c.onMotion fun m => { m with rampSense := .steady }

/-- The re-seat at the end of SETTLE (R55, R168). -/
def Controller.reseat (c : Controller) : Controller :=
  let seated := c.onMotion fun m => { m with ramp := min m.ramp (16 * m.measuredSpeed) }
  if c.motion.state = .idle ∨ c.motion.state = .moving then seated.judgeDeparture c.motion.rampedSpeed else seated

/-! ### Measurement, setpoint, regulation, limits (R63 to R73) -/

/-- The measured speed of a back-EMF reading (R63). -/
def measuredSpeed (kbs bemf : Nat) : Nat := min 4095 (bemf * kbs / 256)

/-- The load-share trim from the own load and the contributors' loads (R115). -/
def trimOf (gain trimMax own : Nat) (others : List Nat) : Int :=
  if others = [] then 0
  else
    let mean := (own + others.sum) / (others.length + 1)
    clampInt (-(trimMax : Int)) trimMax (Int.tdiv (((mean : Int) - own) * gain) 16)

/-- The load-share trim (R115). DESIGN CHOICE (log 32): v_r is the one that the ramp stage of the present period has formed,
while the own load is the one last published. -/
def Controller.trim (c : Controller) : Int :=
  match c.consist.state, c.consist.common with
  | .formed, some common =>
    if common.loadShare ∧ 0 < c.motion.rampedSpeed then
      trimOf c.settings.shareGain c.settings.trimMax c.motion.load
        (c.consist.others.filterMap fun o => (c.freshStatus o.address).map (·.load))
    else 0
  | _, _ => 0

/-- The setpoint (R64). -/
def Controller.setpointOf (c : Controller) : Nat :=
  if c.motion.rampedSpeed = 0 then 0 else (clampInt 0 4095 ((c.motion.rampedSpeed : Int) + c.trim)).toNat

/-- What one period's regulation stage gives: the integrator, and the raw duty, absent where the duty is 0 without limits. -/
structure Regulation where
  integrator : Int
  rawDuty : Option Int
  deriving DecidableEq, Repr

/-- The integrator after conditional integration (R66). -/
def integrate (dutyCap previousDuty : Nat) (e i : Int) : Int :=
  if (previousDuty = dutyCap ∧ 0 < e) ∨ (previousDuty = 0 ∧ e < 0) then i else clampInt (-32768) 32767 (i + e)

/-- The regulator (R65 to R67) for setpoint v_s and measured speed v_m. -/
def regulator (cfg : Settings) (kff previousDuty setpoint measured : Nat) (i : Int) : Regulation :=
  if setpoint = 0 then { integrator := 0, rawDuty := none }
  else
    let e : Int := (setpoint : Int) - measured
    let i' := integrate cfg.dutyCap previousDuty e i
    { integrator := i'
      rawDuty :=
        some (((setpoint * kff / 4096 : Nat) : Int) + Int.tdiv (e * cfg.kp) 64 + Int.tdiv (i' * cfg.ki) 256) }

/-- The filtered current (R68). -/
def filterCurrent (filtered current : Nat) : Nat := ((filtered : Int) + Int.tdiv ((current : Int) - filtered) 8).toNat

/-- The duty under the foldback ceiling of R69. -/
def foldback (folding : Bool) (previousDuty duty : Nat) : Nat := if folding then min duty (previousDuty - 16) else duty

/-- The duty of the period (R70). -/
def limitDuty (dutyCap previousDuty : Nat) (folding : Bool) : Option Int → Nat
  | none => 0
  | some raw => foldback folding previousDuty (clampInt 0 dutyCap raw).toNat

/-- The stall count at the end of the limits stage (R73). -/
def nextStallCount (stallDuty duty measured count : Nat) : Nat :=
  if stallDuty ≤ duty ∧ measured < 40 then saturatingSucc 400 count else 0

/-- The duty that calibration asks for in this period (R75, R77, R78). -/
def calibrationDuty (phase : CalPhase) (record : Option CalRecord) : Option Int :=
  match phase, record with
  | .store, _ => none
  | _, some r => some r.dcal
  | _, none => none

/-- The regulation stage (R65, R75). -/
def Controller.regulationStage (c : Controller) : Regulation :=
  match c.motion.state with
  | .eStopped => { integrator := 0, rawDuty := none }
  | .faulted _ => { integrator := 0, rawDuty := none }
  | .calibrating phase => { integrator := 0, rawDuty := calibrationDuty phase c.motion.calibration }
  | _ =>
    if c.supply.state.drives then
      regulator c.settings c.motion.inForce.kff c.motion.duty c.motion.setpoint c.motion.measuredSpeed c.motion.integrator
    else { integrator := 0, rawDuty := none }

/-- Measurement and setpoint stages (R63, R64). -/
def Controller.measurementStage (bemf : Nat) (c : Controller) : Controller :=
  c.onMotion fun m =>
    { m with bemf := bemf, measuredSpeed := measuredSpeed m.inForce.kbs bemf, setpoint := c.setpointOf }

/-- Regulation and limits stages with the period current (R65 to R70, R73). -/
def Controller.limitsStage (current : Nat) (c : Controller) : Controller :=
  let filtered := filterCurrent c.motion.filteredCurrent current
  let regulation := c.regulationStage
  let duty := limitDuty c.settings.dutyCap c.motion.duty (c.settings.currentLimit < filtered) regulation.rawDuty
  c.onMotion fun m =>
    { m with
      periodCurrent := current
      filteredCurrent := filtered
      integrator := regulation.integrator
      duty := duty
      stallCount := nextStallCount c.settings.stallDuty duty m.measuredSpeed m.stallCount }

/-- What a period adds to a calibration record (R75, R76). A phase timer at 0 waits for SPINUP_END or MEASURE_END. -/
def CalRecord.period (phase : CalPhase) (bemf wheelSpeed duty : Nat) (r : CalRecord) : CalRecord :=
  if r.phaseTimer = 0 then r
  else
    match phase with
    | .spinup => { r with phaseTimer := r.phaseTimer - 1 }
    | .measure =>
      { r with
        phaseTimer := r.phaseTimer - 1
        bemfSum := r.bemfSum + bemf
        wheelSum := r.wheelSum + wheelSpeed
        foldbackSeen := r.foldbackSeen || duty < r.dcal }
    | .store => r

def Controller.calibrationStage (c : Controller) : Controller :=
  match c.motion.state with
  | .calibrating phase =>
    c.onMotion fun m =>
      { m with calibration := m.calibration.map (CalRecord.period phase m.bemf c.beat.wheelSpeed m.duty) }
  | _ => c

/-! ### Labour level (R74) -/

/-- The labour level judged from the load, with hysteresis (R74). -/
def labourFromLoad (light heavy load : Nat) : LabourLevel → LabourLevel
  | .light => if load ≤ light + 8 then .light else if heavy ≤ load then .heavy else .working
  | .heavy => if load ≤ light then .light else if heavy ≤ load + 8 then .heavy else .working
  | _ => if load ≤ light then .light else if heavy ≤ load then .heavy else .working

/-- The labour level at the end of a period (R74). -/
def Controller.labourStage (c : Controller) : Controller :=
  c.onMotion fun m =>
    { m with
      labour :=
        if m.rampedSpeed = 0 ∨ m.rampSense = .falling ∨ m.duty = 0 then .coast
        else labourFromLoad c.settings.lightThreshold c.settings.heavyThreshold m.load m.labour }

/-- The age of the current-block record rises at the start of a period while a marker address is held (R47). -/
def BlockRecord.older (b : BlockRecord) : BlockRecord :=
  if b.markerAddress.isSome then { b with age := saturatingSucc 2000 b.age } else b

/-- A marker notice (R46, R11). -/
structure MarkerFrame where
  address : Nat
  blockId : Nat
  aspect : Aspect
  capStep : Nat
  strength : Nat
  deriving DecidableEq, Repr

/-- The notice updates the record: it is from the current marker, or it is strong enough to pass a new one (R46). -/
def BlockRecord.accepts (threshold : Nat) (n : MarkerFrame) (b : BlockRecord) : Bool :=
  b.markerAddress == some n.address || threshold ≤ n.strength

/-- The record with a notice's values, its age 0 (R46). -/
def BlockRecord.follow (n : MarkerFrame) (_ : BlockRecord) : BlockRecord :=
  { blockId := some n.blockId, aspect := n.aspect, capStep := n.capStep, markerAddress := some n.address, age := 0 }

/-- The block id, the aspect (log 19) and the marker address: a change of one of them files a STATUS request (R46). -/
def BlockRecord.announced (b : BlockRecord) : Option Nat × Aspect × Option Nat := (b.blockId, b.effectiveAspect, b.markerAddress)

/-- The Motion Unit takes a marker notice (R46). -/
def Controller.markerNotice (n : MarkerFrame) (c : Controller) : Controller :=
  if c.motion.block.accepts c.settings.passingThreshold n then
    let followed := c.onMotion fun m => { m with block := m.block.follow n }
    if (c.motion.block.follow n).announced = c.motion.block.announced then followed else followed.fileStatus
  else c

/-- Warm restart (R59, R82). -/
def MotionUnit.warm (m : MotionUnit) : MotionUnit :=
  { m with ramp := 0, duty := 0, integrator := 0, stallCount := 0, calibration := none, labour := .coast }

end Sys2Proof.Machine
end

