-- ==== Sys2Proof/Machine/Operands.lean ====
section
/-! DEFINITION. The operand forms: bytes and words of frames and records, the frame check, the structural checks, the fields
of every received frame kind, and the destination classes (sections 1.2, 1.4, 11.4). -/

namespace Sys2Proof.Machine

/-! ### Bytes and words, most significant byte first -/

def byteAt (bs : List Byte) (i : Nat) : Nat := (bs.getD i 0#8).toNat
def wordAt (bs : List Byte) (i : Nat) : Nat := byteAt bs i * 256 + byteAt bs (i + 1)
def tripleAt (bs : List Byte) (i : Nat) : Nat := wordAt bs i * 256 + byteAt bs (i + 2)

def byteOf (n : Nat) : Byte := BitVec.ofNat 8 n
/-- A two-byte field, most significant byte first. -/
def wordBytes (n : Nat) : List Byte := [byteOf (n / 256), byteOf n]

def boolCode (b : Bool) : Nat := if b then 1 else 0

/-! ### The frame check (R2) -/

/-- One bit of the CRC-16 with generator polynomial 0x1021. -/
def crcShift (register : Nat) : Nat :=
  if 0x8000 ≤ register then ((register * 2) ^^^ 0x1021) % 65536 else register * 2

def crcByte (register : Nat) (b : Byte) : Nat :=
  let r := register ^^^ (b.toNat * 256)
  crcShift (crcShift (crcShift (crcShift (crcShift (crcShift (crcShift (crcShift r)))))))

/-- CRC-16: each byte most significant bit first, register started at 0xFFFF, no final inversion (R2). -/
def crc16 (bs : List Byte) : Nat := bs.foldl crcByte 0xFFFF

/-- The payload length stated in the sixth byte. -/
def payloadLength (bs : List Byte) : Nat := byteAt bs 5

/-- The delivered bytes form an undamaged frame (R2). -/
def frameCheck (bs : List Byte) : Bool :=
  8 ≤ bs.length && bs.length ≤ 32 && payloadLength bs ≤ 24 && bs.length == payloadLength bs + 8
    && crc16 (bs.take (bs.length - 2)) == wordAt bs (bs.length - 2)

/-! ### Header and payload -/

inductive FrameKind where
  | drive | release | halt | calibrate | diagQuery | couple | uncouple | join | status | marker | diagReport
  deriving DecidableEq, Repr

/-- Kind codes (section 11.4). -/
def FrameKind.ofCode : Nat → Option FrameKind
  | 0x1 => some .drive
  | 0x2 => some .release
  | 0x3 => some .halt
  | 0x4 => some .calibrate
  | 0x5 => some .diagQuery
  | 0x6 => some .couple
  | 0x7 => some .uncouple
  | 0x8 => some .join
  | 0x9 => some .status
  | 0xA => some .marker
  | 0xB => some .diagReport
  | _ => none

def frameKind (bs : List Byte) : Option FrameKind := FrameKind.ofCode (byteAt bs 0)
def frameDestination (bs : List Byte) : Nat := wordAt bs 1
def frameSource (bs : List Byte) : Nat := wordAt bs 3
def payloadOf (bs : List Byte) : List Byte := (bs.drop 6).take (payloadLength bs)

def isStationAddress (a : Nat) : Bool := 0x0001 ≤ a && a ≤ 0x0FFF
def isConsistAddress (a : Nat) : Bool := 0x1000 ≤ a && a ≤ 0x10FF

/-! ### Coded fields (section 11.4) -/

def directionOf : Nat → Direction
  | 0 => .forward
  | _ => .reverse
def orientationOf : Nat → Orientation
  | 0 => .normal
  | _ => .reversed
def aspectOf : Nat → Aspect
  | 0 => .clear
  | 1 => .caution
  | 2 => .restrict
  | 3 => .stop
  | _ => .unknown
def consistStateOf : Nat → ConsistState
  | 0 => .solo
  | 1 => .ability
  | 2 => .acknowledge
  | 3 => .formed
  | _ => .broken

def Direction.code : Direction → Nat
  | .forward => 0
  | .reverse => 1
def Orientation.code : Orientation → Nat
  | .normal => 0
  | .reversed => 1
def Aspect.code : Aspect → Nat
  | .clear => 0
  | .caution => 1
  | .restrict => 2
  | .stop => 3
  | .unknown => 4
def Role.code : Role → Nat
  | .lead => 0
  | .middle => 1
  | .tail => 2
def ConsistState.code : ConsistState → Nat
  | .solo => 0
  | .ability => 1
  | .acknowledge => 2
  | .formed => 3
  | .broken => 4
def ResetCause.code : ResetCause → Nat
  | .powerOn => 0
  | .brownout => 1
  | .warm => 2
def SupplyState.code : SupplyState → Nat
  | .normal => 0
  | .dropout => 1
  | .hold => 2
  | .settle => 3

/-! ### Structural checks (R3, R183) -/

/-- The payload length that the layout gives for the kind; for COUPLE, for the member count stated (R3). -/
def requiredLength (kind : FrameKind) (payload : List Byte) : Nat :=
  match kind with
  | .drive => 5
  | .release => 0
  | .halt => 1
  | .calibrate => 0
  | .diagQuery => 0
  | .couple => 2 + 3 * byteAt payload 1
  | .uncouple => 0
  | .join => 10
  | .status => 21
  | .marker => 4
  | .diagReport => 18

/-- The orientation codes of a COUPLE's members are codes of the field. -/
def orientationsCoded (payload : List Byte) : Bool :=
  (List.range (byteAt payload 1)).all fun k => byteAt payload (2 + 3 * k + 2) ≤ 1

/-- The fields of this kind with a fixed set of codes hold one of them, and the kind's own conditions hold (R3, R183). The
four consist bytes of a STATUS without consist presence are not judged. -/
def fieldsSound (kind : FrameKind) (destination source : Nat) (p : List Byte) : Bool :=
  match kind with
  | .drive => byteAt p 1 ≤ 1
  | .couple => isConsistAddress destination && byteAt p 0 + 0x1000 == destination && orientationsCoded p
  | .uncouple => isConsistAddress destination
  | .join => isConsistAddress destination && wordAt p 0 == source && byteAt p 9 ≤ 1
  | .status =>
    byteAt p 0 ≤ 1 && (byteAt p 0 == 0 || (byteAt p 2 ≤ 2 && byteAt p 4 ≤ 1)) && byteAt p 5 ≤ 4 && byteAt p 8 ≤ 1
      && byteAt p 19 ≤ 4 && byteAt p 20 ≤ 2
  | .marker => wordAt p 0 ≤ 1022 && byteAt p 2 ≤ 3 && byteAt p 3 ≤ 96
  | .diagReport => byteAt p 10 ≤ 2 && byteAt p 16 ≤ 3 && byteAt p 17 ≤ 4
  | _ => true

/-- The structural checks of a frame that passed the frame check (R3). -/
def structurallySound (bs : List Byte) : Bool :=
  match frameKind bs with
  | none => false
  | some kind =>
    (kind != .couple || 2 ≤ (payloadOf bs).length) && payloadLength bs == requiredLength kind (payloadOf bs)
      && isStationAddress (frameSource bs) && fieldsSound kind (frameDestination bs) (frameSource bs) (payloadOf bs)

/-! ### Destination classes (R6) -/

inductive DestinationClass where | all | own | ownConsist | otherConsist | other
  deriving DecidableEq, Repr

def Controller.classify (c : Controller) (destination : Nat) : DestinationClass :=
  if destination = 0 then .all
  else if destination = c.settings.ownAddress then .own
  else if c.ownConsistAddress = some destination then .ownConsist
  else if isConsistAddress destination then .otherConsist
  else .other

/-! ### The fields each unit takes from a frame (section 11.4) -/

/-- Function bits F23 to F0 of a DRIVE. -/
def driveFunctions (p : List Byte) : BitVec 24 := BitVec.ofNat 24 (tripleAt p 2)

/-- The step of a DRIVE, clamped to 96 (section 2.2). -/
def driveStep (p : List Byte) : Nat := min 96 (byteAt p 0)

def driveDirection (p : List Byte) : Direction := directionOf (byteAt p 1)

/-- The member list of a COUPLE, front to back. -/
def coupleMembers (p : List Byte) : List (Nat × Orientation) :=
  (List.range (byteAt p 1)).map fun k => (wordAt p (2 + 3 * k), orientationOf (byteAt p (2 + 3 * k + 2)))

/-- What a JOIN supplies to a locomotive entry, saturated to its ranges (R10). -/
def joinFields (p : List Byte) : JoinFields :=
  { ability :=
      { p0 := min 4095 (wordAt p 2)
        p16 := min 4095 (wordAt p 4)
        accel := clampNat 1 255 (byteAt p 6)
        decel := clampNat 1 255 (byteAt p 7)
        loadShare := (byteAt p 8).testBit 0
        capShare := (byteAt p 8).testBit 1 }
    ack := byteAt p 9 == 1 }

/-- A reported cap, saturated; 4095 means none (R9, R178). -/
def capOf (n : Nat) : Option Nat := if 4095 ≤ n then none else some n

/-- What a STATUS supplies to a locomotive entry (R9). -/
def statusFields (p : List Byte) : StatusFields :=
  { consistId := if byteAt p 0 = 1 then some (byteAt p 1) else none
    consistState := consistStateOf (byteAt p 5)
    eStop := (wordAt p 6).testBit 0
    stall := (wordAt p 6).testBit 1
    driveFault := (wordAt p 6).testBit 2
    load := byteAt p 13
    cap := capOf (wordAt p 15) }

end Sys2Proof.Machine
end

