-- ==== Sys2Proof/Machine/SmokeOps.lean ====
section
/-! DEFINITION. The Smoke Controller's operations (chapter 8). -/

namespace Sys2Proof.Machine

/-- The SMOKE_FAULT flag of STATUS (R155). -/
def SmokeState.faulty : SmokeState → Bool
  | .purge => true
  | .fault => true
  | _ => false

/-- A STATUS request is filed when the smoke state enters or leaves PURGE and FAULT as a pair (R155). -/
def Controller.announceSmoke (before : SmokeState) (c : Controller) : Controller :=
  if before.faulty = c.smoke.state.faulty then c else c.fileStatus

/-- Change the Smoke Controller and announce its flag. -/
def Controller.changeSmoke (c : Controller) (f : SmokeController → SmokeController) : Controller :=
  (c.onSmoke f).announceSmoke c.smoke.state

/-! ### Entering a state: heater, fan, timers and window (section 8.3, R148 to R154) -/

/-- OFF (R148, R154). -/
def SmokeController.enterOff (k : SmokeController) : SmokeController :=
  { k with state := .off, heater := false, fanDuty := 0, heatUpTimer := none, puffTimer := none, dryWindow := [] }

/-- HEATING: the heater stays off until the next sample (R148). -/
def SmokeController.enterHeating (k : SmokeController) : SmokeController :=
  { k with state := .heating, heater := false, fanDuty := 0, heatUpTimer := some 90000, puffTimer := none, dryWindow := [] }

/-- The fan duty of SHED at a shed level (R152, R153). -/
def shedFan (fanIdle level : Nat) : Nat := if level ≤ 1 then fanIdle else 0

/-- SHED (R148, R153). -/
def SmokeController.enterShed (fanIdle level : Nat) (k : SmokeController) : SmokeController :=
  { k with state := .shed, heater := false, fanDuty := shedFan fanIdle level, heatUpTimer := none, puffTimer := none,
           dryWindow := [] }

/-- FAULT from an open or shorted sensor (R147). -/
def SmokeController.enterFault (k : SmokeController) : SmokeController :=
  { k with state := .fault, heater := false, fanDuty := 0, heatUpTimer := none, puffTimer := none, dryWindow := [] }

/-- PURGE (R150). -/
def SmokeController.enterPurge (k : SmokeController) : SmokeController :=
  { k with state := .purge, heater := false, fanDuty := 600, heatUpTimer := none, puffTimer := none, dryWindow := [],
           purgeTimer := some 10000 }

/-- Heating is asked for: HEATING at shed level 0, SHED above (R148, R154). -/
def Controller.startSmoke (c : Controller) : Controller :=
  c.changeSmoke fun k =>
    if c.supply.shedLevel = 0 then k.enterHeating else k.enterShed c.settings.fanIdle c.supply.shedLevel

def Controller.latchSmokeFault (c : Controller) : Controller := c.onLatches fun l => { l with smokeFault := true }

/-- The purge of a heater fault (R150). -/
def Controller.startPurge (c : Controller) : Controller := (c.changeSmoke (·.enterPurge)).latchSmokeFault

/-! ### Events from other units -/

/-- A rising or falling edge of the SMOKE_ENABLE level (R148). -/
def Controller.smokeEdge (rising : Bool) (c : Controller) : Controller :=
  if rising then
    if c.command.partMode = .run ∧ (c.smoke.state = .off ∨ c.smoke.state = .fault) then c.startSmoke else c
  else
    match c.smoke.state with
    | .heating => c.changeSmoke (·.enterOff)
    | .ready => c.changeSmoke (·.enterOff)
    | .shed => c.changeSmoke (·.enterOff)
    | _ => c

/-- A change of the shed level to `level` (R153). -/
def Controller.smokeShed (level : Nat) (c : Controller) : Controller :=
  match c.smoke.state with
  | .heating => if level = 0 then c else c.changeSmoke (·.enterShed c.settings.fanIdle level)
  | .ready => if level = 0 then c else c.changeSmoke (·.enterShed c.settings.fanIdle level)
  | .shed =>
    if level = 0 then c.changeSmoke (·.enterHeating)
    else c.onSmoke fun k => { k with fanDuty := shedFan c.settings.fanIdle level }
  | _ => c

/-- The part mode becomes PARKED (R154). -/
def Controller.smokePark (c : Controller) : Controller :=
  match c.smoke.state with
  | .heating => c.changeSmoke (·.enterOff)
  | .ready => c.changeSmoke (·.enterOff)
  | .shed => c.changeSmoke (·.enterOff)
  | _ => c

/-- The part mode returns to RUN from PARKED (R154). -/
def Controller.smokeUnpark (c : Controller) : Controller :=
  if c.smoke.state = .off ∧ c.smokeEnableLevel then c.startSmoke else c

/-- The length of a puff (R151). -/
def puffLength (lastInterval : Option Nat) : Nat :=
  match lastInterval with
  | none => 60
  | some n => max 1 (min 60 (n * 45 / 100))

/-- The fan duty of a puff at a labour level (section 8.1). -/
def Settings.puffDuty (cfg : Settings) : LabourLevel → Nat
  | .coast => cfg.fanPuff.getD 0 0
  | .light => cfg.fanPuff.getD 1 0
  | .working => cfg.fanPuff.getD 2 0
  | .heavy => cfg.fanPuff.getD 3 0

/-- A beat event (R151). -/
def Controller.puffBeat (labour : LabourLevel) (c : Controller) : Controller :=
  if c.smoke.state = .ready then
    c.onSmoke fun k =>
      { k with
        puffDuty := c.settings.puffDuty labour
        fanDuty := c.settings.puffDuty labour
        puffTimer := some (puffLength c.beat.lastInterval) }
  else c

/-! ### The sample tick (R146, R147, R149, R150) -/

/-- The temperature of a reading (R146). -/
def temperatureOf (table : List Nat) (reading : Nat) : Nat :=
  let k := reading / 128
  let low : Int := table.getD k 0
  let high : Int := table.getD (k + 1) 0
  (low + Int.tdiv ((high - low) * ((reading : Int) - 128 * k)) 128).toNat

/-- An open or shorted sensor (R147). -/
def sensorOpen (reading : Nat) : Bool := reading ≤ 3 || 1020 ≤ reading

/-- The dry-rate window after a sample (R150): appended to while the heater was on over the whole interval, else emptied. -/
def nextWindow (heater : Bool) (temperature : Nat) (window : List Nat) : List Nat :=
  if heater then
    let longer := window ++ [temperature]
    if longer.length = 12 then longer.tail else longer
  else []

/-- A dry element (R150): 11 temperatures, the newest above the oldest by more than 15. -/
def dryElement (window : List Nat) : Bool := window.length == 11 && window.headD 0 + 15 < window.getLastD 0

/-- The target temperature (R149). -/
def Controller.smokeTarget (c : Controller) : Nat :=
  if c.motion.labour = .working ∨ c.motion.labour = .heavy then c.settings.tWork else c.settings.tIdle

/-- Choose READY and switch the heater (R149). -/
def SmokeController.switchHeater (target fanIdle : Nat) (k : SmokeController) : SmokeController :=
  let ready : SmokeController :=
    if k.state = .heating ∧ (target : Int) - 5 ≤ k.temperature then
      { k with state := .ready, heatUpTimer := none, fanDuty := fanIdle }
    else k
  { ready with
    heater :=
      if (k.temperature : Int) < (target : Int) - 5 then true
      else if target < k.temperature then false
      else k.heater }

/-- One smoke sample (R146 to R150). -/
def Controller.smokeTick (reading : Nat) (c : Controller) : Controller :=
  let t := temperatureOf c.settings.temperatureTable reading
  let c := c.onSmoke fun k => { k with temperature := t }
  if sensorOpen reading ∧ (c.smoke.state = .heating ∨ c.smoke.state = .ready ∨ c.smoke.state = .shed) then
    (c.changeSmoke (·.enterFault)).latchSmokeFault
  else
    let c := c.onSmoke fun k => { k with dryWindow := nextWindow k.heater t k.dryWindow }
    if c.smoke.state = .heating ∨ c.smoke.state = .ready then
      if dryElement c.smoke.dryWindow ∨ c.settings.tMax < t then c.startPurge
      else c.onSmoke (·.switchHeater c.smokeTarget c.settings.fanIdle)
    else c

/-- The end of a puff: the fan returns to Fidle (R151). -/
def Controller.endPuff (c : Controller) : Controller :=
  c.onSmoke fun k => { k with puffTimer := none, fanDuty := c.settings.fanIdle }

/-- The end of the purge (R150). -/
def Controller.endPurge (c : Controller) : Controller :=
  c.changeSmoke fun k =>
    { k with state := if c.smokeEnableLevel then .fault else .off, fanDuty := 0, purgeTimer := none }

/-- Warm restart (R156). -/
def SmokeController.warm (k : SmokeController) : SmokeController :=
  { k with
    state := if k.state.faulty then .fault else .off
    heater := false
    fanDuty := 0
    heatUpTimer := none
    purgeTimer := none
    puffTimer := none
    dryWindow := [] }

/-- The heater PWM duty (section 8.1). -/
def Controller.heaterDuty (c : Controller) : Nat := if c.smoke.heater then c.settings.heaterPower else 0

end Sys2Proof.Machine
end

