-- ==== Sys2Proof/Machine/CommandOps.lean ====
section
/-! DEFINITION. The Command Unit's operations: part mode, function edges and their delivery, the binding (chapter 2). -/

namespace Sys2Proof.Machine

/-! ### Part mode (R21) -/

def Controller.setMode (mode : PartMode) (c : Controller) : Controller :=
  (c.onCommand fun u => { u with partMode := mode }).afterStateChange

/-- RUN becomes PARKED (R38): sound, smoke and lights take their park behaviour (R141, R154, R158), STATUS is requested. -/
def Controller.enterParked (c : Controller) : Controller :=
  ((c.setMode .parked).fileStatus.onSound (·.park)).smokePark.judgeLights

/-- PARKED becomes RUN (R39): STATUS is requested, the ambient trigger is given (R124), smoke resumes (R154), the lights are
judged again, and the park timer starts from zero if its conditions hold (R37). -/
def Controller.unpark (c : Controller) : Controller := (c.setMode .run).fileStatus.triggerAmbient.smokeUnpark.judgeLights

/-! ### Function edges (R30 to R32) -/

/-- The functions whose actions are levels (R31). -/
def Controller.levelOf (action : FunctionAction) (c : Controller) : Bool :=
  match action with
  | .smokeEnable => c.smokeEnableLevel
  | .dim => c.dimLevel
  | .soundOn => c.soundOnLevel
  | .shunt => c.shuntLevel
  | _ => false

/-- Deliver the edge of one function with this action (R31, R32): `before` is the action's level before the edge. A falling
SOUND_ON edge only mutes (R124), and SHUNT is read by the Motion Unit when it needs it (R33). -/
def Controller.deliverEdge (action : FunctionAction) (rising before : Bool) (c : Controller) : Controller :=
  match action with
  | .none => c
  | .lights _ => c.judgeLights
  | .sound n => if rising then c.onSound fun e => e.trigger (some n) .function else c.onSound fun e => e.letGo (some n)
  | .smokeEnable => if before = c.smokeEnableLevel then c else c.smokeEdge c.smokeEnableLevel
  | .dim => if before = c.dimLevel then c else c.judgeLights
  | .soundOn =>
    if !before && c.soundOnLevel && c.command.partMode == .run then c.triggerAmbient else c
  | .shunt => c

/-- One function bit of a DRIVE: a difference sets the vector and gives an edge (R30). -/
def Controller.applyFunction (value : BitVec 24) (mask : BitVec 24) (c : Controller) (i : Nat) : Controller :=
  if mask.getLsbD i && (value.getLsbD i != c.command.functions.getLsbD i) then
    let action := c.settings.functionMap.getD i .none
    let before := c.levelOf action
    (c.onCommand fun u => { u with functions := u.functions ^^^ (1#24 <<< i) }).deliverEdge action (value.getLsbD i) before
  else c

/-- The function bits of one frame, in ascending function number (R30). -/
def Controller.applyFunctions (value mask : BitVec 24) (c : Controller) : Controller :=
  (List.range 24).foldl (Controller.applyFunction value mask) c

/-! ### The binding (R22 to R27) -/

/-- The path of a DRIVE (R22): bound-via, or absent for the function-only path. -/
inductive DrivePath where
  | binding (via : BoundVia)
  | functionOnly
  deriving DecidableEq, Repr

/-- The path of a DRIVE by destination class and consist state (R22); other combinations are not handed over. -/
def drivePath (state : ConsistState) (cls : DestinationClass) : Option DrivePath :=
  match cls with
  | .own => if state = .solo then some (.binding .own) else some .functionOnly
  | .ownConsist => if state = .solo then none else some (.binding .consist)
  | _ => none

/-- The function bits a path applies (R22). -/
def Controller.pathMask (c : Controller) : DrivePath → BitVec 24
  | .binding .own => BitVec.allOnes 24
  | .binding .consist => c.settings.consistMask
  | .functionOnly => ~~~c.settings.consistMask

/-- A DRIVE from this source on this path binds the locomotive or refreshes its binding (R23). -/
def CommandUnit.accepts (u : CommandUnit) (source : Nat) (via : BoundVia) : Bool :=
  match u.binding with
  | none => true
  | some b => b.throttle == source && b.via == via

def ConsistState.negotiating : ConsistState → Bool
  | .ability => true
  | .acknowledge => true
  | _ => false

/-- The fields of a DRIVE frame as the Command Unit uses them. -/
structure DriveFrame where
  source : Nat
  step : Nat
  direction : Direction
  functions : BitVec 24
  deriving DecidableEq, Repr

/-- Bind, and record step and direction; the step is not recorded while the consist is negotiating (R23). -/
def Controller.recordDrive (d : DriveFrame) (via : BoundVia) (c : Controller) : Controller :=
  c.onCommand fun u =>
    { u with
      binding := some { throttle := d.source, via := via, supervision := c.settings.supervisionTime }
      commandedStep := if c.consist.state.negotiating then u.commandedStep else d.step
      requestedDirection := d.direction }

/-- The Consist Unit's part of a drive notice via CONSIST (R114): step 0 clears the signal-loss stop, and the consist-fault
flag when no other member is fresh with a fault. -/
def Controller.consistDriveNotice (step : Nat) (c : Controller) : Controller :=
  if step = 0 then
    let faulty := c.consist.others.any fun o =>
      match c.freshStatus o.address with
      | some f => f.stall || f.driveFault
      | none => false
    c.onConsist fun k => { k with signalLossStop := false, consistFault := k.consistFault && faulty }
  else c

/-- The notices that follow an accepted DRIVE (R23, R57, R114). -/
def Controller.noticeDrive (step : Nat) (via : BoundVia) (c : Controller) : Controller :=
  match via with
  | .own => c.driveNotice step
  | .consist => (c.driveNotice step).consistDriveNotice step

/-- An accepted DRIVE with a step above 0 restarts a running park timer from zero (R37). -/
def Controller.restartPark (step : Nat) (c : Controller) : Controller :=
  if 0 < step then c.onCommand fun u => { u with parkTimer := u.parkTimer.map fun _ => 0 } else c

/-- A waking DRIVE (R39), judged from the Command Unit as the DRIVE found it and as it left it. -/
def wakes (before after : CommandUnit) (step : Nat) : Bool :=
  0 < step || before.binding.isNone || before.requestedDirection != after.requestedDirection
    || before.functions != after.functions

/-- An accepted DRIVE, whole (R23, R37, R39). -/
def Controller.acceptDrive (d : DriveFrame) (via : BoundVia) (c : Controller) : Controller :=
  let applied := (c.recordDrive d via).applyFunctions d.functions (c.pathMask (.binding via))
  let noticed := (applied.noticeDrive d.step via).restartPark d.step
  if c.command.partMode = .parked ∧ wakes c.command noticed.command d.step then noticed.unpark else noticed

/-- A DRIVE that the dispatcher hands over with this class (R22 to R24). -/
def Controller.takeDrive (d : DriveFrame) (cls : DestinationClass) (c : Controller) : Controller :=
  match drivePath c.consist.state cls with
  | none => c
  | some .functionOnly => c.applyFunctions d.functions (c.pathMask .functionOnly)
  | some (.binding via) => if c.command.accepts d.source via then c.acceptDrive d via else c.countForeignDrive

/-- The bound-via a destination class matches (R25). -/
def DestinationClass.via : DestinationClass → Option BoundVia
  | .own => some .own
  | .ownConsist => some .consist
  | _ => none

/-- A RELEASE from the bound throttle on the matching class unbinds; any other is ignored (R25). -/
def Controller.takeRelease (source : Nat) (cls : DestinationClass) (c : Controller) : Controller :=
  match c.command.binding with
  | some b =>
    if b.throttle = source ∧ cls.via = some b.via then c.onCommand fun u => { u with binding := none } else c
  | none => c

/-- Supervision expires (R26): unbind, apply the signal-loss action, and via CONSIST give the signal-loss notice (R111). -/
def Controller.expireSupervision (b : Binding) (c : Controller) : Controller :=
  let stops := c.settings.signalLossAction = .stop ∨ c.consist.state ≠ .solo
  let unbound := c.onCommand fun u =>
    { u with binding := none, commandedStep := if stops then 0 else u.commandedStep }
  if b.via = .consist ∧ c.consist.state ≠ .solo then unbound.onConsist fun k => { k with signalLossStop := true } else unbound

/-- The Consist Unit's request to clear a binding via `via`; the commanded step becomes 0 (R27). -/
def Controller.clearBinding (via : BoundVia) (c : Controller) : Controller :=
  c.onCommand fun u =>
    { u with
      commandedStep := 0
      binding :=
        match u.binding with
        | some b => if b.via = via then none else some b
        | none => none }

/-- A HALT (R28): a repeat is ignored; a new pair is remembered and, in RUN, requests an emergency stop. -/
def Controller.takeHalt (source number : Nat) (c : Controller) : Controller :=
  if c.command.lastHalt = some (source, number) then c
  else
    let remembered := c.onCommand fun u => { u with lastHalt := some (source, number) }
    if c.command.partMode = .run then remembered.emergencyStop else remembered

/-- The conditions of a CALIBRATE from this source (R35). -/
def Controller.mayCalibrate (source : Nat) (c : Controller) : Bool :=
  c.command.partMode == .run && c.consist.state == .solo
    && (c.command.binding.map fun b => (b.throttle, b.via)) == some (source, BoundVia.own)
    && c.motion.state == .idle && c.beat.mode == .event && c.beat.sensor == .ok && c.supply.state == .normal

/-- Calibration starts (R75); R is 0 throughout, so what is left of R below one speed unit goes (R55, log 29), and the labour
level is COAST (R74). -/
def Controller.startCalibration (c : Controller) : Controller :=
  (c.onMotion fun m =>
    { m with
      ramp := 0
      integrator := 0
      stallCount := 0
      labour := .coast
      calibration :=
        some
          { phaseTimer := 600, dcal := min 400 c.settings.dutyCap, bemfSum := 0, wheelSum := 0, foldbackSeen := false,
            newValues := none } }).setMotionState (.calibrating .spinup)

def Controller.latchCalRefused (c : Controller) : Controller := c.onLatches fun l => { l with calRefused := true }

/-- A CALIBRATE (R35). -/
def Controller.takeCalibrate (source : Nat) (c : Controller) : Controller :=
  if c.mayCalibrate source then c.startCalibration else c.latchCalRefused

/-- Warm restart (R34, R40); the park timer starts again when its conditions next hold. -/
def CommandUnit.warm (u : CommandUnit) : CommandUnit :=
  { u with binding := none, commandedStep := 0, functions := 0#24, parkTimer := none, partMode := .run }

end Sys2Proof.Machine
end

