-- ==== Sys2Proof/Machine/Flags.lean ====
section
/-! DEFINITION. Flag words: the STATUS flag word, the latch word, the capability byte, and which latches a hand-over clears
(R181, R182, section 11.4). -/

namespace Sys2Proof.Machine

/-- A word with these flags, bit 0 first. -/
def flagWord : List Bool → Nat
  | [] => 0
  | b :: rest => boolCode b + 2 * flagWord rest

/-- The STATUS flag word (section 11.4): E_STOP, STALL, DRIVE_FAULT, SMOKE_FAULT, SENSOR_FAULT, LINK_LOST, PARKED, HOLD,
CALIBRATING. -/
def Controller.statusFlagWord (c : Controller) : Nat :=
  flagWord
    [c.motion.state == .eStopped, c.motion.state == .faulted .stall, c.motion.state == .faulted .driveFault,
      c.smoke.state.faulty, c.beat.sensor == .fault, c.latches.linkLost, c.command.partMode == .parked,
      c.supply.state == .hold, c.motion.state.isCalibrating]

/-- The latch word (section 11.4). -/
def Latches.word (l : Latches) : Nat :=
  flagWord
    [l.linkLost, l.negotiationFailed, l.sensorFault, l.smokeFault, l.configDefaulted, l.calDefaulted, l.calRefused,
      l.addressConflict, l.coupleRefused]

/-- The capability byte (section 11.4). -/
def capabilityByte (loadShare capShare : Bool) : Nat := flagWord [loadShare, capShare]

/-- The standing conditions of the latches (R181). CONFIG_DEFAULTED stands until the next cold start and CAL_DEFAULTED until
a calibration's new values come into force: while their cause lasts the latch itself stays set (R181, R182). -/
def Controller.standing (c : Controller) : Latches :=
  { linkLost := c.consist.state == .broken
    negotiationFailed := false
    sensorFault := c.beat.sensor == .fault
    smokeFault := c.smoke.state.faulty
    configDefaulted := c.supply.configDefaultsInForce
    calDefaulted := c.motion.calDefaultsInForce
    calRefused := false
    addressConflict := false
    coupleRefused := false }

/-- One latch at a hand-over: cleared when the report carried it as set and its standing condition does not hold (R182). -/
def clearLatch (now carried standing : Bool) : Bool := now && !(carried && !standing)

/-- All latches at the hand-over of a report that carried `carried` (R182). -/
def Latches.afterHandover (now carried standing : Latches) : Latches :=
  { linkLost := clearLatch now.linkLost carried.linkLost standing.linkLost
    negotiationFailed := clearLatch now.negotiationFailed carried.negotiationFailed standing.negotiationFailed
    sensorFault := clearLatch now.sensorFault carried.sensorFault standing.sensorFault
    smokeFault := clearLatch now.smokeFault carried.smokeFault standing.smokeFault
    configDefaulted := clearLatch now.configDefaulted carried.configDefaulted standing.configDefaulted
    calDefaulted := clearLatch now.calDefaulted carried.calDefaulted standing.calDefaulted
    calRefused := clearLatch now.calRefused carried.calRefused standing.calRefused
    addressConflict := clearLatch now.addressConflict carried.addressConflict standing.addressConflict
    coupleRefused := clearLatch now.coupleRefused carried.coupleRefused standing.coupleRefused }

end Sys2Proof.Machine
end

