-- ==== Sys2Proof/Machine/Reports.lean ====
section
/-! DEFINITION. The frames the part transmits, composed from current state (R18, R98, R118, R143, R178, R182, R183), and the
transmit side's shared operations (R15 to R19). -/

namespace Sys2Proof.Machine

/-! ### Composition -/

def TxKind.code : TxKind → Nat
  | .join => 0x8
  | .status => 0x9
  | .diagReport => 0xB

/-- A frame with its header and its CRC-16 (section 11.4). -/
def composeFrame (kind destination source : Nat) (payload : List Byte) : List Byte :=
  let body := byteOf kind :: wordBytes destination ++ wordBytes source ++ byteOf payload.length :: payload
  body ++ wordBytes (crc16 body)

/-- The own ability word (section 6.1, R119). -/
def Settings.ownAbility (cfg : Settings) : Ability :=
  { p0 := cfg.curve.getD 0 0, p16 := cfg.curve.getD 16 0, accel := cfg.accel, decel := cfg.decel,
    loadShare := cfg.loadShareOffered, capShare := cfg.capShareOffered }

/-- The JOIN payload (R98): the ack flag is clear in ABILITY and set in every other state. -/
def Controller.joinPayload (c : Controller) : List Byte :=
  let a := c.settings.ownAbility
  wordBytes c.settings.ownAddress ++ wordBytes a.p0 ++ wordBytes a.p16
    ++ [byteOf a.accel, byteOf a.decel, byteOf (capabilityByte a.loadShare a.capShare),
      byteOf (boolCode (c.consist.state != .ability))]

/-- Consist presence, id, role, position and orientation of a STATUS: zeros where there is no consist (R178, R183). -/
def Controller.consistBytes (c : Controller) : List Byte :=
  match c.consist.membership with
  | none => [0#8, 0#8, 0#8, 0#8, 0#8]
  | some m => [1#8, byteOf m.consistId, byteOf m.role.code, byteOf m.position, byteOf m.orientation.code]

/-- The STATUS payload (R178). -/
def Controller.statusPayload (c : Controller) : List Byte :=
  c.consistBytes ++ [byteOf c.consist.state.code] ++ wordBytes c.statusFlagWord ++ [byteOf c.motion.travel.code]
    ++ wordBytes c.motion.measuredSpeed ++ wordBytes c.motion.rampedSpeed
    ++ [byteOf c.motion.load, byteOf c.supply.shedLevel] ++ wordBytes (c.markerCap.getD 4095)
    ++ wordBytes (c.motion.block.blockId.getD 1023)
    ++ [byteOf c.motion.block.effectiveAspect.code, byteOf c.supply.resetCause.code]

/-- The eight counters in the order of R180. -/
def Counters.toList (k : Counters) : List Nat :=
  [k.checkFail, k.malformed, k.rxOverrun, k.foreignDrive, k.txGiveup, k.jabber, k.soundUnderrun, k.dropoutCount]

/-- The program of a voice's pending trigger, 255 for none (R143). -/
def Voice.pendingCode (v : Voice) : Nat :=
  match v.pending with
  | some t => t.program
  | none => 255

/-- The DIAG_REPORT payload (R182). -/
def Controller.diagPayload (c : Controller) : List Byte :=
  c.counters.toList.map byteOf ++ wordBytes c.latches.word ++ [byteOf c.supply.resetCause.code]
    ++ (List.range 4).map (fun k => byteOf ((c.sound.voices[k]?.map Voice.pendingCode).getD 255))
    ++ [byteOf c.supply.shedLevel, byteOf c.supply.state.code, byteOf c.consist.state.code]

/-- The frame of a kind as the state now stands (R18). -/
def Controller.composeReport (kind : TxKind) (querier : Nat) (c : Controller) : List Byte :=
  match kind with
  | .join => composeFrame kind.code (c.ownConsistAddress.getD 0) c.settings.ownAddress c.joinPayload
  | .status => composeFrame kind.code 0x0000 c.settings.ownAddress c.statusPayload
  | .diagReport => composeFrame kind.code querier c.settings.ownAddress c.diagPayload

/-! ### Slots and medium access -/

def AirInterface.slot (a : AirInterface) : TxKind → TxSlot
  | .join => a.joinSlot
  | .status => a.statusSlot
  | .diagReport => a.diagSlot

def AirInterface.setSlot (a : AirInterface) (kind : TxKind) (slot : TxSlot) : AirInterface :=
  match kind with
  | .join => { a with joinSlot := slot }
  | .status => { a with statusSlot := slot }
  | .diagReport => { a with diagSlot := slot }

/-- JOIN, then STATUS, then DIAG_REPORT (R16). -/
def AirInterface.chosenSlot (a : AirInterface) : Option TxKind :=
  if a.joinSlot.requested then some .join
  else if a.statusSlot.requested then some .status
  else if a.diagSlot.requested then some .diagReport
  else none

/-- A listen window begins with a fresh choice; with no slot requested the transmitter is IDLE (R16). -/
def AirInterface.openWindow (a : AirInterface) : AirInterface :=
  match a.chosenSlot with
  | some kind => { a with transmitter := .listen kind }
  | none => { a with transmitter := .idle }

/-- The backoff, in ms, that a draw of the backoff register gives (R17). -/
def backoffTime (register : Nat) : Nat := 2 * (register % 16 + 1)

/-- Charge a busy window to a slot: back off, or give the request up at the eighth (R17). -/
def Controller.chargeBusy (kind : TxKind) (c : Controller) : Controller :=
  let attempts := (c.air.slot kind).attempts + 1
  if 8 ≤ attempts then
    (c.onAir fun a => { a.setSlot kind TxSlot.empty with transmitter := .idle }).countTxGiveup
  else
    c.onAir fun a =>
      { a.setSlot kind { requested := true, attempts := attempts } with
        backoffRegister := nextRandom a.backoffRegister
        transmitter := .backoff (backoffTime (nextRandom a.backoffRegister)) }

/-- A transmission begins after a clear window (R18). A JOIN that finds no own consist address is emptied unsent. -/
def Controller.beginTransmission (kind : TxKind) (c : Controller) : Controller :=
  if kind = .join ∧ c.ownConsistAddress = none then
    c.onAir fun a => { a.setSlot kind TxSlot.empty with transmitter := .idle }
  else
    c.onAir fun a =>
      { a.setSlot kind TxSlot.empty with
        transmitter := .sending
        transmitRequest := true
        outgoing :=
          some
            { kind := kind
              attempts := (a.slot kind).attempts
              querier := a.querier
              frame := c.composeReport kind a.querier
              carried := c.latches
              handedOver := false } }

/-- Put the request of a transmission back into its slot (R18): the restored attempt count stands, and a request filed
meanwhile merges with it, its querier replacing the one the frame was composed for. -/
def AirInterface.putBack (t : Transmission) (a : AirInterface) : AirInterface :=
  { a.setSlot t.kind { requested := true, attempts := t.attempts } with
    querier := if t.kind = .diagReport ∧ !a.diagSlot.requested then t.querier else a.querier
    outgoing := none
    transmitRequest := false }

/-- A transmission that did not go out whole: lower transmit-request, put the request back and charge it (R18). -/
def Controller.failTransmission (t : Transmission) (c : Controller) : Controller :=
  (c.onAir (·.putBack t)).chargeBusy t.kind

/-- The transmission that is feeding its frame. -/
def AirInterface.feeding (a : AirInterface) : Option Transmission :=
  match a.transmitter, a.outgoing with
  | .sending, some t => if t.handedOver then none else some t
  | _, _ => none

/-- Hand-over of a DIAG_REPORT (R182): counters become 0, and reported latches without a standing condition are cleared. -/
def Controller.handOverReport (carried : Latches) (c : Controller) : Controller :=
  { c with counters := Counters.zero, latches := c.latches.afterHandover carried c.standing }

/-- The transceiver takes the last byte (R18): STATUS restarts its interval timer (R179), DIAG_REPORT clears (R182). DESIGN
CHOICE (log 36): a STATUS handed over in START starts the timer that R179 starts as the mode first becomes RUN. -/
def Controller.handOver (t : Transmission) (c : Controller) : Controller :=
  let c := c.onAir fun a => { a with outgoing := some { t with handedOver := true }, transmitActive := true }
  match t.kind with
  | .join => c
  | .status => c.onAir fun a => { a with statusTimer := some c.statusInterval }
  | .diagReport => c.handOverReport t.carried

/-- Transmit-active falls after the hand-over: transmit-request is lowered and the transmitter is IDLE (R18). -/
def AirInterface.endTransmission (a : AirInterface) : AirInterface :=
  { a with transmitter := .idle, outgoing := none, transmitRequest := false, transmitActive := false }

/-- The high of transmit-active has already been found to be jabber, for in QUIET no fall has been shown since (R19). -/
def AirInterface.jabbering (a : AirInterface) : Bool :=
  match a.transmitter with
  | .quiet _ => a.transmitActive
  | _ => false

/-- The 2 s of QUIET have run out and transmit-active is low (R19). -/
def AirInterface.quietOver (a : AirInterface) : Bool := a.transmitter == .quiet 0 && !a.transmitActive

/-- Jabber (R19): transmit-request is lowered, the feeding stops and QUIET runs its 2 s; a frame cut off is lost. -/
def AirInterface.enterQuiet (a : AirInterface) : AirInterface :=
  { a with transmitter := .quiet 2000, outgoing := none, transmitRequest := false, transmitActive := true }

/-- QUIET ends with transmit-active low (R19). -/
def AirInterface.leaveQuiet (a : AirInterface) : AirInterface := { a with transmitter := .idle, transmitActive := false }

/-- Transmit-active falls in QUIET with `left` ms of its 2 s to run (R19). -/
def AirInterface.fallInQuiet (left : Nat) (a : AirInterface) : AirInterface :=
  if left = 0 then a.leaveQuiet else { a with transmitActive := false }

/-- Warm restart (R8, R20): FIFO and slots emptied; a window, backoff or transmission is abandoned; QUIET runs on. DESIGN
CHOICE (log 16): the querier of the emptied DIAG_REPORT slot becomes 0. -/
def AirInterface.warm (a : AirInterface) : AirInterface :=
  { a with
    rxFifo := []
    joinSlot := TxSlot.empty
    statusSlot := TxSlot.empty
    diagSlot := TxSlot.empty
    querier := 0
    transmitter :=
      match a.transmitter with
      | .quiet left => .quiet left
      | _ => .idle
    outgoing := none
    transmitRequest := false }

end Sys2Proof.Machine
end

