-- ==== Sys2Proof/Machine/ConsistOps.lean ====
section
/-! DEFINITION. The Consist Unit's operations: taking a COUPLE, negotiation, supervision of the members, renegotiation, and
the return to SOLO (chapter 6). -/

namespace Sys2Proof.Machine

/-! ### The consist state -/

/-- Change the consist state: a STATUS request is filed (R118) and the lights are judged again (R159). Becoming ABILITY sets
the commanded step to 0 (R23, R109). DEDUCED (log 34): a step recorded in BROKEN is lost there, although R108 says that it takes
effect once the consist is formed again. -/
def Controller.setConsistState (state : ConsistState) (c : Controller) : Controller :=
  let changed := (c.onConsist fun k => { k with state := state }).afterStateChange.fileStatus.judgeLights
  if state = .ability then changed.onCommand fun u => { u with commandedStep := 0 } else changed

def ConsistUnit.mapOthers (f : MemberRecord → MemberRecord) (k : ConsistUnit) : ConsistUnit :=
  { k with membership := k.membership.map fun m => { m with others := m.others.map f } }

/-- Change the record of the member with this address. -/
def ConsistUnit.onMember (address : Nat) (f : MemberRecord → MemberRecord) (k : ConsistUnit) : ConsistUnit :=
  k.mapOthers fun o => if o.address = address then f o else o

def ConsistUnit.member (address : Nat) (k : ConsistUnit) : Option MemberRecord := k.others.find? (·.address == address)

/-- JOIN transmission begins: a request is filed and the JOIN timer starts at 100 ms (R98). -/
def Controller.startJoins (c : Controller) : Controller := (c.onConsist fun k => { k with joinTimer := some 100 }).fileJoin

/-! ### Taking a COUPLE (R94 to R97) -/

/-- No address is named twice. -/
def noRepeats : List Nat → Bool
  | [] => true
  | a :: rest => !rest.contains a && noRepeats rest

/-- The list of a COUPLE is well formed (R95). -/
def listSound (members : List (Nat × Orientation)) : Bool :=
  2 ≤ members.length && members.length ≤ 4 && noRepeats (members.map (·.1)) && members.all fun m => isStationAddress m.1

/-- The role of a position in a list of `n` (R94). -/
def roleAt (n position : Nat) : Role :=
  if position = 0 then .lead else if position + 1 = n then .tail else .middle

/-- A member state record as a COUPLE makes it (R97). -/
def MemberRecord.fresh (address : Nat) : MemberRecord :=
  { address := address, ability := none, ackHeard := false, timer := none, mark := .watched }

/-- What the consist record takes from a list that names the own address (R94, R97). -/
def membershipOf (consistId own : Nat) (members : List (Nat × Orientation)) : Membership :=
  let position := members.findIdx (·.1 == own)
  { consistId := consistId
    members := members
    position := position
    role := roleAt members.length position
    orientation := ((members[position]?).map (·.2)).getD .normal
    others := (members.filter (·.1 != own)).map fun m => MemberRecord.fresh m.1 }

/-- The frame repeats the COUPLE already taken (R96). -/
def ConsistUnit.isRepeat (consistId : Nat) (members : List (Nat × Orientation)) (k : ConsistUnit) : Bool :=
  k.state != .solo && (k.membership.map fun m => (m.consistId, m.members)) == some (consistId, members)

/-- Pin or unpin every address of a list (R14), in the order of the list: for a COUPLE, the member list front to back. DESIGN
CHOICE (log 30): R14 and R97 give the requests no order. -/
def Controller.pinAll (addresses : List Nat) (c : Controller) : Controller :=
  addresses.foldl (fun c a => c.onPeers (pinPeer a)) c
def Controller.unpinAll (addresses : List Nat) (c : Controller) : Controller :=
  addresses.foldl (fun c a => c.onPeers (unpinPeer a)) c

/-- Taking a COUPLE (R97); a PARKED part returns to RUN (R39). -/
def Controller.takeCouple (consistId : Nat) (members : List (Nat × Orientation)) (c : Controller) : Controller :=
  let m := membershipOf consistId c.settings.ownAddress members
  let recorded := c.onConsist fun k =>
    { k with
      membership := some m
      common := none
      negotiationTimer := some 5000
      renegotiationPending := false
      consistFault := false
      signalLossStop := false }
  let taken := (((recorded.pinAll (m.others.map (·.address))).clearBinding .own).setConsistState .ability).startJoins
  if taken.command.partMode = .parked then taken.unpark else taken

/-- A COUPLE handed to the Consist Unit (R95, R96). -/
def Controller.judgeCouple (consistId : Nat) (members : List (Nat × Orientation)) (c : Controller) : Controller :=
  if !listSound members then c.countMalformed
  else if !(members.map (·.1)).contains c.settings.ownAddress then c
  else if c.consist.isRepeat consistId members then c
  else if c.consist.state = .solo ∧ c.motion.state = .idle ∧ c.command.partMode ≠ .start then c.takeCouple consistId members
  else c.onLatches fun l => { l with coupleRefused := true }

/-! ### Negotiation (R98 to R105) -/

def leastOf (x : Nat) (xs : List Nat) : Nat := xs.foldl min x
def greatestOf (x : Nat) (xs : List Nat) : Nat := xs.foldl max x

/-- The common parameters of the own ability word and the others' (R105). -/
def commonOf (own : Ability) (others : List Ability) : CommonParameters :=
  let vtop := leastOf own.p16 (others.map (·.p16))
  { vmin := min (greatestOf own.p0 (others.map (·.p0))) vtop
    vtop := vtop
    accel := leastOf own.accel (others.map (·.accel))
    decel := leastOf own.decel (others.map (·.decel))
    loadShare := own.loadShare && others.all (·.loadShare)
    capShare := own.capShare && others.all (·.capShare) }

def ConsistUnit.allAbilities (k : ConsistUnit) : Bool := k.others.all (·.ability.isSome)
def ConsistUnit.allAcks (k : ConsistUnit) : Bool := k.others.all (·.ackHeard)

/-- ABILITY becomes ACKNOWLEDGE once every ability is present while the negotiation timer runs (R100). -/
def Controller.enterAcknowledge (c : Controller) : Controller :=
  if c.consist.state = .ability ∧ c.consist.negotiationTimer.isSome ∧ c.consist.allAbilities then
    (c.setConsistState .acknowledge).startJoins
  else c

/-- ACKNOWLEDGE becomes FORMED once every ack is heard (R101, R105). -/
def Controller.enterFormed (c : Controller) : Controller :=
  if c.consist.state = .acknowledge ∧ c.consist.allAcks then
    (c.onConsist fun k =>
      { k.mapOthers fun o => { o with timer := some 1000 } with
        common := some (commonOf c.settings.ownAbility (k.others.filterMap (·.ability)))
        negotiationTimer := none
        joinTimer := none }).setConsistState .formed
  else c

/-- What the abilities and acks held allow (R99 to R101). -/
def Controller.advanceNegotiation (c : Controller) : Controller := c.enterAcknowledge.enterFormed

/-- After a warm restart the negotiation and JOIN timers start when the supply state becomes NORMAL (R120). -/
def Controller.resumeNegotiation (c : Controller) : Controller :=
  if c.consist.state = .ability ∧ c.consist.negotiationTimer = none then
    ((c.onConsist fun k => { k with negotiationTimer := some 5000 }).startJoins).advanceNegotiation
  else c

/-- The return to SOLO (R102). -/
def Controller.returnToSolo (c : Controller) : Controller :=
  ((c.unpinAll (c.consist.others.map (·.address))).onConsist fun _ => ConsistUnit.cold).setConsistState .solo

/-- The return to SOLO with the Command Unit's part (R27, R102, R116). -/
def Controller.dissolve (c : Controller) : Controller := c.returnToSolo.clearBinding .consist

/-- Negotiation has failed (R103). -/
def Controller.failNegotiation (c : Controller) : Controller :=
  (c.onLatches fun l => { l with negotiationFailed := true }).dissolve

/-! ### Breaking and renegotiation (R107 to R109) -/

/-- Mark a member LOST: its timer stops. -/
def MemberRecord.lose (o : MemberRecord) : MemberRecord := { o with mark := .lost, timer := none }

/-- The consist breaks; the member named is LOST, every other WATCHED (R108). -/
def Controller.breakConsist (address : Nat) (c : Controller) : Controller :=
  ((c.onConsist fun k =>
      { k.mapOthers fun o => if o.address = address then o.lose else { o with mark := .watched } with
        renegotiationPending := false }).onLatches fun l => { l with linkLost := true }).setConsistState .broken

/-- Renegotiation at standstill (R109). DESIGN CHOICE (log 38): the watch marks stand as the state leaves BROKEN. -/
def Controller.renegotiate (c : Controller) : Controller :=
  ((c.onConsist fun k =>
      { k.mapOthers fun o => { o with ability := none, ackHeard := false, timer := none } with
        common := none
        renegotiationPending := false
        negotiationTimer := some 5000 }).setConsistState .ability).startJoins

/-- While renegotiation is pending, v_r is judged (R109): when the flag is set and at each publication. -/
def Controller.judgeRenegotiation (c : Controller) : Controller :=
  if c.consist.state = .broken ∧ c.consist.renegotiationPending ∧ c.motion.rampedSpeed = 0 then c.renegotiate else c

/-- When no member is LOST the pending flag is set and v_r judged (R109). -/
def Controller.judgeLost (c : Controller) : Controller :=
  if c.consist.state = .broken ∧ !c.consist.renegotiationPending ∧ (c.consist.others.all fun o => o.mark != .lost) then
    (c.onConsist fun k => { k with renegotiationPending := true }).judgeRenegotiation
  else c

/-- A WATCHED member of a BROKEN consist becomes LOST and renegotiation is no longer pending (R109). -/
def Controller.loseMember (address : Nat) (c : Controller) : Controller :=
  c.onConsist fun k => { k.onMember address MemberRecord.lose with renegotiationPending := false }

/-- A LOST member is heard again (R109). -/
def Controller.rehearMember (address : Nat) (c : Controller) : Controller :=
  (c.onConsist (·.onMember address fun o => { o with mark := .reheard })).judgeLost

def Controller.restartMemberTimer (address : Nat) (c : Controller) : Controller :=
  c.onConsist (·.onMember address fun o => { o with timer := some 1000 })

/-! ### Member notices -/

/-- The STATUS fields show this consist id. -/
def Controller.showsOwnConsist (f : StatusFields) (c : Controller) : Bool :=
  f.consistId.isSome && f.consistId == c.consist.consistId

/-- A member's STATUS in ACKNOWLEDGE (R101). -/
def Controller.statusInAcknowledge (o : MemberRecord) (f : StatusFields) (c : Controller) : Controller :=
  if c.showsOwnConsist f ∧ f.consistState = .formed then
    (c.onConsist (·.onMember o.address fun o => { o with ackHeard := true })).enterFormed
  else c

/-- A member's STATUS in FORMED (R107). -/
def Controller.statusInFormed (o : MemberRecord) (f : StatusFields) (c : Controller) : Controller :=
  if c.showsOwnConsist f then
    match f.consistState with
    | .formed => c.restartMemberTimer o.address
    | .acknowledge => c
    | _ => c.breakConsist o.address
  else c.breakConsist o.address

/-- A member's STATUS in BROKEN (R109). -/
def Controller.statusInBroken (o : MemberRecord) (f : StatusFields) (c : Controller) : Controller :=
  match o.mark with
  | .watched => if c.showsOwnConsist f then c.restartMemberTimer o.address else c.loseMember o.address
  | .lost => c.rehearMember o.address
  | .reheard => c

/-- What a member's STATUS does to negotiation and supervision, by the consist state. -/
def Controller.superviseStatus (o : MemberRecord) (f : StatusFields) (c : Controller) : Controller :=
  match c.consist.state with
  | .acknowledge => c.statusInAcknowledge o f
  | .formed => c.statusInFormed o f
  | .broken => c.statusInBroken o f
  | _ => c

/-- A member's STATUS showing a fault sets the consist-fault flag (R112). -/
def Controller.shareFault (f : StatusFields) (c : Controller) : Controller :=
  if f.stall ∨ f.driveFault then
    let set := c.onConsist fun k => { k with consistFault := true }
    if c.consist.consistFault then set else set.fileStatus
  else c

/-- A member's E_STOP flag newly set requests an emergency stop (R113). -/
def Controller.shareStop (f : StatusFields) (previous : Option Bool) (c : Controller) : Controller :=
  if f.eStop ∧ previous ≠ some true then c.emergencyStop else c

/-- The STATUS member notice (R101, R107, R109, R112, R113, in this order: log 11). -/
def Controller.statusNotice (source : Nat) (f : StatusFields) (previous : Option Bool) (c : Controller) : Controller :=
  if c.consist.state = .solo then c
  else
    match c.consist.member source with
    | none => c
    | some o => ((c.superviseStatus o f).shareFault f).shareStop f previous

/-- A JOIN in ABILITY or ACKNOWLEDGE: the ability heard, and the ack if its flag is set (R99 to R101). -/
def Controller.hearAbility (source : Nat) (j : JoinFields) (c : Controller) : Controller :=
  (c.onConsist
    (·.onMember source fun o => { o with ability := some j.ability, ackHeard := o.ackHeard || j.ack })).advanceNegotiation

/-- The JOIN member notice (R99, R109). -/
def Controller.joinNotice (source : Nat) (j : JoinFields) (c : Controller) : Controller :=
  match c.consist.member source with
  | none => c
  | some o =>
    match c.consist.state with
    | .ability => c.hearAbility source j
    | .acknowledge => c.hearAbility source j
    | .broken => if o.mark = .lost then c.rehearMember source else c
    | _ => c

/-- A member timer reaches 0 (R107, R109). -/
def Controller.expireMember (address : Nat) (c : Controller) : Controller :=
  match c.consist.state with
  | .formed => c.breakConsist address
  | .broken => c.loseMember address
  | _ => c

/-- Warm restart (R120): a locomotive in a consist keeps its list and negotiates again from ABILITY when supply returns. -/
def Controller.warmConsist (c : Controller) : Controller :=
  if c.consist.state = .solo then c
  else
    (c.onConsist fun k =>
      { k.mapOthers fun o => { o with ability := none, ackHeard := false, timer := none, mark := .watched } with
        common := none
        renegotiationPending := false
        consistFault := false
        signalLossStop := false
        negotiationTimer := none
        joinTimer := none }).setConsistState .ability

end Sys2Proof.Machine
end

