-- ==== Sys2Proof/Machine/ReceiveOps.lean ====
section
/-! DEFINITION. The receive side's checks of a delivered frame and the dispatcher's taking of the head frame (R1 to R11). -/

namespace Sys2Proof.Machine

/-- A frame that passed every check joins the tail of the FIFO, or is dropped and counted (R5). -/
def Controller.offerFrame (frame : RxFrame) (c : Controller) : Controller :=
  if c.air.rxFifo.length < 8 then c.onAir fun a => { a with rxFifo := a.rxFifo ++ [frame] } else c.countRxOverrun

/-- A frame with the own address as its source (R4). -/
def Controller.latchConflict (c : Controller) : Controller := c.onLatches fun l => { l with addressConflict := true }

/-- A delivered frame (R1): frame check, structural checks, address-conflict check, then the FIFO. -/
def Controller.receiveFrame (frame : RxFrame) (c : Controller) : Controller :=
  if c.command.partMode = .start then c
  else if !frameCheck frame.bytes then c.countCheckFail
  else if !structurallySound frame.bytes then c.countMalformed
  else if frameSource frame.bytes = c.settings.ownAddress then c.latchConflict
  else c.offerFrame frame

/-- The dispatcher takes a head frame of this kind and completes its dispatch (R5, R6); with no frame, or with a frame of
another kind at the head, this is not the dispatch that takes place (log 4). -/
def Controller.dispatch (kind : FrameKind) (act : RxFrame → DestinationClass → Controller → Controller) (c : Controller) :
    Controller :=
  match c.air.rxFifo with
  | [] => c
  | frame :: rest =>
    if frameKind frame.bytes = some kind then
      act frame (c.classify (frameDestination frame.bytes)) (c.onAir fun a => { a with rxFifo := rest })
    else c

def driveFrame (bs : List Byte) : DriveFrame :=
  { source := frameSource bs, step := driveStep (payloadOf bs), direction := driveDirection (payloadOf bs),
    functions := driveFunctions (payloadOf bs) }

/-- The fields of a MARKER frame and its strength (R11). -/
def markerFrame (frame : RxFrame) : MarkerFrame :=
  let p := payloadOf frame.bytes
  { address := frameSource frame.bytes, blockId := wordAt p 0, aspect := aspectOf (byteAt p 2), capStep := byteAt p 3,
    strength := frame.strength }

/-- HALT is handed over on the classes ALL, OWN and OWN_CONSIST (R7). -/
def DestinationClass.halts : DestinationClass → Bool
  | .all => true
  | .own => true
  | .ownConsist => true
  | _ => false

/-- COUPLE is handed over on every consist address (R7). -/
def DestinationClass.isConsist : DestinationClass → Bool
  | .ownConsist => true
  | .otherConsist => true
  | _ => false

/-- Dispatch of a JOIN (R10): the peer table, then the member notice on the own consist address. -/
def Controller.dispatchJoin (frame : RxFrame) (cls : DestinationClass) (c : Controller) : Controller :=
  let fields := joinFields (payloadOf frame.bytes)
  let source := frameSource frame.bytes
  let recorded := c.onPeers (recordLoco source (LocoEntry.heardJoin fields))
  if cls = .ownConsist then recorded.joinNotice source fields else recorded

/-- Dispatch of a STATUS (R9): the peer table, then the member notice with the previous E_STOP flag. -/
def Controller.dispatchStatus (frame : RxFrame) (c : Controller) : Controller :=
  let fields := statusFields (payloadOf frame.bytes)
  let source := frameSource frame.bytes
  (c.onPeers (recordLoco source (LocoEntry.heardStatus fields))).statusNotice source fields
    (previousEStop source c.air.peers)

/-- Dispatch of a MARKER (R11): nothing for a pinned entry, else the peer table and the marker notice. -/
def Controller.dispatchMarker (frame : RxFrame) (c : Controller) : Controller :=
  let n := markerFrame frame
  if peerPinned n.address c.air.peers then c else (c.onPeers (recordMarker n.address)).markerNotice n

end Sys2Proof.Machine
end

