-- ==== Sys2Proof/Machine/BeatOps.lean ====
section
/-! DEFINITION. The Beat Counter's operations (chapter 5). -/

namespace Sys2Proof.Machine

/-- The wheel speed of a pulse spacing (R84). -/
def wheelSpeedOf (distance spacing : Nat) : Nat := min 4095 (distance * 200 / spacing)

/-- The beat interval of a measured speed (R88). -/
def beatInterval (beatConstant measured : Nat) : Nat := clampNat 20 2000 (beatConstant * 16 / measured)

/-- The interval timer as it starts or reloads (R88); at a measured speed of 0 no interval is defined and it is stopped, as
R89 stops it below 8 (log 15). -/
def startInterval (beatConstant measured : Nat) : Option Nat :=
  if measured = 0 then none else some (beatInterval beatConstant measured)

/-- The beat-spacing state at a beat (R85). -/
def BeatCounter.space (b : BeatCounter) : BeatCounter :=
  { b with
    lastInterval :=
      match b.beatAge with
      | some n => some (max 1 n)
      | none => b.lastInterval
    beatAge := some 0 }

/-- Deliver a beat event to sound, smoke and lights (R85, R122, R151, R163). -/
def Controller.deliverBeat (labour : LabourLevel) (phase : Nat) (c : Controller) : Controller :=
  ((c.onSound (·.beatTrigger labour phase)).puffBeat labour).flareBeat labour

/-- Emit a beat (R85) and advance the phase (R86). -/
def Controller.emitBeat (c : Controller) : Controller :=
  ((c.onBeat (·.space)).deliverBeat c.motion.labour c.beat.phase).onBeat fun b =>
    { b with phase := (b.phase + 1) % c.settings.beatsPerRevolution }

/-- A pulse at the present millisecond is accepted: none within 4 ms of the last accepted one (R83). -/
def BeatCounter.acceptsPulse (b : BeatCounter) : Bool :=
  match b.lastPulse with
  | some t => t + 4 ≤ b.now
  | none => true

/-- The measurement of an accepted pulse (R84). -/
def BeatCounter.measure (distance : Nat) (b : BeatCounter) : BeatCounter :=
  match b.lastPulse with
  | some t =>
    let p := min 65535 (b.now - t)
    { b with period := some p, wheelSpeed := wheelSpeedOf distance p, lastPulse := some b.now, pulseAge := 0 }
  | none => { b with lastPulse := some b.now, pulseAge := 0 }

/-- Count a pulse in EVENT mode (R87). -/
def Controller.countPulse (c : Controller) : Controller :=
  if c.beat.counter ≤ 1 then
    (c.onBeat fun b => { b with faultWatch := 0, counter := c.settings.preload }).emitBeat
  else c.onBeat fun b => { b with faultWatch := 0, counter := b.counter - 1 }

/-- A pulse's period counts as good (R92). -/
def goodPeriod : Option Nat → Bool
  | some p => 4 ≤ p && p ≤ 2000
  | none => false

/-- Judge a pulse for recovery in FAULT (R92). -/
def BeatCounter.judgeRecovery (b : BeatCounter) : BeatCounter :=
  { b with goodPulses := if goodPeriod b.period then saturatingSucc 8 b.goodPulses else 0 }

/-- An accepted pulse, whole (R84, R87, R92). -/
def Controller.acceptPulse (c : Controller) : Controller :=
  let measured := c.onBeat (·.measure c.settings.pulseDistance)
  match c.beat.sensor with
  | .fault => measured.onBeat (·.judgeRecovery)
  | .ok => if c.beat.mode = .event then measured.countPulse else measured

/-- The pulse age and the decay of the wheel speed at one millisecond (R84). -/
def BeatCounter.decay (distance : Nat) (b : BeatCounter) : BeatCounter :=
  match b.lastPulse with
  | none => b
  | some _ =>
    let age := saturatingSucc 65535 b.pulseAge
    { b with
      pulseAge := age
      wheelSpeed :=
        if age = 65535 then 0
        else
          match b.period with
          | some p => if p < age then wheelSpeedOf distance age else b.wheelSpeed
          | none => b.wheelSpeed }

/-- The fault watch at one millisecond (R90). -/
def nextFaultWatch (mode : BeatMode) (sensor : SensorStatus) (measured watch : Nat) : Nat :=
  if mode = .event ∧ sensor = .ok ∧ 200 ≤ measured then saturatingSucc 2000 watch else 0

/-- The interval timer at one millisecond (R89); at 0 it waits for its expiry. -/
def nextIntervalTimer (mode : BeatMode) (beatConstant measured : Nat) (timer : Option Nat) : Option Nat :=
  if mode = .interval then
    if measured < 8 then none
    else
      match timer with
      | none => startInterval beatConstant measured
      | some n => some (n - 1)
  else none

/-- One millisecond of the Beat Counter (R84, R85, R89, R90). The fault watch and the interval timer run from the first RUN
after a cold start (R93). -/
def Controller.beatTick (c : Controller) : Controller :=
  let aged := c.onBeat fun b =>
    { b.decay c.settings.pulseDistance with now := b.now + 1, beatAge := b.beatAge.map (saturatingSucc 65535) }
  if c.command.partMode = .start then aged
  else
    aged.onBeat fun b =>
      { b with
        faultWatch := nextFaultWatch b.mode b.sensor c.motion.measuredSpeed b.faultWatch
        intervalTimer := nextIntervalTimer b.mode c.settings.beatConstant c.motion.measuredSpeed b.intervalTimer }

/-- The sensor is judged faulty (R91). -/
def Controller.failSensor (c : Controller) : Controller :=
  (((c.onBeat fun b =>
          { b with
            sensor := .fault
            mode := .interval
            faultWatch := 0
            goodPulses := 0
            intervalTimer := startInterval c.settings.beatConstant c.motion.measuredSpeed }).onLatches
        fun l => { l with sensorFault := true }).abortCalibration).fileStatus

/-- The sensor has proved sound (R92). -/
def Controller.recoverSensor (c : Controller) : Controller :=
  (c.onBeat fun b =>
      { b with
        sensor := .ok
        mode := .event
        counter := c.settings.preload
        intervalTimer := none
        faultWatch := 0
        goodPulses := 0 }).fileStatus

/-- A timed beat (R89): emitted, and the timer reloaded from the measured speed. -/
def Controller.timedBeat (c : Controller) : Controller :=
  c.emitBeat.onBeat fun b => { b with intervalTimer := startInterval c.settings.beatConstant c.motion.measuredSpeed }

/-! ### What falls together with a pulse (R90, R92) -/

/-- The fault watch has reached its limit: the sensor is to be judged faulty (R90, R91). -/
def BeatCounter.faultFound (b : BeatCounter) : Bool := b.mode == .event && b.sensor == .ok && 2000 ≤ b.faultWatch

/-- The eighth good pulse has come in FAULT (R92). -/
def BeatCounter.recovered (b : BeatCounter) : Bool := b.sensor == .fault && 8 ≤ b.goodPulses

/-- The interval timer has reached 0: a timed beat is to be emitted (R89). -/
def Controller.beatTimedOut (c : Controller) : Bool :=
  c.beat.mode == .interval && c.beat.intervalTimer == some 0 && 8 ≤ c.motion.measuredSpeed

/-- What an earlier pulse or millisecond has brought about takes effect before the pulse that comes now (R90, R92). A recovery
that stands beside a timer at 0 came before the millisecond that lowered it, and stops it. -/
def Controller.settleBeats (c : Controller) : Controller :=
  let judged := if c.beat.faultFound then c.failSensor else c
  let sound := if judged.beat.recovered then judged.recoverSensor else judged
  if sound.beatTimedOut then sound.timedBeat else sound

/-- Warm restart (R93). -/
def BeatCounter.warm (preload : Nat) (b : BeatCounter) : BeatCounter :=
  { b with counter := preload, phase := 0, intervalTimer := none, beatAge := none, lastInterval := none }

end Sys2Proof.Machine
end

