-- ==== Sys2Proof/Machine/SupplyOps.lean ====
section
/-! DEFINITION. The Supply Monitor's operations: the shed ladder, supply states, warm restart (chapter 10). -/

namespace Sys2Proof.Machine

/-- How many of these thresholds a voltage lies below. -/
def countBelow (thresholds : List Nat) (v : Nat) : Nat := thresholds.countP (v < ·)

/-- The shed level that the ladder judges from V_res (R166). -/
def ladder (cfg : Settings) (vres level : Nat) : Nat :=
  let rising := countBelow [cfg.s1, cfg.s2, cfg.s3, Config.vHold] vres
  let falling := countBelow [cfg.s1 + 3, cfg.s2 + 3, cfg.s3 + 3] vres
  if level < rising then rising else if falling < level then falling else level

/-- Set the shed level: a change files a STATUS request (R170) and reaches smoke and lights (R153, R159). -/
def Controller.setShedLevel (level : Nat) (c : Controller) : Controller :=
  if level = c.supply.shedLevel then c
  else (((c.onSupply fun u => { u with shedLevel := level }).fileStatus).smokeShed level).judgeLights

/-- Set the supply state: leaving NORMAL aborts a calibration (R80), HOLD switches the drive off at once (R60, R167), and
NORMAL resumes a negotiation that waits for it (R120). -/
def Controller.setSupplyState (state : SupplyState) (c : Controller) : Controller :=
  let changed := c.onSupply fun u => { u with state := state }
  match state with
  | .normal => changed.resumeNegotiation
  | .hold => changed.abortCalibration.driveOff
  | _ => changed.abortCalibration

/-- Entry to HOLD (R167). -/
def Controller.enterHold (c : Controller) : Controller :=
  ((c.onSupply fun u => { u with holdTimer := some 3000 }).setSupplyState .hold).setShedLevel 4

/-- Judge the ladder in DROPOUT: level 4 enters HOLD (R166). -/
def Controller.judgeLadder (c : Controller) : Controller :=
  let level := ladder c.settings c.supply.vres c.supply.shedLevel
  if level = 4 then c.enterHold else c.setShedLevel level

/-- The low and good counts of a sample (R165). -/
def SupplyMonitor.countSample (vin : Nat) (u : SupplyMonitor) : SupplyMonitor :=
  { u with
    lowCount := if vin < Config.vinLow then saturatingSucc 2 u.lowCount else 0
    goodCount := if Config.vinOk ≤ vin then saturatingSucc 20 u.goodCount else 0 }

/-- A sample while the part mode is START (R173): the start-up count, and a loss of the qualification. -/
def SupplyMonitor.qualifySample (vin : Nat) (u : SupplyMonitor) : SupplyMonitor :=
  if Config.vinOk ≤ vin then { u with startCount := saturatingSucc 100 u.startCount }
  else { u with startCount := 0, state := .settle }

/-- One supply sample (R165, R166, R173). -/
def Controller.supplyTick (vin vres : Nat) (c : Controller) : Controller :=
  let sampled := c.onSupply fun u => { u with vin := vin, vres := vres }
  if c.command.partMode = .start then sampled.onSupply (·.qualifySample vin)
  else
    let counted := sampled.onSupply (·.countSample vin)
    if c.supply.state = .dropout then counted.judgeLadder else counted

/-- A dropout is detected (R165). -/
def Controller.detectDropout (c : Controller) : Controller :=
  let stopped := c.countDropout.onSupply fun u => { u with settleTimer := none, stepDownTimer := none }
  (stopped.setSupplyState .dropout).judgeLadder

/-- The step-down timer as it starts: it runs while the shed level is above 0 (R165, R169). -/
def stepDownFor (level : Nat) : Option Nat := if 0 < level then some 200 else none

/-- The supply state becomes NORMAL and the step-down starts (R165, R168). -/
def Controller.supplyNormal (c : Controller) : Controller :=
  (c.onSupply fun u => { u with settleTimer := none, stepDownTimer := stepDownFor u.shedLevel }).setSupplyState .normal

/-- The hold ends (R168). -/
def Controller.endHold (c : Controller) : Controller :=
  ((c.onSupply fun u => { u with holdTimer := none, settleTimer := some 100 }).setSupplyState .settle).setShedLevel 3

/-- The step-down timer reaches 0 (R169). -/
def Controller.stepDown (c : Controller) : Controller :=
  (c.setShedLevel (c.supply.shedLevel - 1)).onSupply fun u => { u with stepDownTimer := stepDownFor u.shedLevel }

/-- The supply has been steady for 100 ms in START (R173). -/
def Controller.qualifySupply (c : Controller) : Controller :=
  (c.onSupply fun u => { u with state := .normal, shedLevel := 0 }).judgeLights

/-- The cold start ends (R173, R21): the part mode becomes RUN, a STATUS request is filed, the STATUS interval timer starts
(R179) and the ambient program starts where SOUND_ON is on (R124). -/
def Controller.enterRun (c : Controller) : Controller :=
  let running := (c.setMode .run).fileStatus
  (running.onAir fun a => { a with statusTimer := some running.statusInterval }).triggerAmbient.judgeLights

/-- The core supply falls below the retention level (R172): only the mark is left of the state. The model's own counter and
the transceiver's line stand (log 6). -/
def Controller.brownout (c : Controller) : Controller :=
  ((Controller.powerOn true).onSound fun e => { e with unread := c.sound.unread }).onAir fun a =>
    { a with transmitActive := c.air.transmitActive }

/-- The Supply Monitor at a warm restart (section 10.1, R171, R172). A return of the supply that falls together with it still
moves the restarted part to SETTLE (R168): a good count that has reached 20 stands until HOLD_END. -/
def SupplyMonitor.warm (u : SupplyMonitor) : SupplyMonitor :=
  { u with lowCount := 0, goodCount := if 20 ≤ u.goodCount then u.goodCount else 0, holdTimer := none, settleTimer := none, stepDownTimer := none,
           resetCause := .warm, brownoutMark := false }

/-- The warm restart (R171): every unit performs its part, the STATUS request of the restart is filed, and the ambient
program starts where SOUND_ON is fixed on (R124, R145). -/
def Controller.warmRestart (c : Controller) : Controller :=
  let air := c.onAir (·.warm)
  let command := (air.onCommand (·.warm)).onLight (·.warm)
  let motion := (command.onMotion (·.warm)).setMotionState .idle
  let beat := motion.onBeat (·.warm c.settings.preload)
  let consist := beat.warmConsist
  let smoke := (consist.onSound (·.warm)).changeSmoke (·.warm)
  let supply := (smoke.onSupply (·.warm)).fileStatus
  supply.triggerAmbient.judgeLights

end Sys2Proof.Machine
end

