-- ==== Sys2Proof/Machine/Clock.lean ====
section
/-! DEFINITION. The part left alone, with no command waiting (log 1): first the internal events whose condition stands are
taken up, one at a time, and when none is due one millisecond passes on the timers that no row of the table counts. -/

namespace Sys2Proof.Machine

/-! ### Internal events whose condition stands -/

/-- The dispatch of a frame of this kind. -/
def FrameKind.command : FrameKind → Instr
  | .drive => .drive
  | .release => .release
  | .halt => .halt
  | .calibrate => .calibrate
  | .diagQuery => .diagQuery
  | .couple => .couple
  | .uncouple => .uncouple
  | .join => .join
  | .status => .status
  | .marker => .marker
  | .diagReport => .diagReportDiscarded

/-- The dispatcher takes the head frame whenever the FIFO is not empty (R6). -/
def Controller.dispatchDue (c : Controller) : Option Instr :=
  (c.air.rxFifo.head?).bind fun frame => (frameKind frame.bytes).map FrameKind.command

/-- `i` is due when its condition `due` stands. -/
def dueWhen (due : Bool) (i : Instr) : Option Instr := if due then some i else none

/-- The calibration phase that has run out (R75, R77). -/
def Controller.phaseDue (c : Controller) : Option Instr :=
  match c.motion.state, c.motion.calibration with
  | .calibrating .spinup, some r => dueWhen (r.phaseTimer == 0) .spinupEnd
  | .calibrating .measure, some r => dueWhen (r.phaseTimer == 0) .measureEnd
  | _, _ => none

/-- The first internal event that is due, in the model's order (log 20): faults first, then supply, then the rest. -/
def Controller.dueEvent (c : Controller) : Option Instr :=
  [ dueWhen (400 ≤ c.motion.stallCount) .stallLatch,
    c.phaseDue,
    dueWhen (c.supply.startCount == 100 && c.command.partMode == .start && c.supply.state != .normal) .startupQualified,
    dueWhen (c.command.partMode == .start && c.supply.loaded && c.supply.state == .normal) .coldStartEnd,
    dueWhen (c.command.partMode != .start && 2 ≤ c.supply.lowCount
      && (c.supply.state == .normal || c.supply.state == .settle)) .dropoutDetected,
    dueWhen (c.supply.state == .dropout && 20 ≤ c.supply.goodCount) .pickupReturn,
    dueWhen (c.supply.state == .hold && 20 ≤ c.supply.goodCount) .holdEnd,
    dueWhen c.beat.faultFound .sensorFault,
    dueWhen c.beat.recovered .sensorRecovery,
    dueWhen c.beatTimedOut .intervalTimerExpiry,
    dueWhen (2000 ≤ c.motion.block.age && c.motion.block.aspect != .unknown) .blockStale,
    dueWhen (c.light.flareTimer == some 0) .flareEnd,
    c.dispatchDue,
    dueWhen (c.air.transmitter == .idle && c.air.chosenSlot.isSome) .listenStart,
    dueWhen (c.sound.reader == none && (chooseVoice 0 c.sound.voices).isSome) .fillGrant ].findSome? id

/-! ### One millisecond -/

/-- The backoff and QUIET timers (R17, R19). QUIET stands at 0 once its 2 s have run out, until QUIET_END or a fall. -/
def TxState.lower : TxState → TxState
  | .backoff (n + 2) => .backoff (n + 1)
  | .quiet (n + 1) => .quiet n
  | t => t

/-- The 20 ms of a write (R78). -/
def WriteState.lower : WriteState → WriteState
  | .writing record (n + 2) => .writing record (n + 1)
  | .restoring record (n + 2) => .restoring record (n + 1)
  | w => w

def WriteState.due : WriteState → Bool
  | .writing _ n => n ≤ 1
  | .restoring _ n => n ≤ 1
  | .none => false

def AirInterface.millisecond (a : AirInterface) : AirInterface :=
  { a with transmitter := a.transmitter.lower, statusTimer := lowerTimer a.statusTimer }

def CommandUnit.millisecond (parkLimit : Nat) (u : CommandUnit) : CommandUnit :=
  { u with
    binding := u.binding.map fun b => { b with supervision := if b.supervision ≤ 1 then b.supervision else b.supervision - 1 }
    parkTimer := u.parkTimer.map (saturatingSucc parkLimit) }

def ConsistUnit.millisecond (k : ConsistUnit) : ConsistUnit :=
  { k.mapOthers fun o => { o with timer := lowerTimer o.timer } with
    negotiationTimer := lowerTimer k.negotiationTimer
    joinTimer := lowerTimer k.joinTimer }

def SmokeController.millisecond (k : SmokeController) : SmokeController :=
  { k with heatUpTimer := lowerTimer k.heatUpTimer, purgeTimer := lowerTimer k.purgeTimer, puffTimer := lowerTimer k.puffTimer }

def SupplyMonitor.millisecond (u : SupplyMonitor) : SupplyMonitor :=
  { u with
    holdTimer := lowerTimer u.holdTimer
    settleTimer := lowerTimer u.settleTimer
    stepDownTimer := lowerTimer u.stepDownTimer }

/-- One millisecond on every timer that no row counts; a timer stops at its last millisecond (log 2). -/
def Controller.millisecond (c : Controller) : Controller :=
  { c with
    air := c.air.millisecond
    command := c.command.millisecond c.settings.parkLimit
    motion := { c.motion with write := c.motion.write.lower }
    consist := c.consist.millisecond
    smoke := c.smoke.millisecond
    supply := c.supply.millisecond }

/-- The end of a backoff (R17). DESIGN CHOICE (log 18): QUIET_END comes as a command, for transmit-active may have risen again
in QUIET, and only the transceiver knows. -/
def AirInterface.transmitterDue (a : AirInterface) : Option Instr :=
  match a.transmitter with
  | .backoff n => dueWhen (n ≤ 1) .backoffEnd
  | _ => none

/-- The expiries of the millisecond that now passes, in the model's order (log 20). -/
def Controller.expiries (c : Controller) : List Instr :=
  [ dueWhen (timerDue (c.command.binding.map (·.supervision))) .supervisionExpiry,
    dueWhen (timerDue c.supply.holdTimer) .warmRestart,
    dueWhen (timerDue c.supply.settleTimer) .settleEnd,
    dueWhen (timerDue c.supply.stepDownTimer) .stepDownExpiry,
    dueWhen c.motion.write.due .writeTimeout,
    dueWhen (timerDue c.consist.negotiationTimer) .negotiationTimeout,
    dueWhen (timerDue c.consist.joinTimer) .joinTimerExpiry,
    dueWhen (timerDue c.smoke.heatUpTimer) .heatUpTimeout,
    dueWhen (timerDue c.smoke.purgeTimer) .purgeEnd,
    dueWhen (timerDue c.smoke.puffTimer) .puffEnd,
    dueWhen (c.command.parkTimer.any (c.settings.parkLimit ≤ · + 1)) .parkDelayExpiry,
    dueWhen (timerDue c.air.statusTimer) .statusIntervalExpiry,
    c.air.transmitterDue ].filterMap id
    ++ (c.consist.others.filter fun o => timerDue o.timer).map fun o => .memberTimerExpiry o.address

/-- What a step does when no command waits (log 1). -/
def State.idleStep (s : State) : State :=
  match s.dueEvent with
  | some i => { s with pending := [i] }
  | none => { s with toController := s.toController.millisecond, pending := s.toController.expiries }

end Sys2Proof.Machine
end

