-- ==== Sys2Proof/Machine/AirInterface.lean ====
section
/-! DEFINITION. The commands of the Air Interface (chapter 1, R179): receiving, peer frames, ageing, medium access,
transmission, jabber. -/

namespace Sys2Proof.Machine

/-- FRAME_DELIVERED (R1 to R5). -/
def execFrameDelivered (bytes : List Byte) (strength : Fin 256) (s : State) : Host.Outcome State Fault Refusal :=
  .next (s.update (·.receiveFrame { bytes := bytes, strength := strength.val }))

/-- JOIN (R10). -/
def execJoin (s : State) : Host.Outcome State Fault Refusal := .next (s.update (·.dispatch .join Controller.dispatchJoin))

/-- STATUS (R9): handed over on every destination class (R7). -/
def execStatus (s : State) : Host.Outcome State Fault Refusal := .next (s.update (·.dispatch .status fun frame _ c => c.dispatchStatus frame))

/-- MARKER (R11): handed over on every destination class (R7). -/
def execMarker (s : State) : Host.Outcome State Fault Refusal := .next (s.update (·.dispatch .marker fun frame _ c => c.dispatchMarker frame))

/-- DIAG_REPORT_DISCARDED (R7). -/
def execDiagReportDiscarded (s : State) : Host.Outcome State Fault Refusal := .next (s.update (·.dispatch .diagReport fun _ _ c => c))

/-- PEER_AGE_TICK (R13): the tick runs from the end of cold start onward. -/
def execPeerAgeTick (s : State) : Host.Outcome State Fault Refusal :=
  .next (s.update fun c => if c.command.partMode = .start then c else c.onPeers agePeers)

/-- LISTEN_START (R16): an IDLE transmitter with a slot requested. -/
def execListenStart (s : State) : Host.Outcome State Fault Refusal :=
  .next (s.update fun c => if c.air.transmitter = .idle then c.onAir (·.openWindow) else c)

/-- LISTEN_WINDOW_END (R16 to R18): a clear window begins the transmission, a busy one is charged. -/
def execListenWindowEnd (busy : Bool) (s : State) : Host.Outcome State Fault Refusal :=
  .next
    (s.update fun c =>
      match c.air.transmitter with
      | .listen kind => if busy then c.chargeBusy kind else c.beginTransmission kind
      | _ => c)

/-- BACKOFF_END (R17): the next window begins with a fresh choice. -/
def execBackoffEnd (s : State) : Host.Outcome State Fault Refusal :=
  .next
    (s.update fun c =>
      match c.air.transmitter with
      | .backoff _ => c.onAir (·.openWindow)
      | _ => c)

/-- FRAME_HANDOVER (R18, R179, R182). -/
def execFrameHandover (s : State) : Host.Outcome State Fault Refusal :=
  .next
    (s.update fun c =>
      match c.air.feeding with
      | some t => c.handOver t
      | none => c)

/-- TRANSMISSION_END (R18): transmit-active falls after the hand-over. -/
def execTransmissionEnd (s : State) : Host.Outcome State Fault Refusal :=
  .next
    (s.update fun c =>
      match c.air.transmitter, c.air.outgoing with
      | .sending, some t => if t.handedOver then c.onAir (·.endTransmission) else c
      | _, _ => c)

/-- TX_ACTIVE_TIMEOUT (R18): the transceiver has not taken the channel. -/
def execTxActiveTimeout (s : State) : Host.Outcome State Fault Refusal :=
  .next
    (s.update fun c =>
      match c.air.feeding with
      | some t => c.failTransmission t
      | none => c)

/-- TX_CUT_OFF (R18): transmit-active falls before the last byte is taken. -/
def execTxCutOff (s : State) : Host.Outcome State Fault Refusal :=
  .next
    (s.update fun c =>
      match c.air.feeding with
      | some t => (c.onAir fun a => { a with transmitActive := false }).failTransmission t
      | none => c)

/-- JABBER (R19): in every transmitter state, QUIET included, but one detection counts once: in QUIET only with a fall shown
since. -/
def execJabber (s : State) : Host.Outcome State Fault Refusal :=
  .next (s.update fun c => if c.air.jabbering then c else (c.onAir (·.enterQuiet)).countJabber)

/-- QUIET_END (R19): the 2 s have run out with transmit-active low. -/
def execQuietEnd (s : State) : Host.Outcome State Fault Refusal :=
  .next (s.update fun c => if c.air.quietOver then c.onAir (·.leaveQuiet) else c)

/-- TRANSMIT_ACTIVE_FALL_IN_QUIET (R19): a fall after the 2 s have run out ends QUIET, and one within them only lowers the
line. -/
def execTransmitActiveFallInQuiet (s : State) : Host.Outcome State Fault Refusal :=
  .next
    (s.update fun c =>
      match c.air.transmitter with
      | .quiet left => c.onAir (·.fallInQuiet left)
      | _ => c)

/-- STATUS_INTERVAL_EXPIRY (R179). -/
def execStatusIntervalExpiry (s : State) : Host.Outcome State Fault Refusal :=
  .next
    (s.update fun c =>
      match c.air.statusTimer with
      | some _ => c.fileStatus.onAir fun a => { a with statusTimer := some c.statusInterval }
      | none => c)

end Sys2Proof.Machine
end

