-- ==== Sys2Proof/Machine/BeatCounter.lean ====
section
/-! DEFINITION. The commands of the Beat Counter (chapter 5). -/

namespace Sys2Proof.Machine

/-- WHEEL_PULSE (R83): from the first RUN on, where a sensor is fitted, and not within 4 ms of the last accepted pulse. A fault,
a recovery or a timed beat that stands when the pulse comes is taken first (R90, R92). -/
def execWheelPulse (s : State) : Host.Outcome State Fault Refusal :=
  .next
    (s.update fun c =>
      if c.command.partMode ≠ .start ∧ c.settings.sensorFitted ∧ c.beat.acceptsPulse then c.settleBeats.acceptPulse else c)

/-- SENSOR_RECOVERY (R92). -/
def execSensorRecovery (s : State) : Host.Outcome State Fault Refusal :=
  .next (s.update fun c => if c.beat.recovered then c.recoverSensor else c)

/-- BEAT_MS_TICK (R84, R85, R89, R90). -/
def execBeatMsTick (s : State) : Host.Outcome State Fault Refusal := .next (s.update (·.beatTick))

/-- SENSOR_FAULT (R91). -/
def execSensorFault (s : State) : Host.Outcome State Fault Refusal :=
  .next (s.update fun c => if c.beat.faultFound then c.failSensor else c)

/-- INTERVAL_TIMER_EXPIRY (R89): the interval timer, which BEAT_MS_TICK lowers, stands at 0, and there is no timed beat below
a measured speed of 8. -/
def execIntervalTimerExpiry (s : State) : Host.Outcome State Fault Refusal :=
  .next (s.update fun c => if c.beatTimedOut then c.timedBeat else c)

end Sys2Proof.Machine
end

