-- ==== Sys2Proof/Machine/CommandUnit.lean ====
section
/-! DEFINITION. The commands of the Command Unit (chapter 2): driving, release, halt, calibration and diagnostic requests,
supervision, parking. -/

namespace Sys2Proof.Machine

/-- DRIVE (R22): discarded on any class but OWN and OWN_CONSIST (R7). -/
def execDrive (s : State) : Host.Outcome State Fault Refusal :=
  .next (s.update (·.dispatch .drive fun frame cls c => c.takeDrive (driveFrame frame.bytes) cls))

/-- RELEASE (R25): discarded on any class but OWN and OWN_CONSIST (R7). -/
def execRelease (s : State) : Host.Outcome State Fault Refusal :=
  .next (s.update (·.dispatch .release fun frame cls c => c.takeRelease (frameSource frame.bytes) cls))

/-- HALT (R28). -/
def execHalt (s : State) : Host.Outcome State Fault Refusal :=
  .next
    (s.update
      (·.dispatch .halt fun frame cls c =>
        if cls.halts then c.takeHalt (frameSource frame.bytes) (byteAt (payloadOf frame.bytes) 0) else c))

/-- CALIBRATE (R35), handed over on the class OWN (R7). -/
def execCalibrate (s : State) : Host.Outcome State Fault Refusal :=
  .next
    (s.update
      (·.dispatch .calibrate fun frame cls c => if cls = .own then c.takeCalibrate (frameSource frame.bytes) else c))

/-- DIAG_QUERY (R36), handed over on the class OWN (R7). -/
def execDiagQuery (s : State) : Host.Outcome State Fault Refusal :=
  .next (s.update (·.dispatch .diagQuery fun frame cls c => if cls = .own then c.fileDiag (frameSource frame.bytes) else c))

/-- SUPERVISION_EXPIRY (R26). -/
def execSupervisionExpiry (s : State) : Host.Outcome State Fault Refusal :=
  .next
    (s.update fun c =>
      match c.command.binding with
      | some b => c.expireSupervision b
      | none => c)

/-- PARK_DELAY_EXPIRY (R38): the park timer stands at the park delay. A timer that a DRIVE or a warm restart has started again
does not park. -/
def execParkDelayExpiry (s : State) : Host.Outcome State Fault Refusal :=
  .next (s.update fun c => if c.command.partMode = .run ∧ c.parkDelayOver then c.enterParked else c)

end Sys2Proof.Machine
end

