-- ==== Sys2Proof/Machine/ConsistUnit.lean ====
section
/-! DEFINITION. The commands of the Consist Unit (chapter 6): coupling, uncoupling and its timers. -/

namespace Sys2Proof.Machine

/-- COUPLE (R96), handed over on every consist address (R7). -/
def execCouple (s : State) : Host.Outcome State Fault Refusal :=
  .next
    (s.update
      (·.dispatch .couple fun frame cls c =>
        if cls.isConsist then
          c.judgeCouple (byteAt (payloadOf frame.bytes) 0) (coupleMembers (payloadOf frame.bytes))
        else c))

/-- UNCOUPLE (R116), handed over on the own consist address (R7). -/
def execUncouple (s : State) : Host.Outcome State Fault Refusal :=
  .next (s.update (·.dispatch .uncouple fun _ cls c => if cls = .ownConsist then c.dissolve else c))

/-- NEGOTIATION_TIMEOUT (R103). -/
def execNegotiationTimeout (s : State) : Host.Outcome State Fault Refusal :=
  .next
    (s.update fun c =>
      if c.consist.state.negotiating ∧ c.consist.negotiationTimer.isSome then c.failNegotiation else c)

/-- JOIN_TIMER_EXPIRY (R98): a JOIN request is filed and the timer restarts. -/
def execJoinTimerExpiry (s : State) : Host.Outcome State Fault Refusal :=
  .next
    (s.update fun c => if c.consist.state.negotiating ∧ c.consist.joinTimer.isSome then c.startJoins else c)

/-- MEMBER_TIMER_EXPIRY (R107, R109). -/
def execMemberTimerExpiry (address : Nat) (s : State) : Host.Outcome State Fault Refusal :=
  .next
    (s.update fun c =>
      match c.consist.member address with
      | some o => if o.timer.isSome then c.expireMember address else c
      | none => c)

end Sys2Proof.Machine
end

