-- ==== Sys2Proof/Machine/LightController.lean ====
section
/-! DEFINITION. The commands of the Light Controller (chapter 9). -/

namespace Sys2Proof.Machine

/-- LIGHT_MS_TICK (R159). -/
def execLightMsTick (s : State) : Host.Outcome State Fault Refusal := .next (s.update (·.lightTick))

/-- FLARE_END (R163): the flare timer, which LIGHT_MS_TICK lowers, stands at 0. -/
def execFlareEnd (s : State) : Host.Outcome State Fault Refusal :=
  .next (s.update fun c => if c.light.flareTimer = some 0 then c.endFlare else c)

end Sys2Proof.Machine
end

