-- ==== Sys2Proof/Machine/Records.lean ====
section
/-! DEFINITION. The stored records: judging, reading and normalising them (R121, R174 to R177, section 11.5), and the cold
start that loads them (R173). -/

namespace Sys2Proof.Machine

def byteSum (bs : List Byte) : Nat := bs.foldl (fun n b => n + b.toNat) 0

/-- A record of `n` bytes is good (R174): it was read whole and its closing check word is the sum of the bytes before it. -/
def goodRecord (n : Nat) (record : Option (List Byte)) : Option (List Byte) :=
  match record with
  | none => none
  | some bs => if bs.length = n ∧ wordAt bs (n - 2) = byteSum (bs.take (n - 2)) % 65536 then some bs else none

/-! ### The configuration record (R175) -/

/-- A yes-or-no field: any non-zero byte is yes (R175). -/
def yesNo (n : Nat) : Bool := n != 0

def functionActionOf (code parameter : Nat) : FunctionAction :=
  match code with
  | 1 => .lights (byteOf parameter)
  | 2 => .sound (min 63 parameter)
  | 3 => .smokeEnable
  | 4 => .dim
  | 5 => .soundOn
  | 6 => .shunt
  | _ => .none

def effectOf : Nat → Effect
  | 1 => .flicker
  | 2 => .pulse
  | 3 => .strobe
  | 4 => .ditch
  | 5 => .mars
  | _ => .steady
def directionRuleOf : Nat → DirectionRule
  | 1 => .forward
  | 2 => .reverse
  | _ => .any
def roleRuleOf : Nat → RoleRule
  | 1 => .leadOnly
  | 2 => .tailOnly
  | 3 => .notInConsist
  | _ => .any
def parkRuleOf : Nat → ParkRule
  | 1 => .stay
  | 2 => .dim
  | _ => .off

/-- Raise every point below its predecessor to it, in one pass (R175). -/
def nonDecreasing : Nat → List Nat → List Nat
  | _, [] => []
  | last, p :: rest => max last p :: nonDecreasing (max last p) rest

/-- `n` two-byte fields from offset `i`, each clamped. -/
def clampedWords (bs : List Byte) (i n low high : Nat) : List Nat :=
  (List.range n).map fun k => clampNat low high (wordAt bs (i + 2 * k))

/-- An output record (R175, section 11.5). DESIGN CHOICE (log 40): the essential field, set or clear, is taken as a yes-or-no
field, any non-zero byte as set. -/
def outputRecordOf (bs : List Byte) : OutputRecord :=
  { effect := effectOf (byteAt bs 0)
    level := byteAt bs 1
    dimLevel := byteAt bs 2
    directionRule := directionRuleOf (byteAt bs 3)
    roleRule := roleRuleOf (byteAt bs 4)
    essential := yesNo (byteAt bs 5)
    parkRule := parkRuleOf (byteAt bs 6) }

/-- The fields of a good configuration record, normalised (R175, section 11.5). -/
def settingsOf (bs : List Byte) : Settings :=
  let s1 := clampNat 65 255 (byteAt bs 212)
  let s2 := min s1 (clampNat 65 255 (byteAt bs 213))
  let s3 := min s2 (clampNat 65 255 (byteAt bs 214))
  { ownAddress := clampNat 0x0001 0x0FFF (wordAt bs 0)
    supervisionTime := clampNat 500 5000 (wordAt bs 2) / 100 * 100
    signalLossAction := if byteAt bs 4 = 1 then .continue_ else .stop
    parkDelay := min 60 (byteAt bs 5)
    functionMap := (List.range 24).map fun k => functionActionOf (byteAt bs (6 + 2 * k)) (byteAt bs (7 + 2 * k))
    consistMask := BitVec.ofNat 24 (tripleAt bs 54)
    curve := nonDecreasing 0 (clampedWords bs 57 17 0 4095)
    accel := clampNat 1 255 (byteAt bs 91)
    decel := clampNat 1 255 (byteAt bs 92)
    passingThreshold := byteAt bs 93
    restrictedStep := min 96 (byteAt bs 94)
    markerUse := yesNo (byteAt bs 95)
    kp := byteAt bs 96
    ki := byteAt bs 97
    currentLimit := clampNat 1 1023 (wordAt bs 98)
    hardCurrentLimit := clampNat 1 1023 (wordAt bs 100)
    dutyCap := clampNat 100 1000 (wordAt bs 102)
    stallDuty := clampNat 100 1000 (wordAt bs 104)
    lightThreshold := byteAt bs 106
    heavyThreshold := byteAt bs 107
    sensorFitted := yesNo (byteAt bs 108)
    preload := clampNat 1 16 (byteAt bs 109)
    beatsPerRevolution := if byteAt bs 110 = 2 then 2 else 4
    pulseDistance := clampNat 1 65535 (wordAt bs 111)
    beatConstant := clampNat 1 65535 (wordAt bs 113)
    loadShareOffered := yesNo (byteAt bs 115)
    capShareOffered := yesNo (byteAt bs 116)
    shareGain := min 64 (byteAt bs 117)
    trimMax := byteAt bs 118
    masterLevel := min 15 (byteAt bs 119)
    temperatureTable := clampedWords bs 120 9 0 400
    tIdle := clampNat 0 400 (wordAt bs 138)
    tWork := clampNat 0 400 (wordAt bs 140)
    tMax := clampNat 0 400 (wordAt bs 142)
    heaterPower := clampNat 0 1000 (wordAt bs 144)
    fanIdle := clampNat 0 1000 (wordAt bs 146)
    fanPuff := clampedWords bs 148 4 0 1000
    outputs := (List.range 8).map fun k => outputRecordOf (bs.drop (156 + 7 * k))
    s1 := s1
    s2 := s2
    s3 := s3 }

/-! ### The calibration record (R78, R176) -/

/-- The calibration record as it is written: Kbs, Kff and the check word over them (section 11.5). -/
def calibrationRecord (v : CalValues) : List Byte :=
  let fields := wordBytes v.kbs ++ wordBytes v.kff
  fields ++ wordBytes (byteSum fields % 65536)

def calValuesOf (bs : List Byte) : CalValues :=
  { kbs := clampNat 1 1024 (wordAt bs 0), kff := clampNat 0 4095 (wordAt bs 2) }

/-! ### The sound directory (R121, R177) -/

/-- A segment of a program record; a length of 0 makes it absent (R121). -/
def runOf (bs : List Byte) (i : Nat) : Option SampleRun :=
  if wordAt bs (i + 3) = 0 then none else some { start := tripleAt bs i, length := wordAt bs (i + 3) }

/-- A present segment does not run past the end of the store (R121). -/
def runFits : Option SampleRun → Bool
  | none => true
  | some r => r.start + r.length ≤ Config.storeSize

/-- A program record: enabled, or disabled and absent (R121). -/
def programOf (bs : List Byte) : Option Program :=
  match runOf bs 9 with
  | none => none
  | some body =>
    if byteAt bs 0 ≠ 0 ∧ byteAt bs 1 ≤ 3 ∧ byteAt bs 3 ≤ 1 ∧ runFits (runOf bs 4) ∧ runFits (some body)
        ∧ runFits (runOf bs 14) then
      some
        { voice := byteAt bs 1
          priority := min 3 (byteAt bs 2)
          loop := byteAt bs 3 == 1
          attack := runOf bs 4
          body := body
          release := runOf bs 14
          gain := byteAt bs 19 }
    else none

/-- A table entry; a number above 63 is none (R177). -/
def programNumber (n : Nat) : Option Nat := if n ≤ 63 then some n else none

def soundTablesOf (bs : List Byte) : SoundTables :=
  { programs := (List.range 64).map fun k => programOf (bs.drop (20 * k))
    beatTable := (List.range 16).map fun k => programNumber (byteAt (bs.drop 1280) k)
    motionTable := (List.range 4).map fun k => programNumber (byteAt (bs.drop 1296) k)
    ambient := programNumber (byteAt (bs.drop 1300) 0)
    volumeCurve := (List.range 16).map fun k => byteAt (bs.drop 1301) k }

/-! ### The cold start (R172, R173) -/

/-- The reset cause of a cold start (R172). -/
def coldCause (mark : Bool) : ResetCause := if mark then .brownout else .powerOn

/-- The cold start, steps 1 to 5 (R173): every unit takes its cold-start state under the records loaded. -/
def Controller.coldStart (config calibration directory : Option (List Byte)) (mark : Bool) (c : Controller) : Controller :=
  let goodConfig := goodRecord Config.configLength config
  let goodCalibration := goodRecord Config.calibrationLength calibration
  let goodDirectory := goodRecord Config.directoryLength directory
  let cfg := (goodConfig.map settingsOf).getD Settings.builtIn
  { settings := cfg
    air := AirInterface.cold cfg.ownAddress c.air.transmitActive
    command := CommandUnit.cold
    motion := MotionUnit.cold ((goodCalibration.map calValuesOf).getD CalValues.builtIn) goodCalibration.isNone
    beat := BeatCounter.cold cfg
    consist := ConsistUnit.cold
    sound := SoundEngine.cold ((goodDirectory.map soundTablesOf).getD SoundTables.builtIn) c.sound.unread
    smoke := SmokeController.cold
    light := LightController.cold cfg.ownAddress
    supply := SupplyMonitor.cold (coldCause mark) false true goodConfig.isNone
    counters := Counters.zero
    latches := { Latches.clear with configDefaulted := goodConfig.isNone, calDefaulted := goodCalibration.isNone } }

end Sys2Proof.Machine
end

