-- ==== Sys2Proof/Machine/PeriodOps.lean ====
section
/-! DEFINITION. One control period of the Motion Unit (R43), and the operations on a calibration and its write (R75 to
R81). -/

namespace Sys2Proof.Machine

/-- One control period (R43) with its back-EMF reading (R61) and its period current (R62). After the publication the lights
and a pending renegotiation are judged (R159, R109). -/
def Controller.controlPeriod (bemf current : Nat) (c : Controller) : Controller :=
  let begun := c.onMotion fun m => { m with block := m.block.older }
  let waiting := begun.reversalWaiting
  let ramped := begun.directionStage.rampStage waiting
  let limited := (ramped.measurementStage bemf).limitsStage current
  limited.calibrationStage.labourStage.judgeLights.judgeRenegotiation

/-- The block is stale: the aspect becomes UNKNOWN and a STATUS request is filed (R47). -/
def Controller.staleBlock (c : Controller) : Controller :=
  (c.onMotion fun m => { m with block := { m.block with aspect := .unknown } }).fileStatus

/-- STALL is latched (R72, R73); v_r is 0, so the labour level of the period is COAST (R74, log 13). -/
def Controller.latchStall (c : Controller) : Controller := c.latchFault .stall

def Controller.setCalibration (phase : CalPhase) (record : CalRecord) (c : Controller) : Controller :=
  c.onMotion fun m => { m with state := .calibrating phase, calibration := some record }

/-- The values that a valid measurement gives, from its averages (R77). -/
def measuredValues (dcal bemfAverage wheelAverage : Nat) : CalValues :=
  { kbs := clampNat 1 1024 (wheelAverage * 256 / bemfAverage), kff := clampNat 0 4095 (dcal * 4096 / wheelAverage) }

/-- The measurement is valid (R77). -/
def CalRecord.valid (r : CalRecord) : Bool := 0 < r.bemfSum / 400 && 0 < r.wheelSum / 400 && !r.foldbackSeen

/-- The new values of a record (R77). -/
def CalRecord.values (r : CalRecord) : CalValues := measuredValues r.dcal (r.bemfSum / 400) (r.wheelSum / 400)

/-- STORE begins: the duty is 0 and the record is written (R77, R78). -/
def Controller.beginStore (r : CalRecord) (c : Controller) : Controller :=
  (c.setCalibration .store { r with newValues := some r.values }).onMotion fun m =>
    { m with duty := 0, write := .writing (calibrationRecord r.values) 20 }

/-- A calibration is refused by its measurement or by its write (R77, R78). -/
def Controller.refuseCalibration (c : Controller) : Controller := c.latchCalRefused.leaveCalibration .idle

/-- The restoring write: the record with the values in force (R81). -/
def Controller.restoreRecord (c : Controller) : Controller :=
  c.onMotion fun m => { m with write := .restoring (calibrationRecord m.inForce) 20 }

def Controller.endWrite (c : Controller) : Controller := c.onMotion fun m => { m with write := .none }

/-- The new values come into force (R78): the calibration defaults no longer are (R181). -/
def Controller.adopt (v : CalValues) (c : Controller) : Controller :=
  c.onMotion fun m => { m with inForce := v, calDefaultsInForce := false }

/-- The new values of a calibration that is in STORE. -/
def MotionUnit.stored (m : MotionUnit) : Option CalValues :=
  if m.state = .calibrating .store then m.calibration.bind (·.newValues) else none

/-- The setting memory reports a write complete (R78, R79, R81). -/
def Controller.writeComplete (c : Controller) : Controller :=
  match c.motion.write with
  | .none => c
  | .restoring _ _ => c.endWrite
  | .writing _ _ =>
    match c.motion.stored with
    | some v => ((c.adopt v).endWrite).leaveCalibration .idle
    | none => c.restoreRecord

/-- 20 ms without that report (R78, R79, R81). DEDUCED (log 37): the write of a calibration no longer
in STORE latches no CAL_REFUSED. -/
def Controller.writeTimeout (c : Controller) : Controller :=
  match c.motion.write with
  | .none => c
  | .restoring _ _ => c.endWrite
  | .writing _ _ =>
    match c.motion.stored with
    | some _ => c.restoreRecord.refuseCalibration
    | none => c.restoreRecord

end Sys2Proof.Machine
end

