-- ==== Sys2Proof/Machine/MotionUnit.lean ====
section
/-! DEFINITION. The commands of the Motion Unit (chapters 3 and 4): the control period, faults, calibration and its write. -/

namespace Sys2Proof.Machine

/-- CONTROL_PERIOD (R43): it runs from the end of cold start onward. -/
def execControlPeriod (bemf : Fin 1024) (sampleSum : Fin 94117) (s : State) : Host.Outcome State Fault Refusal :=
  .next
    (s.update fun c =>
      if c.command.partMode = .start then c else c.controlPeriod bemf.val (sampleSum.val / Config.samplesPerInterval))

/-- BLOCK_STALE (R47). -/
def execBlockStale (s : State) : Host.Outcome State Fault Refusal :=
  .next (s.update fun c => if 2000 ≤ c.motion.block.age ∧ c.motion.block.aspect ≠ .unknown then c.staleBlock else c)

/-- STALL_LATCH (R73). -/
def execStallLatch (s : State) : Host.Outcome State Fault Refusal :=
  .next (s.update fun c => if 400 ≤ c.motion.stallCount then c.latchStall else c)

/-- HARD_CURRENT_SAMPLE (R71): sampling runs in every state, START included (R62, log 14). -/
def execHardCurrentSample (sample : Fin 1024) (s : State) : Host.Outcome State Fault Refusal :=
  .next
    (s.update fun c =>
      if c.settings.hardCurrentLimit ≤ sample.val ∧ c.motion.state ≠ .faulted .driveFault then
        c.latchFault .driveFault
      else c)

/-- SPINUP_END (R75). -/
def execSpinupEnd (s : State) : Host.Outcome State Fault Refusal :=
  .next
    (s.update fun c =>
      match c.motion.state, c.motion.calibration with
      | .calibrating .spinup, some r => if r.phaseTimer = 0 then c.setCalibration .measure { r with phaseTimer := 400 } else c
      | _, _ => c)

/-- MEASURE_END (R77, R78). -/
def execMeasureEnd (s : State) : Host.Outcome State Fault Refusal :=
  .next
    (s.update fun c =>
      match c.motion.state, c.motion.calibration with
      | .calibrating .measure, some r =>
        if r.phaseTimer = 0 then
          if r.valid then c.beginStore r else c.refuseCalibration
        else c
      | _, _ => c)

/-- WRITE_COMPLETE (R78). -/
def execWriteComplete (s : State) : Host.Outcome State Fault Refusal := .next (s.update (·.writeComplete))

/-- WRITE_TIMEOUT (R78). -/
def execWriteTimeout (s : State) : Host.Outcome State Fault Refusal := .next (s.update (·.writeTimeout))

end Sys2Proof.Machine
end

