-- ==== Sys2Proof/Machine/SmokeController.lean ====
section
/-! DEFINITION. The commands of the Smoke Controller (chapter 8). -/

namespace Sys2Proof.Machine

/-- SMOKE_SAMPLE (R146): sampling begins when the part mode first becomes RUN. -/
def execSmokeSample (reading : Fin 1024) (s : State) : Host.Outcome State Fault Refusal :=
  .next (s.update fun c => if c.command.partMode = .start then c else c.smokeTick reading.val)

/-- HEAT_UP_TIMEOUT (R150). -/
def execHeatUpTimeout (s : State) : Host.Outcome State Fault Refusal :=
  .next (s.update fun c => if c.smoke.state = .heating ∧ c.smoke.heatUpTimer.isSome then c.startPurge else c)

/-- PURGE_END (R150). -/
def execPurgeEnd (s : State) : Host.Outcome State Fault Refusal :=
  .next (s.update fun c => if c.smoke.state = .purge ∧ c.smoke.purgeTimer.isSome then c.endPurge else c)

/-- PUFF_END (R151). -/
def execPuffEnd (s : State) : Host.Outcome State Fault Refusal :=
  .next (s.update fun c => if c.smoke.state = .ready ∧ c.smoke.puffTimer.isSome then c.endPuff else c)

end Sys2Proof.Machine
end

