-- ==== Sys2Proof/Machine/SoundEngine.lean ====
section
/-! DEFINITION. The commands of the Sound Engine (chapter 7). -/

namespace Sys2Proof.Machine

/-- OUTPUT_SAMPLE (R133). -/
def execOutputSample (s : State) : Host.Outcome State Fault Refusal := .next (s.update (·.outputInstant))

/-- FILL_GRANT (R136): nothing while the reader is busy or no voice is eligible. -/
def execFillGrant (s : State) : Host.Outcome State Fault Refusal := .next (s.update (·.onSound (·.grantFill)))

/-- FILL_COMPLETE (R137). -/
def execFillComplete (samples : List Byte) (s : State) : Host.Outcome State Fault Refusal :=
  .next (s.update (·.onSound (·.completeFill samples)))

end Sys2Proof.Machine
end

