-- ==== Sys2Proof/Machine/SupplyMonitor.lean ====
section
/-! DEFINITION. The commands of the Supply Monitor (chapter 10): samples, dropouts, holds, restarts and start-up. -/

namespace Sys2Proof.Machine

/-- SUPPLY_SAMPLE (R165, R166, R173). -/
def execSupplySample (vin vres : Fin 256) (s : State) : Host.Outcome State Fault Refusal :=
  .next (s.update (·.supplyTick vin.val vres.val))

/-- DROPOUT_DETECTED (R165): from the first RUN on. -/
def execDropoutDetected (s : State) : Host.Outcome State Fault Refusal :=
  .next
    (s.update fun c =>
      if c.command.partMode ≠ .start ∧ 2 ≤ c.supply.lowCount ∧ (c.supply.state = .normal ∨ c.supply.state = .settle) then
        c.detectDropout
      else c)

/-- PICKUP_RETURN (R165). -/
def execPickupReturn (s : State) : Host.Outcome State Fault Refusal :=
  .next (s.update fun c => if c.supply.state = .dropout ∧ 20 ≤ c.supply.goodCount then c.supplyNormal else c)

/-- HOLD_END (R168). -/
def execHoldEnd (s : State) : Host.Outcome State Fault Refusal :=
  .next (s.update fun c => if c.supply.state = .hold ∧ 20 ≤ c.supply.goodCount then c.endHold else c)

/-- SETTLE_END (R168): the supply state becomes NORMAL, then the ramp is re-seated (R55). -/
def execSettleEnd (s : State) : Host.Outcome State Fault Refusal :=
  .next (s.update fun c => if c.supply.state = .settle ∧ c.supply.settleTimer.isSome then c.supplyNormal.reseat else c)

/-- STEP_DOWN_EXPIRY (R169). -/
def execStepDownExpiry (s : State) : Host.Outcome State Fault Refusal :=
  .next (s.update fun c => if c.supply.state = .normal ∧ c.supply.stepDownTimer.isSome then c.stepDown else c)

/-- WARM_RESTART (R171). -/
def execWarmRestart (s : State) : Host.Outcome State Fault Refusal :=
  .next (s.update fun c => if c.supply.state = .hold ∧ c.supply.holdTimer.isSome then c.warmRestart else c)

/-- BROWNOUT (R172). -/
def execBrownout (s : State) : Host.Outcome State Fault Refusal := .next (s.update (·.brownout))

/-- COLD_START (R173 to R177). -/
def execColdStart (configRecord calibrationRecord directory : Option (List Byte)) (markLost : Bool) (s : State) :
    Host.Outcome State Fault Refusal :=
  .next
    (s.update fun c => c.coldStart configRecord calibrationRecord directory (c.supply.brownoutMark && !markLost))

/-- STARTUP_QUALIFIED (R173). -/
def execStartupQualified (s : State) : Host.Outcome State Fault Refusal :=
  .next (s.update fun c => if c.command.partMode = .start ∧ 100 ≤ c.supply.startCount then c.qualifySupply else c)

/-- COLD_START_END (R21, R173). -/
def execColdStartEnd (s : State) : Host.Outcome State Fault Refusal :=
  .next
    (s.update fun c =>
      if c.command.partMode = .start ∧ c.supply.loaded ∧ c.supply.state = .normal then c.enterRun else c)

end Sys2Proof.Machine
end

