-- ==== Sys2Proof/Machine/Dispatch.lean ====
section
/-! DEFINITION. One arm per command: each calls its meaning. -/

namespace Sys2Proof.Machine

def exec (i : Instr) (s : State) : Host.Outcome State Fault Refusal :=
  match i with
  | .frameDelivered bytes strength => Sys2Proof.Machine.execFrameDelivered bytes strength s
  | .drive => Sys2Proof.Machine.execDrive s
  | .release => Sys2Proof.Machine.execRelease s
  | .halt => Sys2Proof.Machine.execHalt s
  | .calibrate => Sys2Proof.Machine.execCalibrate s
  | .diagQuery => Sys2Proof.Machine.execDiagQuery s
  | .couple => Sys2Proof.Machine.execCouple s
  | .uncouple => Sys2Proof.Machine.execUncouple s
  | .join => Sys2Proof.Machine.execJoin s
  | .status => Sys2Proof.Machine.execStatus s
  | .marker => Sys2Proof.Machine.execMarker s
  | .diagReportDiscarded => Sys2Proof.Machine.execDiagReportDiscarded s
  | .peerAgeTick => Sys2Proof.Machine.execPeerAgeTick s
  | .listenStart => Sys2Proof.Machine.execListenStart s
  | .listenWindowEnd busy => Sys2Proof.Machine.execListenWindowEnd busy s
  | .backoffEnd => Sys2Proof.Machine.execBackoffEnd s
  | .frameHandover => Sys2Proof.Machine.execFrameHandover s
  | .transmissionEnd => Sys2Proof.Machine.execTransmissionEnd s
  | .txActiveTimeout => Sys2Proof.Machine.execTxActiveTimeout s
  | .txCutOff => Sys2Proof.Machine.execTxCutOff s
  | .jabber => Sys2Proof.Machine.execJabber s
  | .quietEnd => Sys2Proof.Machine.execQuietEnd s
  | .statusIntervalExpiry => Sys2Proof.Machine.execStatusIntervalExpiry s
  | .supervisionExpiry => Sys2Proof.Machine.execSupervisionExpiry s
  | .parkDelayExpiry => Sys2Proof.Machine.execParkDelayExpiry s
  | .controlPeriod bemf sampleSum => Sys2Proof.Machine.execControlPeriod bemf sampleSum s
  | .blockStale => Sys2Proof.Machine.execBlockStale s
  | .stallLatch => Sys2Proof.Machine.execStallLatch s
  | .hardCurrentSample sample => Sys2Proof.Machine.execHardCurrentSample sample s
  | .spinupEnd => Sys2Proof.Machine.execSpinupEnd s
  | .measureEnd => Sys2Proof.Machine.execMeasureEnd s
  | .writeComplete => Sys2Proof.Machine.execWriteComplete s
  | .writeTimeout => Sys2Proof.Machine.execWriteTimeout s
  | .wheelPulse => Sys2Proof.Machine.execWheelPulse s
  | .sensorRecovery => Sys2Proof.Machine.execSensorRecovery s
  | .beatMsTick => Sys2Proof.Machine.execBeatMsTick s
  | .sensorFault => Sys2Proof.Machine.execSensorFault s
  | .intervalTimerExpiry => Sys2Proof.Machine.execIntervalTimerExpiry s
  | .negotiationTimeout => Sys2Proof.Machine.execNegotiationTimeout s
  | .joinTimerExpiry => Sys2Proof.Machine.execJoinTimerExpiry s
  | .memberTimerExpiry address => Sys2Proof.Machine.execMemberTimerExpiry address s
  | .outputSample => Sys2Proof.Machine.execOutputSample s
  | .fillGrant => Sys2Proof.Machine.execFillGrant s
  | .fillComplete samples => Sys2Proof.Machine.execFillComplete samples s
  | .smokeSample reading => Sys2Proof.Machine.execSmokeSample reading s
  | .heatUpTimeout => Sys2Proof.Machine.execHeatUpTimeout s
  | .purgeEnd => Sys2Proof.Machine.execPurgeEnd s
  | .puffEnd => Sys2Proof.Machine.execPuffEnd s
  | .lightMsTick => Sys2Proof.Machine.execLightMsTick s
  | .flareEnd => Sys2Proof.Machine.execFlareEnd s
  | .supplySample vin vres => Sys2Proof.Machine.execSupplySample vin vres s
  | .dropoutDetected => Sys2Proof.Machine.execDropoutDetected s
  | .pickupReturn => Sys2Proof.Machine.execPickupReturn s
  | .holdEnd => Sys2Proof.Machine.execHoldEnd s
  | .settleEnd => Sys2Proof.Machine.execSettleEnd s
  | .stepDownExpiry => Sys2Proof.Machine.execStepDownExpiry s
  | .warmRestart => Sys2Proof.Machine.execWarmRestart s
  | .brownout => Sys2Proof.Machine.execBrownout s
  | .coldStart configRecord calibrationRecord directory markLost => Sys2Proof.Machine.execColdStart configRecord calibrationRecord directory markLost s
  | .startupQualified => Sys2Proof.Machine.execStartupQualified s
  | .coldStartEnd => Sys2Proof.Machine.execColdStartEnd s
  | .transmitActiveFallInQuiet => Sys2Proof.Machine.execTransmitActiveFallInQuiet s

end Sys2Proof.Machine
end

