-- ==== Sys2Proof/Safety.lean ====
section
/-! DEFINITION. What a sound state of the part is: the conditions of the manual that hold in every state and that every step
keeps. Claims are stated in these terms. -/

namespace Sys2Proof.Machine

/-! ### The drive (R41, R55, R60, R65, R80) -/

/-- E_STOPPED or FAULTED. -/
def MotionState.stopped : MotionState → Bool
  | .eStopped => true
  | .faulted _ => true
  | _ => false

/-- What the part mode START means for the motor: frames are discarded unseen (R1), no control period has run (R43), and only
a hard current can have changed the motion state (R62, R71, log 14). -/
structure Controller.Waiting (c : Controller) : Prop where
  fifo : c.air.rxFifo = []
  still : c.motion.state = .idle ∨ c.motion.state = .faulted .driveFault
  noDuty : c.motion.duty = 0
  noRamp : c.motion.ramp = 0
  noStall : c.motion.stallCount = 0
  supply : c.supply.state = .settle ∨ c.supply.state = .normal

/-- The applied motor duty never exceeds the duty cap, and it is 0 in E_STOPPED, FAULTED, HOLD and SETTLE and with a setpoint
of 0 outside calibration (R65). A calibration is in progress only while the supply is NORMAL (R80). -/
structure Controller.DriveSafe (c : Controller) : Prop where
  capped : c.motion.duty ≤ c.settings.dutyCap
  stopped : c.motion.state.stopped = true → c.motion.duty = 0
  unsupplied : c.supply.state = .hold ∨ c.supply.state = .settle → c.motion.duty = 0
  setpoint : c.motion.setpoint = 0 → c.motion.state.isCalibrating = false → c.motion.duty = 0
  calibrating : c.motion.state.isCalibrating = true → c.supply.state = .normal
  waiting : c.command.partMode = .start → c.Waiting

/-- The motion state says whether the ramped speed is 0 (section 3.1): IDLE at 0, MOVING above 0, R held at 0 in E_STOPPED,
FAULTED and CALIBRATING (R55). A standing locomotive is at labour level COAST, and so is one in HOLD or SETTLE and in START
(R74, R149). -/
structure Controller.MotionSound (c : Controller) : Prop where
  idle : c.motion.state = .idle → c.motion.rampedSpeed = 0
  moving : c.motion.state = .moving → 0 < c.motion.rampedSpeed
  held : c.motion.state.stopped = true ∨ c.motion.state.isCalibrating = true → c.motion.ramp = 0
  coast : c.motion.rampedSpeed = 0 ∨ c.supply.state = .hold ∨ c.supply.state = .settle ∨ c.command.partMode = .start →
    c.motion.labour = .coast

/-! ### The heater (R149, R150) -/

/-- The heater is off whenever the shed level is 1 or more, the smoke state is OFF, SHED, PURGE or FAULT, or the part is
PARKED (R149); SHED stands only above shed level 0 (R153); the fan runs at 600 through PURGE (R150). -/
structure Controller.HeaterSafe (c : Controller) : Prop where
  heater : c.smoke.heater = true → c.smoke.state = .heating ∨ c.smoke.state = .ready
  heating : c.smoke.state = .heating ∨ c.smoke.state = .ready → c.supply.shedLevel = 0 ∧ c.command.partMode = .run
  shed : c.smoke.state = .shed → 0 < c.supply.shedLevel ∧ c.command.partMode = .run
  purge : c.smoke.state = .purge → c.smoke.fanDuty = 600

/-! ### The beat counter (R83, R86, R87, R91, R92) -/

/-- The beat counter lies between 1 and the preload (R87), the phase below the beats per revolution (R86), and the mode is
EVENT exactly while a fitted sensor is OK (R83, R91, R92). -/
structure Controller.BeatSound (c : Controller) : Prop where
  low : 1 ≤ c.beat.counter
  high : c.beat.counter ≤ c.settings.preload
  beats : c.settings.beatsPerRevolution = 2 ∨ c.settings.beatsPerRevolution = 4
  phase : c.beat.phase < c.settings.beatsPerRevolution
  mode : c.beat.mode = .event ↔ c.settings.sensorFitted = true ∧ c.beat.sensor = .ok
  unfitted : c.settings.sensorFitted = false → c.beat.sensor = .ok

/-! ### The consist record (section 6.1) -/

/-- What a held member list satisfies (R94, R95, R97). -/
structure Membership.Sound (own : Nat) (m : Membership) : Prop where
  size : 2 ≤ m.members.length ∧ m.members.length ≤ 4
  position : (m.members[m.position]?).map (·.1) = some own
  role : m.role = roleAt m.members.length m.position
  others : m.others.map (·.address) = (m.members.map (·.1)).filter (· != own)

/-- The consist id and the list are held in every state except SOLO; the common parameters in FORMED and BROKEN; the
negotiation and JOIN timers run only in ABILITY and ACKNOWLEDGE; SOLO has no stop (section 6.1). -/
structure Controller.ConsistSound (c : Controller) : Prop where
  listed : c.consist.membership = none ↔ c.consist.state = .solo
  common : c.consist.common.isSome = true ↔ c.consist.state = .formed ∨ c.consist.state = .broken
  negotiation : c.consist.negotiationTimer.isSome = true → c.consist.state.negotiating = true
  joins : c.consist.joinTimer.isSome = true → c.consist.state.negotiating = true
  unstopped : c.consist.state = .solo → c.consist.consistFault = false ∧ c.consist.signalLossStop = false
  list : ∀ m, c.consist.membership = some m → m.Sound c.settings.ownAddress

/-! ### Tables, slots and counters (R5, R12, R16, R17, R180) -/

/-- The addresses a peer table holds, in index order. -/
def peerAddresses (table : PeerTable) : List Nat := table.filterMap fun e => e.map PeerEntry.address

/-- The FIFO holds at most 8 frames, the peer table 16 entries with no address twice, and no slot, waiting or in transmission,
an attempt count above 7. -/
structure Controller.AirSound (c : Controller) : Prop where
  fifo : c.air.rxFifo.length ≤ 8
  table : c.air.peers.length = peerTableSize
  distinct : (peerAddresses c.air.peers).Nodup
  join : c.air.joinSlot.attempts ≤ 7
  status : c.air.statusSlot.attempts ≤ 7
  diag : c.air.diagSlot.attempts ≤ 7
  sent : ∀ t, c.air.outgoing = some t → t.attempts ≤ 7

/-- Every diagnostic counter stays within 0 to 255 (R180). -/
def Counters.Bounded (k : Counters) : Prop := ∀ n ∈ k.toList, n ≤ 255

/-! ### Lights (R158, R159) and voices (R127, R128) -/

/-- Every output's lit flag is what its inputs call for (R158, R159). -/
def Controller.LightsJudged (c : Controller) : Prop :=
  ∀ k o, c.light.outputs[k]? = some o → o.lit = c.isLit k

/-- A dark output's applied level is 0 and its effect timer is stopped; a lit one's timer runs (R158, R159). -/
def LightOutput.Sound (o : LightOutput) : Prop :=
  (o.lit = false → o.applied = 0 ∧ o.effectTimer = none) ∧ (o.lit = true → o.effectTimer.isSome = true)

/-- The light record `before` judged again under the part `c`, which holds the outcome (R158, R159, R161): an output that turns
lit starts its effect timer at 0 and has no flicker value yet, one that turns dark stops its timer and shows 0, one that stays
as it is keeps both; a pair's DITCH timer runs exactly while one of the pair is lit with that effect. -/
def Controller.LightsFollow (before : LightController) (c : Controller) : Prop :=
  c.light
    = { before with
        outputs :=
          before.outputs.mapIdx fun k o =>
            if c.isLit k = true then
              (if o.lit = true then o else { o with lit := true, effectTimer := some 0, flicker := 0 })
            else { o with lit := false, effectTimer := none, applied := 0 }
        ditchTimers :=
          before.ditchTimers.mapIdx fun k timer =>
            if (c.isLit (2 * k) = true ∧ (c.outputRecord (2 * k)).effect = .ditch) ∨
                (c.isLit (2 * k + 1) = true ∧ (c.outputRecord (2 * k + 1)).effect = .ditch) then
              some (timer.getD 0)
            else none }

/-- No resume stack holds more than two entries (R127), and a pending trigger is held only while SOUNDING (R128). -/
def Voice.Sound (v : Voice) : Prop := v.stack.length ≤ 2 ∧ (v.pending.isSome = true → v.current.isSome = true)

/-! ### The end of a program (R131, R132) -/

/-- What a voice becomes as its program starts or resumes (R126, R132): the generation advances, READY and PLAYING halves are
EMPTY, a FILLING one stays, next-fill and next-play are H0 and the voice primes. -/
def Voice.Renewed (v w : Voice) : Prop :=
  w.generation = (v.generation + 1) % 65536 ∧ w.nextFill = .h0 ∧ w.nextPlay = .h0 ∧ w.priming = true ∧ w.letGo = false ∧
    w.half0 = (if v.half0.state = .ready ∨ v.half0.state = .playing then HalfBuffer.empty else v.half0) ∧
    w.half1 = (if v.half1.state = .ready ∨ v.half1.state = .playing then HalfBuffer.empty else v.half1)

/-- The pending trigger goes first: the stack is empty, or its priority is above the mask of the stack's top (R131). -/
def Voice.PendingFirst (v : Voice) (t : Trigger) : Prop :=
  v.pending = some t ∧ ∀ e, v.stack.head? = some e → e.mask < t.priority

/-- `w` is what the voice `v` becomes when its program ends (R131). An entry or a trigger whose program is disabled starts
nothing (R121); no run leads to one, for the program table stands from the cold start on. -/
inductive Voice.Ends (table : ProgramTable) : Voice → Voice → Prop where
  /-- Case 1: the pending trigger starts its program (R126). -/
  | starts (v w : Voice) (t : Trigger) (p : Program) (first : v.PendingFirst t)
      (enabled : lookupProgram table t.program = some p) (renewed : v.Renewed w) (stack : w.stack = v.stack)
      (pending : w.pending = none)
      (current : w.current = some { program := t.program, mask := t.priority, segment := p.firstSegment, offset := 0 })
      (cursor : w.cursor = .fetch p.firstSegment 0)
      (repeating : w.repeating = true ↔ p.loop = true ∧ (t.origin = .function ∨ t.origin = .ambient)) : Voice.Ends table v w
  /-- Case 1 with a disabled program. -/
  | silent (v : Voice) (t : Trigger) (first : v.PendingFirst t) (disabled : lookupProgram table t.program = none) :
      Voice.Ends table v { v with pending := none }
  /-- Case 2, release-due clear: the top entry plays on from where it was interrupted (R132). -/
  | resumes (v w : Voice) (e : ResumeEntry) (rest : List ResumeEntry) (p : Program) (top : v.stack = e :: rest)
      (waits : ∀ t, v.pending = some t → t.priority ≤ e.mask) (enabled : lookupProgram table e.program = some p)
      (due : e.releaseDue = false) (renewed : v.Renewed w) (stack : w.stack = rest) (pending : w.pending = v.pending)
      (current : w.current = some { program := e.program, mask := e.mask, segment := e.segment, offset := e.offset })
      (cursor : w.cursor = .fetch e.segment e.offset) (repeating : w.repeating = e.repeating) : Voice.Ends table v w
  /-- Case 2, release-due set: the top entry plays its release (R132). -/
  | releases (v w : Voice) (e : ResumeEntry) (rest : List ResumeEntry) (p : Program) (top : v.stack = e :: rest)
      (waits : ∀ t, v.pending = some t → t.priority ≤ e.mask) (enabled : lookupProgram table e.program = some p)
      (due : e.releaseDue = true) (release : p.release.isSome = true) (renewed : v.Renewed w) (stack : w.stack = rest)
      (pending : w.pending = v.pending)
      (current : w.current = some { program := e.program, mask := e.mask, segment := .release, offset := 0 })
      (cursor : w.cursor = .fetch .release 0) (repeating : w.repeating = e.repeating) : Voice.Ends table v w
  /-- Case 2, release-due set and no release: the program resumed ends at once in its turn (R132). -/
  | passes (v u w : Voice) (e : ResumeEntry) (rest : List ResumeEntry) (p : Program) (top : v.stack = e :: rest)
      (waits : ∀ t, v.pending = some t → t.priority ≤ e.mask) (enabled : lookupProgram table e.program = some p)
      (due : e.releaseDue = true) (release : p.release = none) (renewed : v.Renewed u) (stack : u.stack = rest)
      (pending : u.pending = v.pending) (ends : Voice.Ends table u w) : Voice.Ends table v w
  /-- Case 2 with a disabled program. -/
  | skips (v w : Voice) (e : ResumeEntry) (rest : List ResumeEntry) (top : v.stack = e :: rest)
      (waits : ∀ t, v.pending = some t → t.priority ≤ e.mask) (disabled : lookupProgram table e.program = none)
      (ends : Voice.Ends table { v with stack := rest } w) : Voice.Ends table v w
  /-- Case 3: the voice becomes IDLE. That it no longer primes: log 21. -/
  | idles (v : Voice) (stack : v.stack = []) (pending : v.pending = none) :
      Voice.Ends table v
        { v with
          current := none, repeating := false, letGo := false, priming := false, cursor := .ended
          generation := (v.generation + 1) % 65536 }

/-! ### Function edges (R30 to R32) and what smoke is asked for (R148, R153, R154) -/

/-- The Smoke Controller as heating is asked for: HEATING at shed level 0, SHED above it (R148, R154). -/
def Controller.smokeAsked (c : Controller) : SmokeController :=
  if c.supply.shedLevel = 0 then
    { c.smoke with
      state := .heating, heater := false, fanDuty := 0, heatUpTimer := some 90000, puffTimer := none, dryWindow := [] }
  else
    { c.smoke with
      state := .shed, heater := false, fanDuty := if c.supply.shedLevel = 1 then c.settings.fanIdle else 0
      heatUpTimer := none, puffTimer := none, dryWindow := [] }

/-- The Smoke Controller `k` once the shed level has become `level` (R153). -/
def SmokeController.underShed (fanIdle level : Nat) (k : SmokeController) : SmokeController :=
  let fan := if level = 1 then fanIdle else 0
  let shed : SmokeController :=
    if level = 0 then k
    else
      { k with state := .shed, heater := false, fanDuty := fan, heatUpTimer := none, puffTimer := none, dryWindow := [] }
  match k.state with
  | .heating => shed
  | .ready => shed
  | .shed =>
    if level = 0 then
      { k with
        state := .heating, heater := false, fanDuty := 0, heatUpTimer := some 90000, puffTimer := none, dryWindow := [] }
    else { k with fanDuty := fan }
  | .off => k
  | .purge => k
  | .fault => k

/-- `d` is the part `c` once function `i` has changed over and its edge has been delivered as its action calls for: LIGHTS and
a changed DIM judge the lights again, SOUND triggers or lets go of its program (R123, R129), a rising SMOKE_ENABLE heats in RUN
and a falling one turns smoke off (R148), a rising SOUND_ON triggers the ambient program in RUN (R124), SHUNT is read by the
Motion Unit when it needs it (R33). A newly lit output has flicker value 0: log 25. -/
def Controller.EdgeDone (i : Nat) (c d : Controller) : Prop :=
  let filed : TxSlot := if c.air.statusSlot.requested then c.air.statusSlot else { requested := true, attempts := 0 }
  d = { c with
        air := { c.air with statusSlot := d.air.statusSlot }
        command := { c.command with functions := d.command.functions }
        sound := d.sound, smoke := d.smoke, light := d.light } ∧
    (∀ j < 24, d.command.functions.getLsbD j
      = if j = i then !c.command.functions.getLsbD j else c.command.functions.getLsbD j) ∧
    match c.settings.functionMap.getD i .none with
    | .none => d.air.statusSlot = c.air.statusSlot ∧ d.sound = c.sound ∧ d.smoke = c.smoke ∧ d.light = c.light
    | .shunt => d.air.statusSlot = c.air.statusSlot ∧ d.sound = c.sound ∧ d.smoke = c.smoke ∧ d.light = c.light
    | .lights _ =>
      d.air.statusSlot = c.air.statusSlot ∧ d.sound = c.sound ∧ d.smoke = c.smoke ∧ d.LightsFollow c.light
    | .dim =>
      d.air.statusSlot = c.air.statusSlot ∧ d.sound = c.sound ∧ d.smoke = c.smoke ∧
        (d.dimLevel = c.dimLevel → d.light = c.light) ∧ (d.dimLevel ≠ c.dimLevel → d.LightsFollow c.light)
    | .sound n =>
      d.air.statusSlot = c.air.statusSlot ∧ d.smoke = c.smoke ∧ d.light = c.light ∧
        d.sound
          = if d.command.functions.getLsbD i = true then c.sound.trigger (some n) .function else c.sound.letGo (some n)
    | .soundOn =>
      d.air.statusSlot = c.air.statusSlot ∧ d.smoke = c.smoke ∧ d.light = c.light ∧
        d.sound
          = if c.soundOnLevel = false ∧ d.soundOnLevel = true ∧ c.command.partMode = .run then
              c.sound.trigger c.sound.ambient .ambient
            else c.sound
    | .smokeEnable =>
      d.sound = c.sound ∧ d.light = c.light ∧
        (d.smokeEnableLevel = c.smokeEnableLevel → d.smoke = c.smoke ∧ d.air.statusSlot = c.air.statusSlot) ∧
        (c.smokeEnableLevel = false → d.smokeEnableLevel = true →
          (c.command.partMode ≠ .run ∨ (c.smoke.state ≠ .off ∧ c.smoke.state ≠ .fault) →
            d.smoke = c.smoke ∧ d.air.statusSlot = c.air.statusSlot) ∧
          (c.command.partMode = .run → c.smoke.state = .off ∨ c.smoke.state = .fault →
            d.smoke = c.smokeAsked ∧
              d.air.statusSlot = if c.smoke.state = .fault then filed else c.air.statusSlot)) ∧
        (c.smokeEnableLevel = true → d.smokeEnableLevel = false →
          d.air.statusSlot = c.air.statusSlot ∧
            d.smoke
              = if c.smoke.state = .heating ∨ c.smoke.state = .ready ∨ c.smoke.state = .shed then
                  { c.smoke with
                    state := .off, heater := false, fanDuty := 0, heatUpTimer := none, puffTimer := none, dryWindow := [] }
                else c.smoke)

/-- `d` is the part `c` once the function bits `bits` that `mask` names have been applied for the functions of a list, in its
order: a bit that differs gives an edge, delivered before the next function is taken (R30). -/
inductive Controller.EdgesDone (bits mask : BitVec 24) : List Nat → Controller → Controller → Prop where
  | done (c : Controller) : Controller.EdgesDone bits mask [] c c
  | passed (i : Nat) (rest : List Nat) (c d : Controller)
      (same : mask.getLsbD i = false ∨ bits.getLsbD i = c.command.functions.getLsbD i)
      (later : Controller.EdgesDone bits mask rest c d) : Controller.EdgesDone bits mask (i :: rest) c d
  | edge (i : Nat) (rest : List Nat) (b c d : Controller) (named : mask.getLsbD i = true)
      (differs : bits.getLsbD i ≠ b.command.functions.getLsbD i) (first : b.EdgeDone i c)
      (later : Controller.EdgesDone bits mask rest c d) : Controller.EdgesDone bits mask (i :: rest) b d

/-! ### Where a station stands in the peer table (R9, R12) -/

/-- `i` is the index of the entry keyed by this address. -/
def HeldAt (table : PeerTable) (address i : Nat) : Prop :=
  (∃ e, table[i]? = some (some e) ∧ e.address = address) ∧
    ∀ (j : Nat) (e : PeerEntry), j < i → table[j]? = some (some e) → e.address ≠ address

/-- `i` is the index that a station without an entry takes (R12): the lowest free one, or, with none free, the unpinned entry
of the greatest age, the lowest index of several. -/
def PlacedAt (table : PeerTable) (i : Nat) : Prop :=
  (table[i]? = some none ∧ ∀ j : Nat, j < i → table[j]? ≠ some none) ∨
    ((∀ j : Nat, table[j]? ≠ some none) ∧ ∃ e, table[i]? = some (some e) ∧ e.pinned = false ∧
      ∀ (j : Nat) (e' : PeerEntry), table[j]? = some (some e') → e'.pinned = false →
        e'.age.getD 0 < e.age.getD 0 ∨ (e'.age.getD 0 = e.age.getD 0 ∧ i ≤ j))

/-- `i` is the index at which a frame of this station, or a request to pin it, is recorded. -/
def EntryAt (table : PeerTable) (address i : Nat) : Prop :=
  HeldAt table address i ∨ ((∀ e, some e ∈ table → e.address ≠ address) ∧ PlacedAt table i)

/-- The locomotive entry that a record at index `i` starts from: the station's own, or a bare one where a marker or another
station stood, or nothing did. -/
def entryBefore (table : PeerTable) (address i : Nat) : LocoEntry :=
  match table[i]? with
  | some (some (.loco e)) => if e.address = address then e else LocoEntry.bare address
  | _ => LocoEntry.bare address

/-! ### The frame that the dispatcher takes (R6) -/

/-- The head of the receive FIFO is a frame of this kind and of this destination class, with `rest` behind it. -/
def State.HeadIs (s : State) (f : RxFrame) (rest : List RxFrame) (kind : FrameKind) (cls : DestinationClass) : Prop :=
  s.air.rxFifo = f :: rest ∧ frameKind f.bytes = some kind ∧ s.classify (frameDestination f.bytes) = cls

end Sys2Proof.Machine
end

