-- ==== Sys2Proof/Certificates/Slice0/Obligations.lean ====
section
/-! DEFINITION. The statements for the provers. `s` is the state before a command and `t` the state after it; `{ s with … }`
says that nothing else changes. -/

open Sys2Proof Sys2Proof.Machine

/-! ### The machine as a whole -/

/-- A step takes the command at the front of the queue and runs it with the rest waiting. -/
def Obligations.StepRunsTheFrontCommand : Prop :=
  ∀ (s : State) (i : Instr) (rest : List Instr), s.pending = i :: rest → step s = exec i { s with pending := rest }

/-- No command stops the machine or touches the queue (the part never stops: section 11.2, INVENTORY.md Faults). -/
def Obligations.EveryCommandHasANextState : Prop :=
  ∀ (i : Instr) (s : State), ∃ t : State, exec i s = .next t ∧ t.pending = s.pending

/-- With no command waiting a due internal event is queued, and when none is due a millisecond passes on the timers that no
command counts: every such timer is lowered to its last millisecond, the park timer rises, nothing else changes, and the
expiries of that millisecond are queued, but for QUIET_END (log 18): the model's choice (log 1, log 2). -/
def Obligations.IdleStepTakesUpDueEvents : Prop :=
  ∀ s : State, s.pending = [] →
    let lower (timer : Option Nat) : Option Nat := timer.map fun n => if n ≤ 1 then n else n - 1
    let last (timer : Option Nat) : Prop := ∃ n, timer = some n ∧ n ≤ 1
    (∀ i, s.dueEvent = some i → step s = .next { s with pending := [i] }) ∧
    (s.dueEvent = none →
      s.motion.stallCount < 400 ∧ (∀ f, s.air.rxFifo.head? = some f → frameKind f.bytes = none) ∧
        (s.air.transmitter = .idle →
          s.air.joinSlot.requested = false ∧ s.air.statusSlot.requested = false ∧ s.air.diagSlot.requested = false) ∧
        (s.sound.reader = none → ∀ v ∈ s.sound.voices, v.eligible = false) ∧
        (s.supply.state = .dropout ∨ s.supply.state = .hold → s.supply.goodCount < 20) ∧
        (s.command.partMode ≠ .start → s.supply.state = .normal ∨ s.supply.state = .settle → s.supply.lowCount < 2) ∧
        (s.beat.mode = .event → s.beat.sensor = .ok → s.beat.faultWatch < 2000) ∧
        (s.beat.sensor = .fault → s.beat.goodPulses < 8) ∧ s.light.flareTimer ≠ some 0 ∧
        step s
          = .next
              { s with
                air :=
                  { s.air with
                    transmitter :=
                      match s.air.transmitter with
                      | .backoff n => .backoff (if n ≤ 1 then n else n - 1)
                      | .quiet n => .quiet (n - 1)
                      | other => other
                    statusTimer := lower s.air.statusTimer }
                command :=
                  { s.command with
                    binding :=
                      s.command.binding.map fun b =>
                        { b with supervision := if b.supervision ≤ 1 then b.supervision else b.supervision - 1 }
                    parkTimer := s.command.parkTimer.map fun n => min (s.settings.parkDelay * 60000) (n + 1) }
                motion :=
                  { s.motion with
                    write :=
                      match s.motion.write with
                      | .writing record n => .writing record (if n ≤ 1 then n else n - 1)
                      | .restoring record n => .restoring record (if n ≤ 1 then n else n - 1)
                      | .none => .none }
                consist :=
                  { s.consist with
                    membership :=
                      s.consist.membership.map fun m =>
                        { m with others := m.others.map fun o => { o with timer := lower o.timer } }
                    negotiationTimer := lower s.consist.negotiationTimer
                    joinTimer := lower s.consist.joinTimer }
                smoke :=
                  { s.smoke with
                    heatUpTimer := lower s.smoke.heatUpTimer
                    purgeTimer := lower s.smoke.purgeTimer
                    puffTimer := lower s.smoke.puffTimer }
                supply :=
                  { s.supply with
                    holdTimer := lower s.supply.holdTimer
                    settleTimer := lower s.supply.settleTimer
                    stepDownTimer := lower s.supply.stepDownTimer }
                pending := s.expiries }) ∧
    (Instr.supervisionExpiry ∈ s.expiries ↔ ∃ b, s.command.binding = some b ∧ b.supervision ≤ 1) ∧
    (Instr.parkDelayExpiry ∈ s.expiries ↔ ∃ n, s.command.parkTimer = some n ∧ s.settings.parkDelay * 60000 ≤ n + 1) ∧
    (Instr.warmRestart ∈ s.expiries ↔ last s.supply.holdTimer) ∧
    (Instr.settleEnd ∈ s.expiries ↔ last s.supply.settleTimer) ∧
    (Instr.stepDownExpiry ∈ s.expiries ↔ last s.supply.stepDownTimer) ∧
    (Instr.writeTimeout ∈ s.expiries ↔
      ∃ record n, (s.motion.write = .writing record n ∨ s.motion.write = .restoring record n) ∧ n ≤ 1) ∧
    (Instr.negotiationTimeout ∈ s.expiries ↔ last s.consist.negotiationTimer) ∧
    (Instr.joinTimerExpiry ∈ s.expiries ↔ last s.consist.joinTimer) ∧
    (Instr.heatUpTimeout ∈ s.expiries ↔ last s.smoke.heatUpTimer) ∧
    (Instr.purgeEnd ∈ s.expiries ↔ last s.smoke.purgeTimer) ∧ (Instr.puffEnd ∈ s.expiries ↔ last s.smoke.puffTimer) ∧
    (Instr.statusIntervalExpiry ∈ s.expiries ↔ last s.air.statusTimer) ∧
    (Instr.backoffEnd ∈ s.expiries ↔ ∃ n, s.air.transmitter = .backoff n ∧ n ≤ 1) ∧
    Instr.quietEnd ∉ s.expiries ∧
    ∀ address, Instr.memberTimerExpiry address ∈ s.expiries ↔
      ∃ o ∈ s.consist.others, o.address = address ∧ last o.timer

/-- The state right after reset is the cold-start state of every unit under the built-in defaults, before a record has been
read and with an empty queue: the model's choice of defaults (log 5), and of the fields the manual gives no value for
(log 16; the transmit-active line: log 18; the time base: log 28). -/
def Obligations.ResetIsAnUnloadedColdStart : Prop :=
  State.reset.pending = [] ∧ State.reset.settings = Settings.builtIn ∧
    State.reset.air
      = { rxFifo := [], peers := List.replicate 16 none, joinSlot := { requested := false, attempts := 0 }
          statusSlot := { requested := false, attempts := 0 }, diagSlot := { requested := false, attempts := 0 }
          querier := 0, transmitter := .idle, backoffRegister := 3, outgoing := none, transmitRequest := false
          transmitActive := false, statusTimer := none } ∧
    State.reset.command
      = { binding := none, commandedStep := 0, requestedDirection := .forward, functions := 0#24, lastHalt := none
          parkTimer := none, partMode := .start } ∧
    State.reset.motion
      = { state := .idle, travel := .forward, ramp := 0, setpoint := 0, measuredSpeed := 0, duty := 0
          filteredCurrent := 0, labour := .coast, rampSense := .steady, integrator := 0, periodCurrent := 0
          stallCount := 0, bemf := 0
          block := { blockId := none, aspect := .unknown, capStep := 0, markerAddress := none, age := 0 }
          calibration := none, write := .none, inForce := { kbs := 1024, kff := 1000 }, calDefaultsInForce := false } ∧
    State.reset.beat
      = { now := 0, mode := .event, sensor := .ok, counter := 2, phase := 0, lastPulse := none, period := none
          pulseAge := 0, wheelSpeed := 0, faultWatch := 0, goodPulses := 0, intervalTimer := none, beatAge := none
          lastInterval := none } ∧
    State.reset.consist
      = { state := .solo, membership := none, common := none, negotiationTimer := none, joinTimer := none
          renegotiationPending := false, consistFault := false, signalLossStop := false } ∧
    (State.reset.sound.programs = List.replicate 64 none ∧ State.reset.sound.beatTable = List.replicate 16 none ∧
      State.reset.sound.motionTable = List.replicate 4 none ∧ State.reset.sound.ambient = none ∧
      State.reset.sound.volumeCurve = [0, 6, 12, 20, 30, 42, 56, 72, 90, 110, 132, 156, 182, 208, 232, 255] ∧
      State.reset.sound.reader = none ∧ State.reset.sound.output = 0 ∧ State.reset.sound.voices.length = 4 ∧
      ∀ v ∈ State.reset.sound.voices,
        v.current = none ∧ v.repeating = false ∧ v.cursor = .ended ∧ v.stack = [] ∧ v.pending = none ∧ v.generation = 0 ∧
          v.half0.state = .empty ∧ v.half1.state = .empty ∧ v.nextFill = .h0 ∧ v.nextPlay = .h0 ∧ v.priming = false ∧
          v.letGo = false) ∧
    State.reset.smoke
      = { state := .off, temperature := 0, heater := false, fanDuty := 0, heatUpTimer := none, purgeTimer := none
          dryWindow := [], puffTimer := none, puffDuty := 0 } ∧
    State.reset.light
      = { outputs := List.replicate 8 { lit := false, effectTimer := none, flicker := 0, applied := 0 }
          ditchTimers := List.replicate 4 none, flareTimer := none, randomRegister := 65533 } ∧
    State.reset.supply
      = { state := .settle, shedLevel := 0, lowCount := 0, goodCount := 0, holdTimer := none, settleTimer := none
          stepDownTimer := none, startCount := 0, resetCause := .powerOn, brownoutMark := false, loaded := false
          configDefaultsInForce := false, vin := 0, vres := 0 } ∧
    State.reset.counters = Counters.zero ∧ State.reset.latches = Latches.clear

/-- The state right after reset meets every invariant below. -/
def Obligations.ResetIsSound : Prop :=
  State.reset.DriveSafe ∧ State.reset.MotionSound ∧ State.reset.HeaterSafe ∧ State.reset.BeatSound ∧
    State.reset.ConsistSound ∧ State.reset.AirSound ∧ State.reset.counters.Bounded ∧ State.reset.LightsJudged ∧
    (∀ o ∈ State.reset.light.outputs, o.Sound) ∧ ∀ v ∈ State.reset.sound.voices, v.Sound

/-- Every step keeps the drive safe: the duty within its cap, and 0 where section 4.3 says so. In the part mode START the
locomotive is IDLE, or FAULTED by a hard current, which is judged in every state (log 14). -/
def Obligations.EveryStepKeepsTheDriveSafe : Prop :=
  ∀ s t : State, s.DriveSafe → step s = .next t → t.DriveSafe

/-- Every step keeps the motion state true of the ramped speed (sections 3.1 and 3.7), and the labour level COAST at
standstill, in HOLD, in SETTLE and in START (R74, R149; that it is COAST at once with an event outside the period: log 26). -/
def Obligations.EveryStepKeepsTheMotionStateTrue : Prop :=
  ∀ s t : State, s.MotionSound → step s = .next t → t.MotionSound

/-- Every step keeps the heater off where section 8.4 says so. -/
def Obligations.EveryStepKeepsTheHeaterSafe : Prop :=
  ∀ s t : State, s.HeaterSafe → step s = .next t → t.HeaterSafe

/-- Every step keeps the beat counter between 1 and the preload and the mode in agreement with the sensor (chapter 5). -/
def Obligations.EveryStepKeepsTheBeatCounterInRange : Prop :=
  ∀ s t : State, s.BeatSound → step s = .next t → t.BeatSound

/-- Every step keeps the consist record whole: what each consist state holds and does not hold (section 6.1). -/
def Obligations.EveryStepKeepsTheConsistRecordWhole : Prop :=
  ∀ s t : State, s.ConsistSound → step s = .next t → t.ConsistSound

/-- Every step keeps the FIFO, the peer table, the slots and the counters within their bounds, and no address twice in the
table (sections 1.3, 1.5, 1.6, 11.2). -/
def Obligations.EveryStepKeepsTheAirInterfaceBounded : Prop :=
  ∀ s t : State, s.AirSound → s.counters.Bounded → step s = .next t → t.AirSound ∧ t.counters.Bounded

/-- Every step leaves every output's lit flag as its inputs call for, and dark outputs at level 0 (sections 9.1, 9.2). -/
def Obligations.EveryStepKeepsTheLightsJudged : Prop :=
  ∀ s t : State, s.LightsJudged → (∀ o ∈ s.light.outputs, o.Sound) → step s = .next t →
    t.LightsJudged ∧ ∀ o ∈ t.light.outputs, o.Sound

/-- Every step keeps each resume stack within two entries and pending triggers on SOUNDING voices only (section 7.3). -/
def Obligations.EveryStepKeepsTheVoicesSound : Prop :=
  ∀ s t : State, (∀ v ∈ s.sound.voices, v.Sound) → step s = .next t → ∀ v ∈ t.sound.voices, v.Sound

/-! ### Air Interface -/

/-- FRAME_DELIVERED: the checks in their order, the first that fails ending the handling; in every part mode but START. That
the supply state code of a DIAG_REPORT is judged as a coded field: log 9. -/
def Obligations.DeliveredFramesAreCheckedInOrder : Prop :=
  ∀ (bytes : List Byte) (strength : Fin 256) (s : State),
    (s.command.partMode = .start → exec (.frameDelivered bytes strength) s = .next s) ∧
    (s.command.partMode ≠ .start →
      (frameCheck bytes = false →
        exec (.frameDelivered bytes strength) s
          = .next { s with counters := { s.counters with checkFail := min 255 (s.counters.checkFail + 1) } }) ∧
      (frameCheck bytes = true → structurallySound bytes = false →
        exec (.frameDelivered bytes strength) s
          = .next { s with counters := { s.counters with malformed := min 255 (s.counters.malformed + 1) } }) ∧
      (frameCheck bytes = true → structurallySound bytes = true → frameSource bytes = s.settings.ownAddress →
        exec (.frameDelivered bytes strength) s
          = .next { s with latches := { s.latches with addressConflict := true } }) ∧
      (frameCheck bytes = true → structurallySound bytes = true → frameSource bytes ≠ s.settings.ownAddress →
        (s.air.rxFifo.length < 8 →
          exec (.frameDelivered bytes strength) s
            = .next { s with air := { s.air with rxFifo := s.air.rxFifo ++ [{ bytes := bytes, strength := strength }] } }) ∧
        (8 ≤ s.air.rxFifo.length →
          exec (.frameDelivered bytes strength) s
            = .next { s with counters := { s.counters with rxOverrun := min 255 (s.counters.rxOverrun + 1) } })))

/-- The nine commands that dispatch a frame, with the destination classes that are not handed over (table of section 1.4):
the frame ends with no further effect. -/
def Obligations.FramesOfOtherClassesAreDiscarded : Prop :=
  ∀ (s : State) (f : RxFrame) (rest : List RxFrame), s.air.rxFifo = f :: rest →
    (frameKind f.bytes = some .diagReport →
      exec .diagReportDiscarded s = .next { s with air := { s.air with rxFifo := rest } }) ∧
    (s.classify (frameDestination f.bytes) = .otherConsist ∨ s.classify (frameDestination f.bytes) = .other →
      (frameKind f.bytes = some .drive → exec .drive s = .next { s with air := { s.air with rxFifo := rest } }) ∧
      (frameKind f.bytes = some .release → exec .release s = .next { s with air := { s.air with rxFifo := rest } }) ∧
      (frameKind f.bytes = some .halt → exec .halt s = .next { s with air := { s.air with rxFifo := rest } }) ∧
      (frameKind f.bytes = some .calibrate → exec .calibrate s = .next { s with air := { s.air with rxFifo := rest } }) ∧
      (frameKind f.bytes = some .diagQuery → exec .diagQuery s = .next { s with air := { s.air with rxFifo := rest } }) ∧
      (frameKind f.bytes = some .uncouple → exec .uncouple s = .next { s with air := { s.air with rxFifo := rest } })) ∧
    (s.classify (frameDestination f.bytes) = .all ∨ s.classify (frameDestination f.bytes) = .own ∨
        s.classify (frameDestination f.bytes) = .other →
      (frameKind f.bytes = some .couple → exec .couple s = .next { s with air := { s.air with rxFifo := rest } }) ∧
      (frameKind f.bytes = some .uncouple → exec .uncouple s = .next { s with air := { s.air with rxFifo := rest } })) ∧
    (s.classify (frameDestination f.bytes) = .all →
      (frameKind f.bytes = some .drive → exec .drive s = .next { s with air := { s.air with rxFifo := rest } }) ∧
      (frameKind f.bytes = some .release → exec .release s = .next { s with air := { s.air with rxFifo := rest } }) ∧
      (frameKind f.bytes = some .calibrate → exec .calibrate s = .next { s with air := { s.air with rxFifo := rest } }) ∧
      (frameKind f.bytes = some .diagQuery → exec .diagQuery s = .next { s with air := { s.air with rxFifo := rest } })) ∧
    (s.classify (frameDestination f.bytes) = .ownConsist →
      (frameKind f.bytes = some .calibrate → exec .calibrate s = .next { s with air := { s.air with rxFifo := rest } }) ∧
      (frameKind f.bytes = some .diagQuery → exec .diagQuery s = .next { s with air := { s.air with rxFifo := rest } }))

/-- JOIN and STATUS: the sender's entry is the one it holds or, for a new station, the lowest free one or the unpinned one of
the greatest age, the lowest index of several; it takes the fields of the frame and age 0, and from STATUS status age 0; the
rest of the sender's own entry stands, and a marker's, another station's or a free entry begins bare. Every other entry
stands, whatever the consist state and the destination class. A JOIN to another consist, and a STATUS in consist state
SOLO, change nothing else but the FIFO. -/
def Obligations.PeersAreRecordedAsHeard : Prop :=
  ∀ (s : State) (f : RxFrame) (rest : List RxFrame) (cls : DestinationClass),
    ((∃ e ∈ s.air.peers, ∀ x, e = some x → x.pinned = false) → ∃ i, EntryAt s.air.peers (frameSource f.bytes) i) ∧
    ∀ i, EntryAt s.air.peers (frameSource f.bytes) i →
      let before := entryBefore s.air.peers (frameSource f.bytes) i
      let joined : PeerTable :=
        s.air.peers.set i (some (.loco { before with joined := some (joinFields (payloadOf f.bytes)), age := some 0 }))
      let reported : PeerTable :=
        s.air.peers.set i
          (some (.loco { before with status := some (statusFields (payloadOf f.bytes)), age := some 0, statusAge := some 0 }))
      (s.HeadIs f rest .join cls → ∃ t : State, exec .join s = .next t ∧ t.air.peers = joined) ∧
      (s.HeadIs f rest .status cls → ∃ t : State, exec .status s = .next t ∧ t.air.peers = reported) ∧
      (s.HeadIs f rest .join cls → cls ≠ .ownConsist →
        exec .join s = .next { s with air := { s.air with rxFifo := rest, peers := joined } }) ∧
      (s.HeadIs f rest .status cls → s.consist.state = .solo →
        exec .status s = .next { s with air := { s.air with rxFifo := rest, peers := reported } })

/-- MARKER: nothing for a pinned sender. Otherwise its entry, its own or the one a new station takes, becomes a marker entry
of age 0 and every other entry stands; the current-block record takes the notice when it comes from the current marker or is
at or above the passing threshold, and stays otherwise; a change of block id, aspect or marker address files a STATUS
request. A block of age 2000 counts as UNKNOWN there: log 19. -/
def Obligations.MarkerPassesOrRefreshesTheBlock : Prop :=
  ∀ (s : State) (f : RxFrame) (rest : List RxFrame), s.air.rxFifo = f :: rest → frameKind f.bytes = some .marker →
    (peerPinned (frameSource f.bytes) s.air.peers = true →
      exec .marker s = .next { s with air := { s.air with rxFifo := rest } }) ∧
    ∀ i, peerPinned (frameSource f.bytes) s.air.peers = false → EntryAt s.air.peers (frameSource f.bytes) i →
      let peers : PeerTable := s.air.peers.set i (some (.marker (frameSource f.bytes) 0))
      let followed : BlockRecord :=
        { blockId := some (wordAt (payloadOf f.bytes) 0), aspect := aspectOf (byteAt (payloadOf f.bytes) 2),
          capStep := byteAt (payloadOf f.bytes) 3, markerAddress := some (frameSource f.bytes), age := 0 }
      let aspect : Aspect := if 2000 ≤ s.motion.block.age then .unknown else s.motion.block.aspect
      let same :=
        s.motion.block.blockId = followed.blockId ∧ aspect = followed.aspect ∧
          s.motion.block.markerAddress = followed.markerAddress
      let taken := s.motion.block.markerAddress = some (frameSource f.bytes) ∨ s.settings.passingThreshold ≤ f.strength
      (¬taken → exec .marker s = .next { s with air := { s.air with rxFifo := rest, peers := peers } }) ∧
      (taken → same →
        exec .marker s
          = .next
              { s with air := { s.air with rxFifo := rest, peers := peers }, motion := { s.motion with block := followed } }) ∧
      (taken → ¬same →
        exec .marker s
          = .next
              { s with
                air :=
                  { s.air with
                    rxFifo := rest, peers := peers
                    statusSlot :=
                      if s.air.statusSlot.requested then s.air.statusSlot else { requested := true, attempts := 0 } }
                motion := { s.motion with block := followed } })

/-- PEER_AGE_TICK: one entry's fate. A pinned entry only ages; an unpinned locomotive entry goes at age 40, a marker entry at
age 100; ages stop at 255; nothing but the table changes. -/
def Obligations.PeersAgeAndAreForgotten : Prop :=
  ∀ s : State, s.command.partMode ≠ .start →
    ∃ t : State, exec .peerAgeTick s = .next t ∧ t = { s with air := { s.air with peers := t.air.peers } } ∧
      t.air.peers.length = s.air.peers.length ∧
      ∀ k : Nat, (∀ a n, s.air.peers[k]? = some (some (.marker a n)) →
          t.air.peers[k]? = some (if 99 ≤ n then none else some (.marker a (n + 1)))) ∧
        (∀ e, s.air.peers[k]? = some (some (.loco e)) →
          t.air.peers[k]?
            = some
                (if e.pinned = false ∧ (∃ n, e.age = some n ∧ 39 ≤ n) then none
                else
                  some
                    (.loco
                      { e with
                        age := e.age.map fun n => min 255 (n + 1)
                        statusAge := e.statusAge.map fun n => min 255 (n + 1) }))) ∧
        (s.air.peers[k]? = some none → t.air.peers[k]? = some none)

/-- Medium access. LISTEN_START and BACKOFF_END: a window begins with a fresh choice of JOIN, then STATUS, then DIAG_REPORT,
or the transmitter is IDLE. LISTEN_WINDOW_END of a busy window: the slot's attempt count rises; at the eighth the request is
given up and counted, below it the backoff register draws the next number and the backoff is 2 to 32 ms. Nothing else
changes. That BACKOFF_END stands for its timer having run out: log 2. -/
def Obligations.ListenWindowsAreChosenAndCharged : Prop :=
  ∀ s : State,
    let opened : State :=
      { s with
        air :=
          { s.air with
            transmitter :=
              if s.air.joinSlot.requested then .listen .join
              else if s.air.statusSlot.requested then .listen .status
              else if s.air.diagSlot.requested then .listen .diagReport
              else .idle } }
    (s.air.transmitter = .idle → exec .listenStart s = .next opened) ∧
    (∀ left, s.air.transmitter = .backoff left → exec .backoffEnd s = .next opened) ∧
    ∀ kind, s.air.transmitter = .listen kind →
      ((s.air.slot kind).attempts < 7 →
        exec (.listenWindowEnd true) s
          = .next
              { s with
                air :=
                  { s.air.setSlot kind { requested := true, attempts := (s.air.slot kind).attempts + 1 } with
                    backoffRegister := s.air.backoffRegister * 75 % 65537
                    transmitter := .backoff (2 * (s.air.backoffRegister * 75 % 65537 % 16 + 1)) } }) ∧
      (7 ≤ (s.air.slot kind).attempts →
        exec (.listenWindowEnd true) s
          = .next
              { s with
                air := { s.air.setSlot kind { requested := false, attempts := 0 } with transmitter := .idle }
                counters := { s.counters with txGiveup := min 255 (s.counters.txGiveup + 1) } })

/-- LISTEN_WINDOW_END of a clear window: the slot is emptied, transmit-request goes high and the frame is composed from
the state as it stands; a JOIN that finds no own consist address is emptied unsent. Nothing else changes. -/
def Obligations.ClearWindowsTransmitFromCurrentState : Prop :=
  ∀ (s : State) (kind : TxKind), s.air.transmitter = .listen kind →
    ((kind ≠ .join ∨ s.consist.membership.isSome = true) →
      exec (.listenWindowEnd false) s
        = .next
            { s with
              air :=
                { s.air.setSlot kind { requested := false, attempts := 0 } with
                  transmitter := .sending
                  transmitRequest := true
                  outgoing :=
                    some
                      { kind := kind, attempts := (s.air.slot kind).attempts, querier := s.air.querier,
                        frame := s.composeReport kind s.air.querier, carried := s.latches, handedOver := false } } }) ∧
    (kind = .join → s.consist.membership = none →
      exec (.listenWindowEnd false) s
        = .next
            { s with air := { s.air with joinSlot := { requested := false, attempts := 0 }, transmitter := .idle } })

/-- FRAME_HANDOVER: a STATUS restarts its interval timer, a DIAG_REPORT clears every counter and those latches that it
carried and whose cause does not stand; a JOIN does neither. TRANSMISSION_END lowers transmit-request. The transmit-
active line as the model keeps it: log 18; that a STATUS handed over in START starts the timer: log 36. -/
def Obligations.HandoverClearsWhatWasReported : Prop :=
  ∀ (s : State) (t : Transmission), s.air.transmitter = .sending → s.air.outgoing = some t →
    (t.handedOver = false →
      let air := { s.air with outgoing := some { t with handedOver := true }, transmitActive := true }
      (t.kind = .join → exec .frameHandover s = .next { s with air := air }) ∧
      (t.kind = .status →
        exec .frameHandover s = .next { s with air := { air with statusTimer := some s.statusInterval } }) ∧
      (t.kind = .diagReport →
        ∃ u : State, exec .frameHandover s = .next u ∧
          u = { s with air := air, counters := Counters.zero, latches := u.latches } ∧
          (u.latches.linkLost = true ↔
            s.latches.linkLost = true ∧ (t.carried.linkLost = false ∨ s.consist.state = .broken)) ∧
          (u.latches.negotiationFailed = true ↔ s.latches.negotiationFailed = true ∧ t.carried.negotiationFailed = false) ∧
          (u.latches.sensorFault = true ↔
            s.latches.sensorFault = true ∧ (t.carried.sensorFault = false ∨ s.beat.sensor = .fault)) ∧
          (u.latches.smokeFault = true ↔
            s.latches.smokeFault = true ∧
              (t.carried.smokeFault = false ∨ s.smoke.state = .purge ∨ s.smoke.state = .fault)) ∧
          (u.latches.configDefaulted = true ↔
            s.latches.configDefaulted = true ∧
              (t.carried.configDefaulted = false ∨ s.supply.configDefaultsInForce = true)) ∧
          (u.latches.calDefaulted = true ↔
            s.latches.calDefaulted = true ∧ (t.carried.calDefaulted = false ∨ s.motion.calDefaultsInForce = true)) ∧
          (u.latches.calRefused = true ↔ s.latches.calRefused = true ∧ t.carried.calRefused = false) ∧
          (u.latches.addressConflict = true ↔ s.latches.addressConflict = true ∧ t.carried.addressConflict = false) ∧
          (u.latches.coupleRefused = true ↔ s.latches.coupleRefused = true ∧ t.carried.coupleRefused = false))) ∧
    (t.handedOver = true →
      exec .transmissionEnd s
        = .next
            { s with
              air :=
                { s.air with
                  transmitter := .idle, outgoing := none, transmitRequest := false, transmitActive := false } })

/-- TX_ACTIVE_TIMEOUT and TX_CUT_OFF: the request goes back with its attempt count and is charged as a busy window is; a
newer querier stands. Nothing but the Air Interface and, at the eighth attempt, TX_GIVEUP changes. The transmit-
active line as the model keeps it: log 18. -/
def Obligations.FailedTransmissionsGoBackIntoTheirSlot : Prop :=
  ∀ (s : State) (t : Transmission), s.air.transmitter = .sending → s.air.outgoing = some t → t.handedOver = false →
    let querier := if t.kind = .diagReport ∧ s.air.diagSlot.requested = false then t.querier else s.air.querier
    (t.attempts < 7 →
      let air :=
        { s.air.setSlot t.kind { requested := true, attempts := t.attempts + 1 } with
          querier := querier
          outgoing := none
          transmitRequest := false
          backoffRegister := s.air.backoffRegister * 75 % 65537
          transmitter := .backoff (2 * (s.air.backoffRegister * 75 % 65537 % 16 + 1)) }
      exec .txActiveTimeout s = .next { s with air := air } ∧
        exec .txCutOff s = .next { s with air := { air with transmitActive := false } }) ∧
    (7 ≤ t.attempts →
      let air :=
        { s.air.setSlot t.kind { requested := false, attempts := 0 } with
          querier := querier, outgoing := none, transmitRequest := false, transmitter := .idle }
      let counters := { s.counters with txGiveup := min 255 (s.counters.txGiveup + 1) }
      exec .txActiveTimeout s = .next { s with air := air, counters := counters } ∧
        exec .txCutOff s = .next { s with air := { air with transmitActive := false }, counters := counters })

/-- JABBER, in every transmitter state: transmit-request low, QUIET for 2 s, the frame being fed lost, JABBER counted; in
QUIET with no fall of transmit-active shown it is the jabber already counted, and changes nothing. QUIET_END ends QUIET with
its 2 s run out and the line low, and changes nothing with time left or the line high. A fall ends QUIET once the 2 s have
run out, and within them only lowers the line. Outside QUIET both change nothing. The slots, the FIFO and everything else
stand. The transmit-active line as the model keeps it: log 18. -/
def Obligations.JabberQuietsTheTransmitter : Prop :=
  ∀ s : State,
    let quiet := ∃ left, s.air.transmitter = .quiet left
    let idle : State := { s with air := { s.air with transmitter := .idle, transmitActive := false } }
    (¬(quiet ∧ s.air.transmitActive = true) →
      exec .jabber s
        = .next
            { s with
              air :=
                { s.air with
                  transmitter := .quiet 2000, outgoing := none, transmitRequest := false, transmitActive := true }
              counters := { s.counters with jabber := min 255 (s.counters.jabber + 1) } }) ∧
    (quiet → s.air.transmitActive = true → exec .jabber s = .next s) ∧
    (s.air.transmitter = .quiet 0 → s.air.transmitActive = false → exec .quietEnd s = .next idle) ∧
    (s.air.transmitter ≠ .quiet 0 ∨ s.air.transmitActive = true → exec .quietEnd s = .next s) ∧
    (s.air.transmitter = .quiet 0 → exec .transmitActiveFallInQuiet s = .next idle) ∧
    (∀ left, 0 < left → s.air.transmitter = .quiet left →
      exec .transmitActiveFallInQuiet s = .next { s with air := { s.air with transmitActive := false } }) ∧
    (¬quiet → exec .transmitActiveFallInQuiet s = .next s)

/-- STATUS_INTERVAL_EXPIRY: a STATUS request, merged with one that waits, and the timer again at the interval in force.
That the row stands for the timer having run out: log 2; that it may run in START: log 36. -/
def Obligations.StatusIsRequestedAtIntervals : Prop :=
  ∀ (s : State) (n : Nat), s.air.statusTimer = some n →
    exec .statusIntervalExpiry s
      = .next
          { s with
            air :=
              { s.air with
                statusSlot := if s.air.statusSlot.requested then s.air.statusSlot else { requested := true, attempts := 0 }
                statusTimer :=
                  some
                    (if s.command.partMode = .parked then 5000
                    else if s.consist.state ≠ .solo ∨ s.motion.state = .moving ∨ s.motion.state.isCalibrating = true then 200
                    else 1000) } }

/-- Every frame the part composes passes the frame check and the structural checks of a receiving L6, with the part's own
address as its source. -/
def Obligations.ComposedFramesPassTheChecks : Prop :=
  ∀ (s : State) (kind : TxKind) (querier : Nat), isStationAddress s.settings.ownAddress = true →
    (kind = .join → ∃ id, s.consist.consistId = some id ∧ id ≤ 255) →
    frameCheck (s.composeReport kind querier) = true ∧ structurallySound (s.composeReport kind querier) = true ∧
      frameSource (s.composeReport kind querier) = s.settings.ownAddress

/-- What a receiving L6 reads from a STATUS and from a JOIN is what the sender's state holds. Every field of a STATUS, to the
address ALL, and of a DIAG_REPORT, to its querier, stands where the layout of section 11.4 puts it, each to the width of its
field, and every bit without a field is 0 (R178, R182, R183). A block of age 2000 is sent as UNKNOWN: log 19. -/
def Obligations.StatusAndJoinFieldsArriveAsSent : Prop :=
  ∀ (s : State) (querier : Nat),
    let stateCode : Nat :=
      match s.consist.state with
      | .solo => 0
      | .ability => 1
      | .acknowledge => 2
      | .formed => 3
      | .broken => 4
    let causeCode : Nat :=
      match s.supply.resetCause with
      | .powerOn => 0
      | .brownout => 1
      | .warm => 2
    ((∀ id, s.consist.consistId = some id → id ≤ 255) → s.motion.load ≤ 255 → (∀ n, s.markerCap = some n → n < 4095) →
      statusFields (payloadOf (s.composeReport .status querier))
        = { consistId := s.consist.consistId
            consistState := s.consist.state
            eStop := s.motion.state == .eStopped
            stall := s.motion.state == .faulted .stall
            driveFault := s.motion.state == .faulted .driveFault
            load := s.motion.load
            cap := s.markerCap }) ∧
    (s.settings.ownAbility.p0 ≤ 4095 → s.settings.ownAbility.p16 ≤ 4095 → 1 ≤ s.settings.accel → s.settings.accel ≤ 255 →
      1 ≤ s.settings.decel → s.settings.decel ≤ 255 →
      joinFields (payloadOf (s.composeReport .join querier))
        = { ability := s.settings.ownAbility, ack := s.consist.state != .ability }) ∧
    wordAt (payloadOf (s.composeReport .join querier)) 0 = s.settings.ownAddress % 65536 ∧
    (let frame := s.composeReport .status querier
      let p := payloadOf frame
      frameKind frame = some .status ∧ frameDestination frame = 0 ∧ p.length = 21 ∧
        (s.consist.membership = none → ∀ k < 5, byteAt p k = 0) ∧
        (∀ m, s.consist.membership = some m →
          byteAt p 0 = 1 ∧ byteAt p 1 = m.consistId % 256 ∧
            byteAt p 2
              = (match m.role with
                | .lead => 0
                | .middle => 1
                | .tail => 2) ∧
            byteAt p 3 = m.position % 256 ∧ byteAt p 4 = if m.orientation = .normal then 0 else 1) ∧
        byteAt p 5 = stateCode ∧
        (∀ bit, (wordAt p 6).testBit bit = true ↔
          (bit = 0 ∧ s.motion.state = .eStopped) ∨ (bit = 1 ∧ s.motion.state = .faulted .stall) ∨
            (bit = 2 ∧ s.motion.state = .faulted .driveFault) ∨
            (bit = 3 ∧ (s.smoke.state = .purge ∨ s.smoke.state = .fault)) ∨ (bit = 4 ∧ s.beat.sensor = .fault) ∨
            (bit = 5 ∧ s.latches.linkLost = true) ∨ (bit = 6 ∧ s.command.partMode = .parked) ∨
            (bit = 7 ∧ s.supply.state = .hold) ∨ (bit = 8 ∧ s.motion.state.isCalibrating = true)) ∧
        byteAt p 8 = (if s.motion.travel = .forward then 0 else 1) ∧ wordAt p 9 = s.motion.measuredSpeed % 65536 ∧
        wordAt p 11 = s.motion.ramp / 16 % 65536 ∧ byteAt p 13 = s.motion.filteredCurrent / 4 % 256 ∧
        byteAt p 14 = s.supply.shedLevel % 256 ∧ wordAt p 15 = s.markerCap.getD 4095 % 65536 ∧
        wordAt p 17 = s.motion.block.blockId.getD 1023 % 65536 ∧
        byteAt p 19
          = (match if 2000 ≤ s.motion.block.age then Aspect.unknown else s.motion.block.aspect with
            | .clear => 0
            | .caution => 1
            | .restrict => 2
            | .stop => 3
            | .unknown => 4) ∧
        byteAt p 20 = causeCode) ∧
    (let frame := s.composeReport .diagReport querier
      let p := payloadOf frame
      frameKind frame = some .diagReport ∧ frameDestination frame = querier % 65536 ∧ p.length = 18 ∧
        byteAt p 0 = s.counters.checkFail % 256 ∧ byteAt p 1 = s.counters.malformed % 256 ∧
        byteAt p 2 = s.counters.rxOverrun % 256 ∧ byteAt p 3 = s.counters.foreignDrive % 256 ∧
        byteAt p 4 = s.counters.txGiveup % 256 ∧ byteAt p 5 = s.counters.jabber % 256 ∧
        byteAt p 6 = s.counters.soundUnderrun % 256 ∧ byteAt p 7 = s.counters.dropoutCount % 256 ∧
        (∀ bit, (wordAt p 8).testBit bit = true ↔
          (bit = 0 ∧ s.latches.linkLost = true) ∨ (bit = 1 ∧ s.latches.negotiationFailed = true) ∨
            (bit = 2 ∧ s.latches.sensorFault = true) ∨ (bit = 3 ∧ s.latches.smokeFault = true) ∨
            (bit = 4 ∧ s.latches.configDefaulted = true) ∨ (bit = 5 ∧ s.latches.calDefaulted = true) ∨
            (bit = 6 ∧ s.latches.calRefused = true) ∨ (bit = 7 ∧ s.latches.addressConflict = true) ∨
            (bit = 8 ∧ s.latches.coupleRefused = true)) ∧
        byteAt p 10 = causeCode ∧
        (∀ k < 4, byteAt p (11 + k)
          = (((s.sound.voices[k]?).bind (·.pending)).map fun t => t.program % 256).getD 255) ∧
        byteAt p 15 = s.supply.shedLevel % 256 ∧
        byteAt p 16
          = (match s.supply.state with
            | .normal => 0
            | .dropout => 1
            | .hold => 2
            | .settle => 3) ∧
        byteAt p 17 = stateCode)

/-! ### Command Unit -/

/-- DRIVE on the binding path, from any throttle while unbound and from the bound one on its path: it binds or refreshes the
binding, the step (but not while negotiating), the direction, and the path's function bits, whose edges are delivered one
function after another; nothing of the Air Interface but the FIFO and the STATUS request and timer changes, nor the settings,
beats, supply, counters or latches. A step above 0 restarts a running park timer. A waking DRIVE returns a PARKED part to RUN:
STATUS is requested, the ambient program is triggered where SOUND_ON is on, smoke that is enabled heats again and the lights
are judged. A DRIVE from another throttle or path is counted and otherwise ignored. Within an edge, that bit `k` of a LIGHTS
mask is output `k` is log 31, and a newly lit output's flicker value of 0 is log 25. -/
def Obligations.DrivesBindAndForeignOnesAreCounted : Prop :=
  ∀ (s : State) (f : RxFrame) (rest : List RxFrame) (cls : DestinationClass) (via : BoundVia), s.HeadIs f rest .drive cls →
    (cls = .own ∧ s.consist.state = .solo ∧ via = .own) ∨ (cls = .ownConsist ∧ s.consist.state ≠ .solo ∧ via = .consist) →
    let step := byteAt (payloadOf f.bytes) 0
    let bits := driveFunctions (payloadOf f.bytes)
    let mask := if via = .own then BitVec.allOnes 24 else s.settings.consistMask
    let taken : CommandUnit :=
      { s.command with
        binding := some { throttle := frameSource f.bytes, via := via, supervision := s.settings.supervisionTime }
        commandedStep :=
          if s.consist.state = .ability ∨ s.consist.state = .acknowledge then s.command.commandedStep else min 96 step
        requestedDirection := directionOf (byteAt (payloadOf f.bytes) 1) }
    let took : Controller := { s.toController with air := { s.air with rxFifo := rest }, command := taken }
    let filed (slot : TxSlot) : TxSlot := if slot.requested then slot else { requested := true, attempts := 0 }
    (∀ b, s.command.binding = some b → b.throttle ≠ frameSource f.bytes ∨ b.via ≠ via →
      exec .drive s
        = .next
            { s with
              air := { s.air with rxFifo := rest }
              counters := { s.counters with foreignDrive := min 255 (s.counters.foreignDrive + 1) } }) ∧
    ((∀ b, s.command.binding = some b → b.throttle = frameSource f.bytes ∧ b.via = via) →
      ∃ (t : State) (u : Controller), exec .drive s = .next t ∧ Controller.EdgesDone bits mask (List.range 24) took u ∧
        t = { s with
              air := { s.air with rxFifo := rest, statusSlot := t.air.statusSlot, statusTimer := t.air.statusTimer }
              command :=
                { taken with
                  functions := t.command.functions, parkTimer := t.command.parkTimer, partMode := t.command.partMode }
              motion := t.motion, consist := t.consist, sound := t.sound, smoke := t.smoke, light := t.light } ∧
        t.command.functions = u.command.functions ∧
        (∀ i < 24, t.command.functions.getLsbD i
          = if mask.getLsbD i = true then bits.getLsbD i else s.command.functions.getLsbD i) ∧
        let woken :=
          s.command.partMode = .parked ∧
            (0 < step ∨ s.command.binding = none ∨ t.command.requestedDirection ≠ s.command.requestedDirection ∨
              t.command.functions ≠ s.command.functions)
        let changed := t.motion.state ≠ s.motion.state
        let starts := t.motion.state = .idle ∧ s.consist.state = .solo ∧ s.settings.parkDelay ≠ 0
        (woken → t.command.partMode = .run) ∧ (¬woken → t.command.partMode = s.command.partMode) ∧
        (¬woken → t.sound = u.sound ∧ t.smoke = u.smoke ∧ t.light = u.light) ∧
        (woken →
          t.sound = (if t.soundOnLevel = true then u.sound.trigger u.sound.ambient .ambient else u.sound) ∧
            t.smoke = (if u.smoke.state = .off ∧ t.smokeEnableLevel = true then u.smokeAsked else u.smoke) ∧
            t.LightsFollow u.light) ∧
        (changed ∨ woken →
          t.air.statusSlot = filed u.air.statusSlot ∧
            t.air.statusTimer
              = s.air.statusTimer.map fun n =>
                  min n
                    (if t.command.partMode = .parked then 5000
                    else if s.consist.state ≠ .solo ∨ t.motion.state = .moving ∨ t.motion.state.isCalibrating = true then 200
                    else 1000)) ∧
        (¬(changed ∨ woken) → t.air.statusSlot = u.air.statusSlot ∧ t.air.statusTimer = s.air.statusTimer) ∧
        (s.command.partMode ≠ .parked →
          let ran : Option Nat :=
            if changed then
              (if s.command.partMode = .run ∧ starts then some (s.command.parkTimer.getD 0) else none)
            else s.command.parkTimer
          t.command.parkTimer = if 0 < step then ran.map fun _ => 0 else ran) ∧
        (s.command.partMode = .parked → s.command.parkTimer = none →
          t.command.parkTimer = if woken ∧ starts then some 0 else none))

/-- The drive notice of an accepted DRIVE: step 0 clears E_STOPPED and FAULTED and leaves the rest of the motion record; a
step above 0 leaves both standing and aborts a calibration, to IDLE at labour level COAST (log 26); IDLE and MOVING take
nothing from it. Via CONSIST, step 0 also clears the signal-loss stop, and the consist-fault flag unless another member's peer
entry is fresh with STALL or DRIVE_FAULT set; via OWN, and with a step above 0, the consist record stands. -/
def Obligations.DriveNoticesClearStopsAtStepZero : Prop :=
  ∀ (s : State) (f : RxFrame) (rest : List RxFrame) (cls : DestinationClass) (via : BoundVia), s.HeadIs f rest .drive cls →
    (cls = .own ∧ s.consist.state = .solo ∧ via = .own) ∨ (cls = .ownConsist ∧ s.consist.state ≠ .solo ∧ via = .consist) →
    (∀ b, s.command.binding = some b → b.throttle = frameSource f.bytes ∧ b.via = via) →
    ∃ t : State, exec .drive s = .next t ∧
      (s.motion.state.stopped = true → byteAt (payloadOf f.bytes) 0 = 0 → t.motion = { s.motion with state := .idle }) ∧
      (s.motion.state.stopped = true → 0 < byteAt (payloadOf f.bytes) 0 → t.motion = s.motion) ∧
      (s.motion.state.isCalibrating = true → byteAt (payloadOf f.bytes) 0 = 0 → t.motion = s.motion) ∧
      (s.motion.state.isCalibrating = true → 0 < byteAt (payloadOf f.bytes) 0 →
        t.motion
          = { s.motion with
              state := .idle, duty := 0, ramp := 0, integrator := 0, calibration := none, labour := .coast }) ∧
      (s.motion.state = .idle ∨ s.motion.state = .moving → t.motion = s.motion) ∧
      (via = .own ∨ 0 < byteAt (payloadOf f.bytes) 0 → t.consist = s.consist) ∧
      (via = .consist → byteAt (payloadOf f.bytes) 0 = 0 →
        let faulty :=
          ∃ o ∈ s.consist.others, ∃ e fields n, locoEntry o.address s.air.peers = some e ∧ e.status = some fields ∧
            e.statusAge = some n ∧ n < 10 ∧ (fields.stall = true ∨ fields.driveFault = true)
        (faulty → t.consist = { s.consist with signalLossStop := false }) ∧
        (¬faulty → t.consist = { s.consist with signalLossStop := false, consistFault := false }))

/-- A DRIVE to the own address outside SOLO, from any source: the function bits outside the consist mask are applied, and
step, direction, binding, motion record, counters and the rest stand. The action levels follow the functions that are on. The
edges are delivered one function after another in ascending number, each as its action calls for: LIGHTS and a changed DIM
judge the lights again, SOUND triggers or lets go of its program, a rising SMOKE_ENABLE heats in RUN and a falling one turns
smoke off, a rising SOUND_ON triggers the ambient program in RUN. That bit `k` of a LIGHTS mask is output `k`: the model's
choice (log 31); a newly lit output's flicker value of 0: log 25. -/
def Obligations.FunctionOnlyDrivesWorkTheOwnFunctions : Prop :=
  ∀ (s : State) (f : RxFrame) (rest : List RxFrame), s.HeadIs f rest .drive .own → s.consist.state ≠ .solo →
    let bits := driveFunctions (payloadOf f.bytes)
    let mask := s.settings.consistMask
    let took : Controller := { s.toController with air := { s.air with rxFifo := rest } }
    let works (t : State) (p : FunctionAction → Prop) : Prop :=
      ∃ i < 24, t.command.functions.getLsbD i = true ∧ p (s.settings.functionMap.getD i .none)
    ∃ t : State, exec .drive s = .next t ∧ Controller.EdgesDone bits (~~~mask) (List.range 24) took t.toController ∧
      t = { s with
            air := { s.air with rxFifo := rest, statusSlot := t.air.statusSlot }
            command := { s.command with functions := t.command.functions }
            sound := t.sound, smoke := t.smoke, light := t.light } ∧
      (∀ i < 24, t.command.functions.getLsbD i
        = if mask.getLsbD i = true then s.command.functions.getLsbD i else bits.getLsbD i) ∧
      (t.smokeEnableLevel = true ↔ works t (· = .smokeEnable)) ∧ (t.dimLevel = true ↔ works t (· = .dim)) ∧
      (t.shuntLevel = true ↔ works t (· = .shunt)) ∧
      (t.soundOnLevel = true ↔ .soundOn ∉ s.settings.functionMap ∨ works t (· = .soundOn)) ∧
      ∀ k, t.lightsFunctionLevel k = true ↔ works t fun action => ∃ m, action = .lights m ∧ m.getLsbD k = true

/-- RELEASE: taken from the bound throttle on the class that matches the bound-via, it unbinds and keeps step, direction and
functions, and any throttle may then bind; any other is ignored and nothing is counted. -/
def Obligations.ReleaseUnbindsAndNothingElse : Prop :=
  ∀ (s : State) (f : RxFrame) (rest : List RxFrame) (cls : DestinationClass), s.HeadIs f rest .release cls →
    (∀ b, s.command.binding = some b → b.throttle = frameSource f.bytes →
        (cls = .own ∧ b.via = .own) ∨ (cls = .ownConsist ∧ b.via = .consist) →
      exec .release s
          = .next { s with air := { s.air with rxFifo := rest }, command := { s.command with binding := none } } ∧
        ∀ source via, { s.command with binding := none }.accepts source via = true) ∧
    (s.command.binding = none ∨
        (∃ b, s.command.binding = some b ∧
          (b.throttle ≠ frameSource f.bytes ∨
            ¬((cls = .own ∧ b.via = .own) ∨ (cls = .ownConsist ∧ b.via = .consist)))) →
      exec .release s = .next { s with air := { s.air with rxFifo := rest } })

/-- HALT on the classes ALL, OWN and OWN_CONSIST: a repeat is ignored; a new one is remembered and, in RUN, stops a standing
or running locomotive with R, I and the duty at 0, the E_STOP sound and a STATUS request, and aborts a calibration; PARKED
only remembers it. That the setpoint stands until the next period and the labour level is COAST at once: log 26. -/
def Obligations.HaltStopsOnceForEachInstance : Prop :=
  ∀ (s : State) (f : RxFrame) (rest : List RxFrame) (cls : DestinationClass), s.HeadIs f rest .halt cls →
    cls = .all ∨ cls = .own ∨ cls = .ownConsist →
    let pair := (frameSource f.bytes, byteAt (payloadOf f.bytes) 0)
    (s.command.lastHalt = some pair → exec .halt s = .next { s with air := { s.air with rxFifo := rest } }) ∧
    (s.command.lastHalt ≠ some pair → s.command.partMode ≠ .run ∨ s.motion.state.stopped = true →
      exec .halt s
        = .next { s with air := { s.air with rxFifo := rest }, command := { s.command with lastHalt := some pair } }) ∧
    (s.command.lastHalt ≠ some pair → s.command.partMode = .run →
      s.motion.state = .idle ∨ s.motion.state = .moving →
      exec .halt s
        = .next
            { s with
              air :=
                { s.air with
                  rxFifo := rest
                  statusSlot :=
                    if s.air.statusSlot.requested then s.air.statusSlot else { requested := true, attempts := 0 }
                  statusTimer := s.air.statusTimer.map (min · (if s.consist.state = .solo then 1000 else 200)) }
              command := { s.command with lastHalt := some pair, parkTimer := none }
              motion := { s.motion with state := .eStopped, ramp := 0, duty := 0, integrator := 0, labour := .coast }
              sound := s.sound.motionTrigger .eStop }) ∧
    (s.command.lastHalt ≠ some pair → s.command.partMode = .run → s.motion.state.isCalibrating = true →
      ∃ t : State, exec .halt s = .next t ∧
        t = { s with
              air := { s.air with rxFifo := rest, statusSlot := t.air.statusSlot, statusTimer := t.air.statusTimer }
              command := { s.command with lastHalt := some pair, parkTimer := none }
              sound := s.sound.motionTrigger .eStop
              motion :=
                { s.motion with
                  state := .eStopped, duty := 0, ramp := 0, integrator := 0, calibration := none, labour := .coast } } ∧
        t.air.statusSlot.requested = true)

/-- CALIBRATE to the own address: under every condition of the list it starts with the calibration duty and 600 periods
of spin-up, at labour level COAST (log 26), and files a STATUS request; when one condition fails it only latches CAL_REFUSED.
That a rest of R below one speed unit goes: log 29. -/
def Obligations.CalibrateStartsOrIsRefused : Prop :=
  ∀ (s : State) (f : RxFrame) (rest : List RxFrame), s.HeadIs f rest .calibrate .own →
    ((s.command.partMode = .run ∧ s.consist.state = .solo ∧
        (∃ b, s.command.binding = some b ∧ b.throttle = frameSource f.bytes ∧ b.via = .own) ∧ s.motion.state = .idle ∧
        s.beat.mode = .event ∧ s.beat.sensor = .ok ∧ s.supply.state = .normal) →
      ∃ t : State, exec .calibrate s = .next t ∧
        t = { s with
              air := { s.air with rxFifo := rest, statusSlot := t.air.statusSlot, statusTimer := t.air.statusTimer }
              command := { s.command with parkTimer := none }
              motion :=
                { s.motion with
                  state := .calibrating .spinup, ramp := 0, integrator := 0, stallCount := 0, labour := .coast
                  calibration :=
                    some
                      { phaseTimer := 600, dcal := min 400 s.settings.dutyCap, bemfSum := 0, wheelSum := 0,
                        foldbackSeen := false, newValues := none } } } ∧
        t.air.statusSlot.requested = true) ∧
    (¬(s.command.partMode = .run ∧ s.consist.state = .solo ∧
        (∃ b, s.command.binding = some b ∧ b.throttle = frameSource f.bytes ∧ b.via = .own) ∧ s.motion.state = .idle ∧
        s.beat.mode = .event ∧ s.beat.sensor = .ok ∧ s.supply.state = .normal) →
      exec .calibrate s
        = .next { s with air := { s.air with rxFifo := rest }, latches := { s.latches with calRefused := true } })

/-- DIAG_QUERY to the own address, in every state: a DIAG_REPORT request whose querier is the frame's source; a waiting
request keeps its attempt count and takes the new querier. Nothing else changes. -/
def Obligations.DiagQueryFilesAReportRequest : Prop :=
  ∀ (s : State) (f : RxFrame) (rest : List RxFrame), s.HeadIs f rest .diagQuery .own →
    exec .diagQuery s
      = .next
          { s with
            air :=
              { s.air with
                rxFifo := rest
                diagSlot := if s.air.diagSlot.requested then s.air.diagSlot else { requested := true, attempts := 0 }
                querier := frameSource f.bytes } }

/-- SUPERVISION_EXPIRY: the locomotive is unbound; under STOP, and in every consist state but SOLO, the commanded step
becomes 0; a binding via CONSIST raises the consist stop. Direction, functions and the rest stand.
PARK_DELAY_EXPIRY: with the park timer at the park delay, the part parks with its binding, functions and last HALT kept and a
STATUS request filed; a timer below it, started again by a DRIVE or a restart, does not park. That SUPERVISION_EXPIRY stands
for its timer having run out: log 2. -/
def Obligations.TimersUnbindAndPark : Prop :=
  ∀ s : State,
    (∀ b, s.command.binding = some b →
      exec .supervisionExpiry s
        = .next
            { s with
              command :=
                { s.command with
                  binding := none
                  commandedStep :=
                    if s.settings.signalLossAction = .stop ∨ s.consist.state ≠ .solo then 0 else s.command.commandedStep }
              consist :=
                { s.consist with
                  signalLossStop :=
                    s.consist.signalLossStop || (decide (b.via = .consist) && decide (s.consist.state ≠ .solo)) } }) ∧
    (∀ n, s.command.parkTimer = some n → n < s.settings.parkDelay * 60000 → exec .parkDelayExpiry s = .next s) ∧
    (∀ n, s.command.partMode = .run → s.command.parkTimer = some n → s.settings.parkDelay * 60000 ≤ n →
      ∃ t : State, exec .parkDelayExpiry s = .next t ∧
        t = { s with
              air := { s.air with statusSlot := t.air.statusSlot, statusTimer := s.air.statusTimer.map (min · 5000) }
              command := { s.command with partMode := .parked, parkTimer := none }
              sound := t.sound, smoke := t.smoke, light := t.light } ∧
        t.air.statusSlot.requested = true ∧ t.sound = s.sound.park ∧
        (s.smoke.state = .heating ∨ s.smoke.state = .ready ∨ s.smoke.state = .shed →
          t.smoke.state = .off ∧ t.smoke.heater = false ∧ t.smoke.fanDuty = 0) ∧
        (¬(s.smoke.state = .heating ∨ s.smoke.state = .ready ∨ s.smoke.state = .shed) → t.smoke = s.smoke) ∧
        t.LightsJudged)

/-! ### Consist Unit -/

/-- Taking a COUPLE: what the consist record then holds, the JOIN and STATUS requests, the cleared OWN binding and the
commanded step 0, PARKED back to RUN, and the other members pinned one after another, each in its own entry or the one it
takes, every other entry standing; direction, functions and the last HALT stand. The order of the pin requests: log 30. -/
def Obligations.CoupleTakenStartsNegotiation : Prop :=
  ∀ (s : State) (f : RxFrame) (rest : List RxFrame) (cls : DestinationClass), s.HeadIs f rest .couple cls →
    cls = .ownConsist ∨ cls = .otherConsist →
    let members := coupleMembers (payloadOf f.bytes)
    listSound members = true → s.settings.ownAddress ∈ members.map (·.1) → s.consist.state = .solo →
    s.motion.state = .idle → s.command.partMode ≠ .start →
    ∃ (t : State) (m : Membership), exec .couple s = .next t ∧
      t = { s with
            air :=
              { s.air with
                rxFifo := rest, peers := t.air.peers, joinSlot := t.air.joinSlot, statusSlot := t.air.statusSlot
                statusTimer := t.air.statusTimer }
            command :=
              { s.command with
                binding := t.command.binding, commandedStep := 0, parkTimer := none, partMode := .run }
            consist :=
              { state := .ability, membership := some m, common := none, negotiationTimer := some 5000,
                joinTimer := some 100, renegotiationPending := false, consistFault := false, signalLossStop := false }
            sound := t.sound, smoke := t.smoke, light := t.light } ∧
      m.consistId = byteAt (payloadOf f.bytes) 0 ∧ m.members = members ∧
      members[m.position]? = some (s.settings.ownAddress, m.orientation) ∧
      m.role = (if m.position = 0 then .lead else if m.position + 1 = members.length then .tail else .middle) ∧
      m.others.map (·.address) = (members.map (·.1)).filter (· ≠ s.settings.ownAddress) ∧
      (∀ o ∈ m.others, o.ability = none ∧ o.ackHeard = false ∧ o.timer = none ∧ o.mark = .watched) ∧
      t.command.binding = s.command.binding.filter (fun b => b.via = .consist) ∧
      t.air.joinSlot.requested = true ∧ t.air.statusSlot.requested = true ∧
      t.air.peers = (m.others.map (·.address)).foldl (fun table a => pinPeer a table) s.air.peers ∧
      (∀ (table : PeerTable) (a i : Nat), EntryAt table a i →
        pinPeer a table = table.set i (some (.loco { entryBefore table a i with pinned := true }))) ∧
      (s.AirSound → (∀ e, some e ∈ s.air.peers → e.pinned = false) →
        ∀ o ∈ m.others, peerPinned o.address t.air.peers = true)

/-- A malformed list is counted, whatever the consist state and whoever it names; a well-formed list without the own address
has no effect. -/
def Obligations.MalformedMemberListsAreCounted : Prop :=
  ∀ (s : State) (f : RxFrame) (rest : List RxFrame) (cls : DestinationClass), s.HeadIs f rest .couple cls →
    cls = .ownConsist ∨ cls = .otherConsist →
    let members := coupleMembers (payloadOf f.bytes)
    let malformed :=
      members.length < 2 ∨ 4 < members.length ∨ ¬(members.map (·.1)).Nodup ∨
        ∃ m ∈ members, ¬(0x0001 ≤ m.1 ∧ m.1 ≤ 0x0FFF)
    (malformed →
      exec .couple s
        = .next
            { s with
              air := { s.air with rxFifo := rest }
              counters := { s.counters with malformed := min 255 (s.counters.malformed + 1) } }) ∧
    (¬malformed → s.settings.ownAddress ∉ members.map (·.1) →
      exec .couple s = .next { s with air := { s.air with rxFifo := rest } })

/-- A COUPLE whose list names the own address: a repeat has no effect; otherwise it is refused with COUPLE_REFUSED unless the
locomotive is SOLO and IDLE and the part mode is RUN or PARKED, and then it is taken. -/
def Obligations.CoupleIsRepeatedRefusedOrTaken : Prop :=
  ∀ (s : State) (f : RxFrame) (rest : List RxFrame) (cls : DestinationClass), s.HeadIs f rest .couple cls →
    cls = .ownConsist ∨ cls = .otherConsist →
    let members := coupleMembers (payloadOf f.bytes)
    listSound members = true → s.settings.ownAddress ∈ members.map (·.1) →
    let repeated :=
      s.consist.state ≠ .solo ∧
        ∃ m, s.consist.membership = some m ∧ m.consistId = byteAt (payloadOf f.bytes) 0 ∧ m.members = members
    let takes := s.consist.state = .solo ∧ s.motion.state = .idle ∧ s.command.partMode ≠ .start
    (repeated → exec .couple s = .next { s with air := { s.air with rxFifo := rest } }) ∧
    (¬repeated → ¬takes →
      exec .couple s
        = .next { s with air := { s.air with rxFifo := rest }, latches := { s.latches with coupleRefused := true } }) ∧
    (¬repeated → takes →
      ∃ t : State, exec .couple s = .next t ∧ t.consist.state = .ability ∧ t.latches = s.latches ∧
        t.consist.consistId = some (byteAt (payloadOf f.bytes) 0))

/-- UNCOUPLE, and NEGOTIATION_TIMEOUT in ABILITY or ACKNOWLEDGE: the consist record is that of SOLO; each other member's
pinned entry is unpinned, or removed where it was never heard, and every other entry stands; a binding via CONSIST is
cleared, the commanded step is 0, the STATUS and park timers follow the new state, the lights are judged again and a STATUS
request is filed; the timeout also latches NEGOTIATION_FAILED. Nothing else changes. That the row stands for its timer
having run out: log 2. -/
def Obligations.ConsistsEndInSolo : Prop :=
  ∀ s : State,
    let ended (rest : List RxFrame) (latches : Latches) (t : State) : Prop :=
      t = { s with
            air :=
              { s.air with
                rxFifo := rest
                peers :=
                  s.air.peers.map fun entry =>
                    match entry with
                    | some (.loco e) =>
                      if e.pinned = true ∧ e.address ∈ s.consist.others.map (·.address) then
                        (if e.age.isSome = true then some (.loco { e with pinned := false }) else none)
                      else some (.loco e)
                    | other => other
                statusSlot := if s.air.statusSlot.requested then s.air.statusSlot else { requested := true, attempts := 0 }
                statusTimer :=
                  s.air.statusTimer.map fun n =>
                    min n
                      (if s.command.partMode = .parked then 5000
                      else if s.motion.state = .moving ∨ s.motion.state.isCalibrating = true then 200
                      else 1000) }
            command :=
              { s.command with
                binding := s.command.binding.filter (fun b => b.via = .own)
                commandedStep := 0
                parkTimer :=
                  if s.command.partMode = .run ∧ s.motion.state = .idle ∧ s.settings.parkDelay ≠ 0 then
                    some (s.command.parkTimer.getD 0)
                  else none }
            consist := ConsistUnit.cold
            light := { s.light with outputs := t.light.outputs, ditchTimers := t.light.ditchTimers }
            latches := latches } ∧
      t.LightsJudged
    (∀ (f : RxFrame) (rest : List RxFrame), s.HeadIs f rest .uncouple .ownConsist →
      ∃ t : State, exec .uncouple s = .next t ∧ ended rest s.latches t) ∧
    (s.consist.state = .ability ∨ s.consist.state = .acknowledge → s.consist.negotiationTimer.isSome = true →
      ∃ t : State, exec .negotiationTimeout s = .next t ∧
        ended s.air.rxFifo { s.latches with negotiationFailed := true } t)

/-- JOIN_TIMER_EXPIRY files another JOIN and restarts. MEMBER_TIMER_EXPIRY: in FORMED the consist breaks, that member
LOST and every other WATCHED with its time left, LINK_LOST latched and STATUS requested; in BROKEN the member
becomes LOST and renegotiation is no longer pending. That a row stands for its timer having run out: log 2. -/
def Obligations.ConsistTimersJoinAndBreak : Prop :=
  ∀ s : State,
    (s.consist.state = .ability ∨ s.consist.state = .acknowledge → s.consist.joinTimer.isSome = true →
      exec .joinTimerExpiry s
        = .next
            { s with
              air :=
                { s.air with
                  joinSlot := if s.air.joinSlot.requested then s.air.joinSlot else { requested := true, attempts := 0 } }
              consist := { s.consist with joinTimer := some 100 } }) ∧
    ∀ (address : Nat) (m : Membership) (o : MemberRecord),
      s.consist.membership = some m → m.others.find? (·.address == address) = some o → o.timer.isSome = true →
      (s.consist.state = .formed →
        ∃ t : State, exec (.memberTimerExpiry address) s = .next t ∧
          t = { s with
                air := { s.air with statusSlot := t.air.statusSlot, statusTimer := t.air.statusTimer }
                command := { s.command with parkTimer := none }
                consist :=
                  { s.consist with
                    state := .broken
                    membership :=
                      some
                        { m with
                          others :=
                            m.others.map fun r =>
                              if r.address = address then { r with mark := .lost, timer := none }
                              else { r with mark := .watched } }
                    renegotiationPending := false }
                light := t.light
                latches := { s.latches with linkLost := true } } ∧
          t.air.statusSlot.requested = true) ∧
      (s.consist.state = .broken →
        exec (.memberTimerExpiry address) s
          = .next
              { s with
                consist :=
                  { s.consist with
                    membership :=
                      some
                        { m with
                          others :=
                            m.others.map fun r =>
                              if r.address = address then { r with mark := .lost, timer := none } else r }
                    renegotiationPending := false } })

/-- JOIN from another member to the own consist address: its ability is held, its ack once heard stays; in ABILITY the last
ability makes ACKNOWLEDGE (a JOIN is filed afresh), and in ACKNOWLEDGE the last ack makes FORMED with the common parameters
of R105, every member timer at 1000 ms and both negotiation timers stopped. -/
def Obligations.JoinsCompleteTheNegotiation : Prop :=
  ∀ (s : State) (f : RxFrame) (rest : List RxFrame) (m : Membership), s.HeadIs f rest .join .ownConsist →
    s.consist.state = .ability ∨ s.consist.state = .acknowledge → s.consist.membership = some m →
    frameSource f.bytes ∈ m.others.map (·.address) → s.consist.negotiationTimer.isSome = true →
    let heard :=
      m.others.map fun o =>
        if o.address = frameSource f.bytes then
          { o with
            ability := some (joinFields (payloadOf f.bytes)).ability
            ackHeard := o.ackHeard || (joinFields (payloadOf f.bytes)).ack }
        else o
    let complete := s.consist.state = .acknowledge ∨ ∀ o ∈ heard, o.ability.isSome = true
    ∃ t : State, exec .join s = .next t ∧
      t = { s with
            air :=
              { s.air with
                rxFifo := rest, peers := t.air.peers, joinSlot := t.air.joinSlot, statusSlot := t.air.statusSlot
                statusTimer := t.air.statusTimer }
            command := { s.command with parkTimer := t.command.parkTimer }
            consist := t.consist
            light := t.light } ∧
      (¬complete → t.consist = { s.consist with membership := some { m with others := heard } }) ∧
      (complete → ¬(∀ o ∈ heard, o.ackHeard = true) →
        t.consist
          = { s.consist with
              state := .acknowledge
              membership := some { m with others := heard }
              joinTimer := if s.consist.state = .ability then some 100 else s.consist.joinTimer } ∧
        (s.consist.state = .ability → t.air.joinSlot.requested = true ∧ t.air.statusSlot.requested = true)) ∧
      (complete → (∀ o ∈ heard, o.ackHeard = true) →
        t.consist
          = { s.consist with
              state := .formed
              membership := some { m with others := heard.map fun o => { o with timer := some 1000 } }
              common := some (commonOf s.settings.ownAbility (heard.filterMap (·.ability)))
              negotiationTimer := none
              joinTimer := none } ∧
        t.air.statusSlot.requested = true)

/-- The common parameters: the greatest P0 (but no more than the least P16), the least P16, A and D, and a capability only
where every member has it; every member computes the same from the same ability words, whichever of them is its own. -/
def Obligations.EveryMemberComputesTheSameCommonParameters : Prop :=
  ∀ (own other : Ability) (rest rest' : List Ability), List.Perm (own :: rest) (other :: rest') →
    commonOf own rest = commonOf other rest' ∧
      (∀ a ∈ own :: rest,
        (commonOf own rest).vtop ≤ a.p16 ∧ (commonOf own rest).accel ≤ a.accel ∧ (commonOf own rest).decel ≤ a.decel) ∧
      (∃ a ∈ own :: rest, (commonOf own rest).vtop = a.p16) ∧ (∃ a ∈ own :: rest, (commonOf own rest).accel = a.accel) ∧
      (∃ a ∈ own :: rest, (commonOf own rest).decel = a.decel) ∧
      (∃ a ∈ own :: rest,
        (∀ b ∈ own :: rest, b.p0 ≤ a.p0) ∧ (commonOf own rest).vmin = min a.p0 (commonOf own rest).vtop) ∧
      ((commonOf own rest).loadShare = true ↔ ∀ a ∈ own :: rest, a.loadShare = true) ∧
      ((commonOf own rest).capShare = true ↔ ∀ a ∈ own :: rest, a.capShare = true)

/-- A STATUS from another member, in every consist state but SOLO, and a JOIN from one to the own consist address. ABILITY
takes no ack from a STATUS; ACKNOWLEDGE takes one that shows this consist and FORMED, and the last of them forms the consist.
FORMED: this consist and FORMED restarts the member's timer, ACKNOWLEDGE leaves it, anything else breaks the consist and
marks the member LOST. BROKEN: a WATCHED member stays watched by this consist's id and is else LOST; a LOST one is REHEARD by
any STATUS or JOIN, and with none LOST renegotiation is pending, and takes place at standstill. In every state and motion
state a fault flag raises the consist stop, and an E_STOP flag newly set asks for an emergency stop where one already set
does not. A JOIN is held in ABILITY while its timer is stopped, and changes nothing in FORMED or where no member is LOST. The
order of the rules on one STATUS: log 11; that the setpoint stands until the next period and the labour level is COAST at
once: log 26; that a step recorded in BROKEN is lost as the state becomes ABILITY: log 34, and that the watch marks stand
then: log 38; a newly lit output's flicker value of 0: log 25. -/
def Obligations.MemberStatusIsSupervisedAndShared : Prop :=
  ∀ (s : State) (f : RxFrame) (rest : List RxFrame) (m : Membership) (o : MemberRecord), s.consist.state ≠ .solo →
    s.consist.membership = some m → m.others.find? (·.address == frameSource f.bytes) = some o →
    let sender (change : MemberRecord → MemberRecord) : List MemberRecord :=
      m.others.map fun r => if r.address = frameSource f.bytes then change r else r
    let holding (others : List MemberRecord) : ConsistUnit := { s.consist with membership := some { m with others := others } }
    let filed (slot : TxSlot) : TxSlot := if slot.requested then slot else { requested := true, attempts := 0 }
    let reheard : List MemberRecord := sender fun r => { r with mark := .reheard }
    let rehearing : ConsistUnit :=
      if s.consist.renegotiationPending = true ∨ ∃ r ∈ reheard, r.mark = .lost then holding reheard
      else if 0 < s.motion.rampedSpeed then { holding reheard with renegotiationPending := true }
      else
        { holding (reheard.map fun r => { r with ability := none, ackHeard := false, timer := none }) with
          state := .ability, common := none, renegotiationPending := false, negotiationTimer := some 5000
          joinTimer := some 100 }
    let ruled (shown : StatusFields) : ConsistUnit :=
      match s.consist.state with
      | .solo => s.consist
      | .ability => s.consist
      | .acknowledge =>
        if shown.consistId = some m.consistId ∧ shown.consistState = .formed then
          let acked := sender fun r => { r with ackHeard := true }
          if ∀ r ∈ acked, r.ackHeard = true then
            { holding (acked.map fun r => { r with timer := some 1000 }) with
              state := .formed, common := some (commonOf s.settings.ownAbility (acked.filterMap (·.ability)))
              negotiationTimer := none, joinTimer := none }
          else holding acked
        else s.consist
      | .formed =>
        if shown.consistId = some m.consistId ∧ shown.consistState = .formed then
          holding (sender fun r => { r with timer := some 1000 })
        else if shown.consistId = some m.consistId ∧ shown.consistState = .acknowledge then s.consist
        else
          { holding
              (m.others.map fun r =>
                if r.address = frameSource f.bytes then { r with mark := .lost, timer := none }
                else { r with mark := .watched }) with
            state := .broken, renegotiationPending := false }
      | .broken =>
        match o.mark with
        | .watched =>
          if shown.consistId = some m.consistId then holding (sender fun r => { r with timer := some 1000 })
          else
            { holding (sender fun r => { r with mark := .lost, timer := none }) with renegotiationPending := false }
        | .lost => rehearing
        | .reheard => s.consist
    let follows (t : State) (restated stopped faulted : Prop) : Prop :=
      (restated ∨ stopped ∨ faulted → t.air.statusSlot = filed s.air.statusSlot) ∧
      (¬(restated ∨ stopped ∨ faulted) → t.air.statusSlot = s.air.statusSlot) ∧
      (restated ∨ stopped →
        t.air.statusTimer
            = s.air.statusTimer.map (fun n => min n (if s.command.partMode = .parked then 5000 else 200)) ∧
          t.command.parkTimer = none) ∧
      (¬(restated ∨ stopped) →
        t.air.statusTimer = s.air.statusTimer ∧ t.command.parkTimer = s.command.parkTimer) ∧
      (restated → t.LightsFollow s.light) ∧ (¬restated → t.light = s.light) ∧
      (t.consist.state = .ability → s.consist.state = .broken →
        t.air.joinSlot = filed s.air.joinSlot ∧ t.command.commandedStep = 0) ∧
      (t.consist.state ≠ .ability ∨ s.consist.state ≠ .broken →
        t.air.joinSlot = s.air.joinSlot ∧ t.command.commandedStep = s.command.commandedStep) ∧
      t = { s with
            air :=
              { s.air with
                rxFifo := rest, peers := t.air.peers, joinSlot := t.air.joinSlot, statusSlot := t.air.statusSlot
                statusTimer := t.air.statusTimer }
            command := { s.command with parkTimer := t.command.parkTimer, commandedStep := t.command.commandedStep }
            motion := t.motion, consist := t.consist, sound := t.sound, light := t.light, latches := t.latches }
    (∀ cls, s.HeadIs f rest .status cls →
      let shown := statusFields (payloadOf f.bytes)
      let fault := shown.stall = true ∨ shown.driveFault = true
      let newlyStopped := shown.eStop = true ∧ previousEStop (frameSource f.bytes) s.air.peers ≠ some true
      let stops := newlyStopped ∧ s.motion.state.stopped = false
      ∃ t : State, exec .status s = .next t ∧
        follows t (t.consist.state ≠ s.consist.state) stops (fault ∧ s.consist.consistFault = false) ∧
        t.consist
          = { ruled shown with consistFault := s.consist.consistFault || shown.stall || shown.driveFault } ∧
        t.latches
          = (if s.consist.state = .formed ∧ t.consist.state = .broken then { s.latches with linkLost := true }
            else s.latches) ∧
        (stops →
          t.motion
              = { s.motion with
                  state := .eStopped, ramp := 0, duty := 0, integrator := 0, labour := .coast
                  calibration := if s.motion.state.isCalibrating = true then none else s.motion.calibration } ∧
            t.sound = s.sound.motionTrigger .eStop) ∧
        (¬stops → t.motion = s.motion ∧ t.sound = s.sound)) ∧
    (s.HeadIs f rest .join .ownConsist →
      let j := joinFields (payloadOf f.bytes)
      ∃ t : State, exec .join s = .next t ∧
        (s.consist.state = .ability → s.consist.negotiationTimer = none →
          follows t False False False ∧
            t.consist = holding (sender fun r => { r with ability := some j.ability, ackHeard := r.ackHeard || j.ack })) ∧
        (s.consist.state = .formed ∨ (s.consist.state = .broken ∧ o.mark ≠ .lost) →
          follows t False False False ∧ t.consist = s.consist) ∧
        (s.consist.state = .broken → o.mark = .lost →
          follows t (t.consist.state ≠ s.consist.state) False False ∧ t.consist = rehearing) ∧
        (s.consist.state = .formed ∨ s.consist.state = .broken ∨ s.consist.negotiationTimer = none ∧ s.consist.state = .ability →
          t.motion = s.motion ∧ t.sound = s.sound ∧ t.latches = s.latches))

/-! ### Motion Unit -/

/-- The direction, target and ramp stages of CONTROL_PERIOD. At standstill the travel direction takes the demanded one, with a
REVERSE event and a STATUS request. The target is 0 while a reversal waits, and otherwise the least of the terms present: the
command target (halved by SHUNT, 0 while PARKED), the cap of the block's aspect, in a FORMED consist that shares caps the
caps of the members last heard below age 10, 0 under a consist stop, and the consist top speed. R moves toward sixteen times
the target by the rates in force and no further; leaving and reaching standstill raise DEPART and ARRIVE. R is 0 in every
other motion state, and stands while the supply is in HOLD or SETTLE. A block silent for 2000 periods counts as UNKNOWN from
that period on: log 19. -/
def Obligations.TheRampFollowsTheEffectiveTarget : Prop :=
  ∀ (s : State) (bemf : Fin 1024) (sum : Fin 94117), s.command.partMode ≠ .start →
    let common := if s.consist.state = .formed ∨ s.consist.state = .broken then s.consist.common else none
    let curve (step : Nat) : Nat :=
      match common with
      | some p => if step = 0 then 0 else p.vmin + (p.vtop - p.vmin) * (step - 1) / 95
      | none => ownCurve s.settings.curve step
    let commandTarget : Nat :=
      if s.command.partMode = .parked then 0
      else if s.shuntLevel = true then curve s.command.commandedStep / 2
      else curve s.command.commandedStep
    let age := if s.motion.block.markerAddress.isSome = true then min 2000 (s.motion.block.age + 1) else s.motion.block.age
    let markerCap : List Nat :=
      if s.settings.markerUse = false then []
      else
        match if 2000 ≤ age then Aspect.unknown else s.motion.block.aspect with
        | .clear => []
        | .caution => [curve s.motion.block.capStep]
        | .restrict => [curve s.settings.restrictedStep]
        | .stop => [0]
        | .unknown => [curve s.settings.restrictedStep]
    let membersCaps : List Nat :=
      if s.consist.state = .formed ∧ (∃ p, common = some p ∧ p.capShare = true) then
        s.consist.others.filterMap fun o =>
          (locoEntry o.address s.air.peers).bind fun e =>
            if e.statusAge.any (· < 10) = true then e.status.bind (·.cap) else none
      else []
    let stopCap : List Nat :=
      if s.consist.state = .broken ∨ s.consist.consistFault = true ∨ s.consist.signalLossStop = true then [0] else []
    let topSpeed : List Nat := if s.consist.state = .formed then (common.map (·.vtop)).toList else []
    let terms := commandTarget :: markerCap ++ membersCaps ++ stopCap ++ topSpeed
    let rate (own : Nat) (shared : CommonParameters → Nat) : Nat :=
      let base := (common.map shared).getD own
      if s.shuntLevel = true then min 255 (4 * base) else base
    let demanded : Direction :=
      if s.consist.membership.map (·.orientation) = some .reversed then
        (if s.command.requestedDirection = .forward then .reverse else .forward)
      else s.command.requestedDirection
    let supplied := s.supply.state = .normal ∨ s.supply.state = .dropout
    let compared := s.motion.state.isCalibrating = false ∧ supplied ∧ demanded ≠ s.motion.travel
    let turns := compared ∧ s.motion.ramp / 16 = 0
    let waits := compared ∧ 0 < s.motion.ramp / 16
    let turned : SoundEngine := if turns then s.sound.motionTrigger .reverse else s.sound
    ∃ t : State, exec (.controlPeriod bemf sum) s = .next t ∧
      t.motion.travel = (if turns then demanded else s.motion.travel) ∧
      (turns → t.air.statusSlot.requested = true) ∧
      (s.motion.state = .idle ∨ s.motion.state = .moving → supplied →
        ∃ target, (waits → target = 0) ∧ (¬waits → target ∈ terms ∧ ∀ term ∈ terms, target ≤ term) ∧
          t.motion.ramp
            = (if s.motion.ramp < 16 * target then min (s.motion.ramp + rate s.settings.accel (·.accel)) (16 * target)
              else if 16 * target < s.motion.ramp then
                max (s.motion.ramp - rate s.settings.decel (·.decel)) (16 * target)
              else s.motion.ramp) ∧
          t.motion.rampSense
            = (if s.motion.ramp < t.motion.ramp then .rising
              else if t.motion.ramp < s.motion.ramp then .falling
              else .steady) ∧
          t.motion.state
            = (if s.motion.ramp / 16 = 0 ∧ 0 < t.motion.ramp / 16 then .moving
              else if 0 < s.motion.ramp / 16 ∧ t.motion.ramp / 16 = 0 then .idle
              else s.motion.state) ∧
          t.sound
            = (if s.motion.ramp / 16 = 0 ∧ 0 < t.motion.ramp / 16 then turned.motionTrigger .depart
              else if 0 < s.motion.ramp / 16 ∧ t.motion.ramp / 16 = 0 then turned.motionTrigger .arrive
              else turned)) ∧
      (s.motion.state = .idle ∨ s.motion.state = .moving → ¬supplied →
        t.motion.ramp = s.motion.ramp ∧ t.motion.rampSense = .steady ∧ t.motion.state = s.motion.state ∧
          t.sound = s.sound) ∧
      (s.motion.state.stopped = true ∨ s.motion.state.isCalibrating = true →
        t.motion.ramp = 0 ∧ t.motion.rampSense = .steady ∧ t.motion.state = s.motion.state ∧ t.sound = turned)

/-- The other stages of CONTROL_PERIOD: what is measured, the setpoint with the trim of R115, the regulator, the duty under
the duty cap and the current limit, the calibration's duty, timer and sums, the stall count, the labour level, the block's
age, the lights, a pending renegotiation at standstill, and what the period leaves alone. The trim goes by the v_r that this
period's ramp has formed and by the own load as last published: the model's choice (log 32). That the aspect stands at age
2000 and the fault is not yet latched at stall count 400: log 3. That a step recorded in BROKEN is lost in the renegotiation:
log 34, and that the watch marks stand in it: log 38; a newly lit output's flicker value of 0: log 25. -/
def Obligations.TheControlPeriodRegulatesTheMotor : Prop :=
  ∀ (s : State) (bemf : Fin 1024) (sum : Fin 94117), s.command.partMode ≠ .start →
    let filed : TxSlot := if s.air.statusSlot.requested then s.air.statusSlot else { requested := true, attempts := 0 }
    ∃ t : State, exec (.controlPeriod bemf sum) s = .next t ∧
      t = { s with
            air :=
              { s.air with
                joinSlot := t.air.joinSlot, statusSlot := t.air.statusSlot, statusTimer := t.air.statusTimer }
            command := { s.command with parkTimer := t.command.parkTimer, commandedStep := t.command.commandedStep }
            motion := t.motion, consist := t.consist, sound := t.sound, light := t.light } ∧
      (s.consist.state ≠ .broken ∨ s.consist.renegotiationPending = false ∨ 0 < t.motion.ramp / 16 →
        t.consist = s.consist ∧ t.air.joinSlot = s.air.joinSlot ∧
          t.command.commandedStep = s.command.commandedStep ∧ t.LightsFollow s.light ∧
          t.air.statusSlot = (if t.motion.travel = s.motion.travel then s.air.statusSlot else filed) ∧
          (t.motion.state = s.motion.state → (s.motion.ramp / 16 = 0 ↔ t.motion.ramp / 16 = 0) →
            t.air.statusTimer = s.air.statusTimer ∧ t.command.parkTimer = s.command.parkTimer) ∧
          (t.motion.state ≠ s.motion.state →
            t.air.statusTimer = s.air.statusTimer.map (fun n => min n t.statusInterval) ∧
              t.command.parkTimer
                = if s.command.partMode = .run ∧ t.motion.state = .idle ∧ s.consist.state = .solo ∧
                      s.settings.parkDelay ≠ 0 then
                    some (s.command.parkTimer.getD 0)
                  else none)) ∧
      (∀ m, s.consist.state = .broken → s.consist.renegotiationPending = true → s.consist.membership = some m →
        t.motion.ramp / 16 = 0 →
        t.consist
            = { s.consist with
                state := .ability
                membership :=
                  some { m with others := m.others.map fun o => { o with ability := none, ackHeard := false, timer := none } }
                common := none, renegotiationPending := false, negotiationTimer := some 5000, joinTimer := some 100 } ∧
          t.command.commandedStep = 0 ∧ t.air.joinSlot.requested = true ∧ t.air.statusSlot = filed ∧ t.LightsJudged) ∧
      t.motion.bemf = bemf.val ∧ t.motion.measuredSpeed = min 4095 (bemf.val * s.motion.inForce.kbs / 256) ∧
      t.motion.periodCurrent = sum.val / 92 ∧
      (t.motion.filteredCurrent : Int)
        = s.motion.filteredCurrent + Int.tdiv ((t.motion.periodCurrent : Int) - s.motion.filteredCurrent) 8 ∧
      t.motion.inForce = s.motion.inForce ∧ t.motion.write = s.motion.write ∧
      t.motion.calDefaultsInForce = s.motion.calDefaultsInForce ∧
      t.motion.block
        = { s.motion.block with
            age :=
              if s.motion.block.markerAddress.isSome = true then min 2000 (s.motion.block.age + 1)
              else s.motion.block.age } ∧
      (let own := s.motion.filteredCurrent / 4
        let others : List Nat :=
          s.consist.others.filterMap fun o =>
            (locoEntry o.address s.air.peers).bind fun e =>
              if e.statusAge.any (· < 10) = true then e.status.map (·.load) else none
        let shares := s.consist.state = .formed ∧ (∃ p, s.consist.common = some p ∧ p.loadShare = true) ∧ others ≠ []
        let mean := (own + others.sum) / (others.length + 1)
        let limit : Int := s.settings.trimMax
        let trim : Int :=
          if shares then max (-limit) (min (Int.tdiv (((mean : Int) - own) * s.settings.shareGain) 16) limit) else 0
        t.motion.setpoint
          = if t.motion.ramp / 16 = 0 then 0 else (max 0 (min (((t.motion.ramp / 16 : Nat) : Int) + trim) 4095)).toNat) ∧
      (let ceiling (x : Int) : Int :=
          if s.settings.currentLimit < t.motion.filteredCurrent then min x ((s.motion.duty - 16 : Nat) : Int) else x
        let e : Int := (t.motion.setpoint : Int) - t.motion.measuredSpeed
        let stopped := s.motion.state.stopped = true ∨ s.motion.state = .calibrating .store ∨
          (s.motion.state.isCalibrating = false ∧
            (s.supply.state = .hold ∨ s.supply.state = .settle ∨ t.motion.setpoint = 0))
        (stopped → t.motion.duty = 0 ∧ t.motion.integrator = 0) ∧
        (¬stopped → s.motion.state.isCalibrating = false →
          t.motion.integrator
              = (if (s.motion.duty = s.settings.dutyCap ∧ 0 < e) ∨ (s.motion.duty = 0 ∧ e < 0) then s.motion.integrator
                else max (-32768) (min (s.motion.integrator + e) 32767)) ∧
            (t.motion.duty : Int)
              = ceiling
                  (max 0
                    (min
                      (((t.motion.setpoint * s.motion.inForce.kff / 4096 : Nat) : Int)
                        + Int.tdiv (e * s.settings.kp) 64 + Int.tdiv (t.motion.integrator * s.settings.ki) 256)
                      s.settings.dutyCap))) ∧
        (∀ phase r, s.motion.state = .calibrating phase → phase ≠ .store → s.motion.calibration = some r →
          t.motion.integrator = 0 ∧ (t.motion.duty : Int) = ceiling (min (r.dcal : Int) s.settings.dutyCap))) ∧
      (s.motion.state.isCalibrating = false → t.motion.calibration = s.motion.calibration) ∧
      (∀ phase r, s.motion.state = .calibrating phase → s.motion.calibration = some r →
        t.motion.calibration
          = some
              (if r.phaseTimer = 0 then r
              else
                match phase with
                | .spinup => { r with phaseTimer := r.phaseTimer - 1 }
                | .measure =>
                  { r with
                    phaseTimer := r.phaseTimer - 1, bemfSum := r.bemfSum + bemf.val
                    wheelSum := r.wheelSum + s.beat.wheelSpeed
                    foldbackSeen := r.foldbackSeen || decide (t.motion.duty < r.dcal) }
                | .store => r)) ∧
      t.motion.stallCount
        = (if s.settings.stallDuty ≤ t.motion.duty ∧ t.motion.measuredSpeed < 40 then min 400 (s.motion.stallCount + 1)
          else 0) ∧
      let load := t.motion.filteredCurrent / 4
      let light := if s.motion.labour = .light then s.settings.lightThreshold + 8 else s.settings.lightThreshold
      t.motion.labour
        = (if t.motion.ramp / 16 = 0 ∨ t.motion.rampSense = .falling ∨ t.motion.duty = 0 then .coast
          else if load ≤ light then .light
          else if s.settings.heavyThreshold ≤ (if s.motion.labour = .heavy then load + 8 else load) then .heavy
          else .working)

/-- The own curve: 0 at step 0, P16 at step 96, P[k] at step 6k, and between them sixths rounded down; over non-decreasing
points every step from 1 to 96 lies between P0 and P16. -/
def Obligations.TheOwnCurveInterpolatesInSixths : Prop :=
  ∀ points : List Nat, points.length = 17 →
    ownCurve points 0 = 0 ∧ ownCurve points 96 = points.getD 16 0 ∧
      (∀ step, 0 < step → step < 96 → points.getD (step / 6) 0 ≤ points.getD (step / 6 + 1) 0 →
        (ownCurve points step : Int)
          = points.getD (step / 6) 0
            + ((points.getD (step / 6 + 1) 0 : Int) - points.getD (step / 6) 0) * (step % 6 : Nat) / 6) ∧
      (∀ k, 0 < k → k ≤ 16 → ownCurve points (6 * k) = points.getD k 0) ∧
      (points.Pairwise (· ≤ ·) → ∀ step, 1 ≤ step → step ≤ 96 →
        points.getD 0 0 ≤ ownCurve points step ∧ ownCurve points step ≤ points.getD 16 0)

/-- BLOCK_STALE: the aspect becomes UNKNOWN and STATUS is requested. STALL_LATCH and HARD_CURRENT_SAMPLE: FAULTED with
the duty, R and the integrator 0 and a calibration lost, from every motion state, the hard current in every part mode; a
sample below the limit does nothing. The labour level is COAST with the state, and the setpoint stands (log 26). That the
latching of a stall is a step of its own: log 3, log 13. -/
def Obligations.FaultsAndStaleBlocksAreJudged : Prop :=
  ∀ s : State,
    let requested := if s.air.statusSlot.requested then s.air.statusSlot else { requested := true, attempts := 0 }
    let faulted (cause : FaultCause) : MotionUnit :=
      { s.motion with
        state := .faulted cause, duty := 0, ramp := 0, integrator := 0, stallCount := 0, calibration := none
        labour := .coast }
    (2000 ≤ s.motion.block.age → s.motion.block.aspect ≠ .unknown →
      exec .blockStale s
        = .next
            { s with
              air := { s.air with statusSlot := requested }
              motion := { s.motion with block := { s.motion.block with aspect := .unknown } } }) ∧
    (400 ≤ s.motion.stallCount → s.motion.state ≠ .faulted .stall →
      ∃ t : State, exec .stallLatch s = .next t ∧
        t = { s with
              air := { s.air with statusSlot := requested, statusTimer := t.air.statusTimer }
              command := { s.command with parkTimer := none }
              motion := faulted .stall }) ∧
    ∀ sample : Fin 1024,
      (s.settings.hardCurrentLimit ≤ sample.val → s.motion.state ≠ .faulted .driveFault →
        ∃ t : State, exec (.hardCurrentSample sample) s = .next t ∧
          t = { s with
                air := { s.air with statusSlot := requested, statusTimer := t.air.statusTimer }
                command := { s.command with parkTimer := none }
                motion := faulted .driveFault }) ∧
      (sample.val < s.settings.hardCurrentLimit ∨ s.motion.state = .faulted .driveFault →
        exec (.hardCurrentSample sample) s = .next s)

/-- SPINUP_END begins MEASURE with 400 periods; MEASURE_END of a valid measurement begins STORE with the new values and
their write, and of an invalid one refuses the calibration, to IDLE at labour level COAST (log 26). That the end of a phase is
a step of its own: log 3. -/
def Obligations.CalibrationMeasuresAndStores : Prop :=
  ∀ (s : State) (r : CalRecord), s.motion.calibration = some r → r.phaseTimer = 0 →
    let bemf := r.bemfSum / 400
    let wheel := r.wheelSum / 400
    let values : CalValues :=
      { kbs := max 1 (min (wheel * 256 / bemf) 1024), kff := max 0 (min (r.dcal * 4096 / wheel) 4095) }
    (s.motion.state = .calibrating .spinup →
      exec .spinupEnd s
        = .next
            { s with
              motion :=
                { s.motion with state := .calibrating .measure, calibration := some { r with phaseTimer := 400 } } }) ∧
    (s.motion.state = .calibrating .measure →
      (0 < bemf ∧ 0 < wheel ∧ r.foldbackSeen = false →
        exec .measureEnd s
          = .next
              { s with
                motion :=
                  { s.motion with
                    state := .calibrating .store
                    calibration := some { r with newValues := some values }
                    duty := 0
                    write := .writing (calibrationRecord values) 20 } }) ∧
      (¬(0 < bemf ∧ 0 < wheel ∧ r.foldbackSeen = false) →
        ∃ t : State, exec .measureEnd s = .next t ∧
          t = { s with
                air := { s.air with statusSlot := t.air.statusSlot, statusTimer := t.air.statusTimer }
                command := { s.command with parkTimer := t.command.parkTimer }
                motion :=
                  { s.motion with
                    state := .idle, duty := 0, ramp := 0, integrator := 0, calibration := none, labour := .coast }
                latches := { s.latches with calRefused := true } } ∧
          t.air.statusSlot.requested = true))

/-- WRITE_COMPLETE in STORE brings the new values into force and ends the calibration; WRITE_TIMEOUT there refuses it
and restores the record of the values in force. Outside STORE a first write, completed or not, is followed by that
restoring write, and a restoring write, completed or not, ends. That the row stands for the 20 ms having passed: log 2; that
the labour level is COAST as the calibration ends: log 26; that a first write timed out outside STORE latches no CAL_REFUSED:
log 37. -/
def Obligations.WritesAdoptOrRestoreTheValues : Prop :=
  ∀ (s : State) (record : List Byte) (left : Nat),
    let ended : MotionUnit :=
      { s.motion with state := .idle, duty := 0, ramp := 0, integrator := 0, calibration := none, labour := .coast }
    let restoring : WriteState := .restoring (calibrationRecord s.motion.inForce) 20
    (s.motion.write = .restoring record left →
      exec .writeComplete s = .next { s with motion := { s.motion with write := .none } } ∧
        exec .writeTimeout s = .next { s with motion := { s.motion with write := .none } }) ∧
    (s.motion.write = .writing record left → s.motion.state ≠ .calibrating .store →
      exec .writeComplete s = .next { s with motion := { s.motion with write := restoring } } ∧
        exec .writeTimeout s = .next { s with motion := { s.motion with write := restoring } }) ∧
    (∀ r values, s.motion.write = .writing record left → s.motion.state = .calibrating .store →
      s.motion.calibration = some r → r.newValues = some values →
      (∃ t : State, exec .writeComplete s = .next t ∧
        t = { s with
              air := { s.air with statusSlot := t.air.statusSlot, statusTimer := t.air.statusTimer }
              command := { s.command with parkTimer := t.command.parkTimer }
              motion := { ended with inForce := values, calDefaultsInForce := false, write := .none } } ∧
        t.air.statusSlot.requested = true) ∧
      ∃ t : State, exec .writeTimeout s = .next t ∧
        t = { s with
              air := { s.air with statusSlot := t.air.statusSlot, statusTimer := t.air.statusTimer }
              command := { s.command with parkTimer := t.command.parkTimer }
              motion := { ended with write := restoring }
              latches := { s.latches with calRefused := true } } ∧
        t.air.statusSlot.requested = true)

/-! ### Beat Counter -/

/-- WHEEL_PULSE: none within 4 ms of the last accepted one; an accepted one is measured, and in EVENT mode lowers the
counter or, at 1, reloads it and emits a beat, while in FAULT it is judged for recovery. A fault, a recovery or a timed beat
that stands when the pulse comes takes effect before it. INTERVAL_TIMER_EXPIRY emits a timed beat and loads the interval
again where the timer that BEAT_MS_TICK lowers stands at 0 in INTERVAL mode at v_m of 8 or more, and changes nothing
otherwise. A beat is heard, puffs for 45 hundredths of the interval that ends with it, flares and advances the phase. That
fault, recovery and timed beat are steps of their own: log 3. -/
def Obligations.PulsesAndTimersEmitBeats : Prop :=
  ∀ s : State,
    let emitted (b : BeatCounter) (u : State) : Prop :=
      let interval : Option Nat :=
        if s.beat.beatAge.isSome = true then s.beat.beatAge.map (max 1) else s.beat.lastInterval
      let duty :=
        s.settings.fanPuff.getD
          (match s.motion.labour with
          | .coast => 0
          | .light => 1
          | .working => 2
          | .heavy => 3)
          0
      u = { s with
            beat :=
              { b with
                phase := (s.beat.phase + 1) % s.settings.beatsPerRevolution, beatAge := some 0, lastInterval := interval }
            sound := s.sound.beatTrigger s.motion.labour s.beat.phase
            smoke :=
              if s.smoke.state = .ready then
                { s.smoke with
                  puffDuty := duty, fanDuty := duty
                  puffTimer :=
                    some
                      (match interval with
                      | none => 60
                      | some n => max 1 (min 60 (n * 45 / 100))) }
              else s.smoke
            light :=
              { s.light with
                flareTimer :=
                  if s.motion.labour = .working ∨ s.motion.labour = .heavy then some 60 else s.light.flareTimer } }
    let found := s.beat.mode = .event ∧ s.beat.sensor = .ok ∧ 2000 ≤ s.beat.faultWatch
    let recovered := s.beat.sensor = .fault ∧ 8 ≤ s.beat.goodPulses
    let timedOut := s.beat.mode = .interval ∧ s.beat.intervalTimer = some 0 ∧ 8 ≤ s.motion.measuredSpeed
    let pulsed (b : BeatCounter) : Prop :=
      (s.beat.sensor = .fault →
        exec .wheelPulse s
          = .next
              { s with
                beat :=
                  { b with
                    goodPulses :=
                      if b.period.any (fun p => 4 ≤ p && p ≤ 2000) then min 8 (s.beat.goodPulses + 1) else 0 } }) ∧
      (s.beat.sensor = .ok → s.beat.mode = .interval → exec .wheelPulse s = .next { s with beat := b }) ∧
      (s.beat.sensor = .ok → s.beat.mode = .event → 1 < s.beat.counter →
        exec .wheelPulse s = .next { s with beat := { b with faultWatch := 0, counter := s.beat.counter - 1 } }) ∧
      (s.beat.sensor = .ok → s.beat.mode = .event → s.beat.counter ≤ 1 →
        ∃ u : State, exec .wheelPulse s = .next u ∧
          emitted { b with faultWatch := 0, counter := s.settings.preload } u)
    (s.command.partMode ≠ .start → s.settings.sensorFitted = true →
      (¬found → ¬recovered → ¬timedOut →
        (s.beat.lastPulse = none → pulsed { s.beat with lastPulse := some s.beat.now, pulseAge := 0 }) ∧
        ∀ last, s.beat.lastPulse = some last → last + 4 ≤ s.beat.now →
          let p := min 65535 (s.beat.now - last)
          pulsed
            { s.beat with
              lastPulse := some s.beat.now, pulseAge := 0, period := some p
              wheelSpeed := min 4095 (s.settings.pulseDistance * 200 / p) }) ∧
      (∀ last, s.beat.lastPulse = some last → s.beat.now < last + 4 → exec .wheelPulse s = .next s) ∧
      ((∀ last, s.beat.lastPulse = some last → last + 4 ≤ s.beat.now) →
        (found → ∃ u t : State, exec .sensorFault s = .next u ∧ exec .wheelPulse u = .next t ∧ exec .wheelPulse s = .next t) ∧
        (recovered →
          ∃ u t : State, exec .sensorRecovery s = .next u ∧ exec .wheelPulse u = .next t ∧ exec .wheelPulse s = .next t) ∧
        (timedOut → ¬recovered →
          ∃ u t : State,
            exec .intervalTimerExpiry s = .next u ∧ exec .wheelPulse u = .next t ∧ exec .wheelPulse s = .next t))) ∧
    (s.command.partMode = .start ∨ s.settings.sensorFitted = false → exec .wheelPulse s = .next s) ∧
    (timedOut →
      ∃ u : State, exec .intervalTimerExpiry s = .next u ∧
        emitted
          { s.beat with
            intervalTimer := some (max 20 (min (s.settings.beatConstant * 16 / s.motion.measuredSpeed) 2000)) }
          u) ∧
    (¬timedOut → exec .intervalTimerExpiry s = .next s)

/-- SENSOR_FAULT and SENSOR_RECOVERY: status and mode, the latch, the timed beats, an aborted calibration and a STATUS
request; the phase stands through both. BEAT_MS_TICK: the ages, the fault watch and the interval timer of one
millisecond: in INTERVAL mode a stopped timer starts at v_m of 8 or more, from v_m, and stops below 8 (R88, R89). That fault
and recovery are steps of their own: log 3; the labour level COAST of the aborted calibration: log 26. -/
def Obligations.TheWheelSensorIsWatchedAndRecovers : Prop :=
  ∀ s : State,
    (s.beat.mode = .event → s.beat.sensor = .ok → 2000 ≤ s.beat.faultWatch → 0 < s.motion.measuredSpeed →
      ∃ t : State, exec .sensorFault s = .next t ∧
        t = { s with
              air := { s.air with statusSlot := t.air.statusSlot, statusTimer := t.air.statusTimer }
              command := { s.command with parkTimer := t.command.parkTimer }
              motion :=
                if s.motion.state.isCalibrating = true then
                  { s.motion with
                    state := .idle, duty := 0, ramp := 0, integrator := 0, calibration := none, labour := .coast }
                else s.motion
              beat :=
                { s.beat with
                  sensor := .fault, mode := .interval, faultWatch := 0, goodPulses := 0
                  intervalTimer := some (max 20 (min (s.settings.beatConstant * 16 / s.motion.measuredSpeed) 2000)) }
              latches := { s.latches with sensorFault := true } } ∧
        t.air.statusSlot.requested = true) ∧
    (s.beat.sensor = .fault → 8 ≤ s.beat.goodPulses →
      exec .sensorRecovery s
        = .next
            { s with
              air :=
                { s.air with
                  statusSlot :=
                    if s.air.statusSlot.requested then s.air.statusSlot else { requested := true, attempts := 0 } }
              beat :=
                { s.beat with
                  sensor := .ok, mode := .event, counter := s.settings.preload, intervalTimer := none, faultWatch := 0,
                  goodPulses := 0 } }) ∧
    ∃ t : State, exec .beatMsTick s = .next t ∧
      t = { s with
            beat :=
              { s.beat with
                now := s.beat.now + 1
                beatAge := s.beat.beatAge.map fun n => min 65535 (n + 1)
                pulseAge := if s.beat.lastPulse.isSome = true then min 65535 (s.beat.pulseAge + 1) else s.beat.pulseAge
                wheelSpeed := t.beat.wheelSpeed, faultWatch := t.beat.faultWatch
                intervalTimer := t.beat.intervalTimer } } ∧
      (s.beat.lastPulse.isSome = true → t.beat.pulseAge = 65535 → t.beat.wheelSpeed = 0) ∧
      (s.beat.lastPulse.isSome = true → t.beat.pulseAge < 65535 → ∀ p, s.beat.period = some p →
        t.beat.wheelSpeed
          = if p < t.beat.pulseAge then min 4095 (s.settings.pulseDistance * 200 / t.beat.pulseAge)
            else s.beat.wheelSpeed) ∧
      (s.beat.lastPulse = none ∨ (t.beat.pulseAge < 65535 ∧ s.beat.period = none) →
        t.beat.wheelSpeed = s.beat.wheelSpeed) ∧
      (s.command.partMode = .start →
        t.beat.faultWatch = s.beat.faultWatch ∧ t.beat.intervalTimer = s.beat.intervalTimer) ∧
      (s.command.partMode ≠ .start →
        t.beat.faultWatch
            = (if s.beat.mode = .event ∧ s.beat.sensor = .ok ∧ 200 ≤ s.motion.measuredSpeed then
                min 2000 (s.beat.faultWatch + 1)
              else 0) ∧
          (s.beat.mode = .event ∨ s.motion.measuredSpeed < 8 → t.beat.intervalTimer = none) ∧
          (s.beat.mode = .interval → 8 ≤ s.motion.measuredSpeed → s.beat.intervalTimer = none →
            t.beat.intervalTimer = some (max 20 (min (s.settings.beatConstant * 16 / s.motion.measuredSpeed) 2000))) ∧
          (s.beat.mode = .interval → 8 ≤ s.motion.measuredSpeed → ∀ n, s.beat.intervalTimer = some n →
            t.beat.intervalTimer = some (n - 1)))

/-! ### Sound Engine -/

/-- OUTPUT_SAMPLE. The mixer's value goes out: 0 while muted, else the scaled sum of what the playing voices contribute,
saturated to 12 bits. Every playing voice takes its sample, muted or not. One that takes the last of its half goes on with
the other half where that is READY, is in underrun where a fill for it is in flight or is still to come, and has else come to
the end of its program. A voice without a PLAYING half stands. Each underrun that begins is counted. Only the engine's voices
and output and the SOUND_UNDERRUN counter change. That next-play then names the half that plays, and not the one after it:
log 39. -/
def Obligations.TheMixerSaturatesAndMutes : Prop :=
  ∀ s : State,
    let playing (v : Voice) : Option HalfId :=
      if v.half0.state = .playing then some .h0 else if v.half1.state = .playing then some .h1 else none
    let product (v : Voice) : Int :=
      match playing v, v.current with
      | some id, some cur =>
        ((v.half id).samples.getD (cur.offset - (v.half id).offset) 0#8).toInt *
          (((lookupProgram s.sound.programs cur.program).map (·.gain)).getD 0 : Nat)
      | _, _ => 0
    let level := if 2 ≤ s.supply.shedLevel then s.settings.masterLevel - 4 else s.settings.masterLevel
    let total : Int := (s.sound.voices.map fun v => product v * (s.sound.volumeCurve.getD level 0 : Int)).sum
    let last (v : Voice) (id : HalfId) (cur : Playing) : Prop := (v.half id).offset + (v.half id).count ≤ cur.offset + 1
    let awaited (k : Nat) (v : Voice) (id : HalfId) : Prop :=
      (v.half id.other).state = .filling ∧ s.sound.reader.any (fun f => f.voice = k ∧ f.tag = v.generation) = true
    let starved (k : Nat) (v : Voice) : Prop :=
      ∃ id cur, playing v = some id ∧ v.current = some cur ∧ last v id cur ∧ (v.half id.other).state ≠ .ready ∧
        (awaited k v id ∨ v.cursor ≠ .ended)
    ∃ t : State, exec .outputSample s = .next t ∧
      t = { s with
            sound := { s.sound with output := t.sound.output, voices := t.sound.voices }
            counters := { s.counters with soundUnderrun := t.counters.soundUnderrun } } ∧
      (3 ≤ s.supply.shedLevel ∨ s.soundOnLevel = false ∨ s.command.partMode = .start → t.sound.output = 0) ∧
      (s.supply.shedLevel < 3 → s.soundOnLevel = true → s.command.partMode ≠ .start →
        t.sound.output = max (-2048) (min (Int.tdiv total 4096) 2047)) ∧
      (∃ dry : List Bool, dry.length = s.sound.voices.length ∧
        (∀ k v, s.sound.voices[k]? = some v → (dry[k]? = some true ↔ starved k v)) ∧
        t.counters.soundUnderrun = min 255 (s.counters.soundUnderrun + dry.count true)) ∧
      t.sound.voices.length = s.sound.voices.length ∧
      ∀ k v, s.sound.voices[k]? = some v →
        ∃ w, t.sound.voices[k]? = some w ∧
          (playing v = none ∨ v.current = none → w = v) ∧
          ∀ id cur, playing v = some id → v.current = some cur →
            let emptied (next : Playing) : Voice :=
              { v.setHalf id { state := .empty, segment := .attack, offset := 0, count := 0, samples := [] } with
                nextPlay := id.other, current := some next }
            let other := v.half id.other
            (¬last v id cur → w = { v with current := some { cur with offset := cur.offset + 1 } }) ∧
            (last v id cur → other.state = .ready →
              w = (emptied { cur with segment := other.segment, offset := other.offset }).setHalf id.other
                    { other with state := .playing }) ∧
            (last v id cur → other.state ≠ .ready → awaited k v id →
              w = emptied { cur with segment := other.segment, offset := other.offset }) ∧
            (last v id cur → other.state ≠ .ready → ¬awaited k v id →
              (∀ segment offset, v.cursor = .fetch segment offset →
                w = emptied { cur with segment := segment, offset := offset }) ∧
              (v.cursor = .ended → Voice.Ends s.sound.programs (emptied cur) w))

/-- FILL_GRANT: with the reader free, the eligible voice with the fewest samples left, the lowest-numbered of several,
is granted up to 64 samples of its cursor's segment into its next-fill half, and its cursor moves past them: at the end of the
attack to the body, at the end of a body that repeats to its start and of one that does not to the release, or to the end where
there is none, and at the end of the release to the end. With the reader busy or no voice eligible nothing happens.
FILL_COMPLETE frees the reader: a stale tag empties the half, a current one keeps the samples, and where the voice has no
PLAYING half the half plays from its first sample on. Samples that a store does not return are free values: log 17; that
next-play stands as a half begins to play: log 39. -/
def Obligations.TheReaderFillsTheHungriestVoice : Prop :=
  ∀ s : State,
    (s.sound.reader.isSome = true ∨ (∀ v ∈ s.sound.voices, v.eligible = false) → exec .fillGrant s = .next s) ∧
    (∀ (k : Nat) (v : Voice) (cur : Playing) (p : Program) (segment : Segment) (offset : Nat),
      s.sound.reader = none → s.sound.voices[k]? = some v → v.eligible = true →
      (∀ j w, s.sound.voices[j]? = some w → w.eligible = true →
        v.samplesLeft < w.samplesLeft ∨ (v.samplesLeft = w.samplesLeft ∧ k ≤ j)) →
      v.current = some cur → lookupProgram s.sound.programs cur.program = some p → v.cursor = .fetch segment offset →
      let length : Nat :=
        match segment with
        | .attack => (p.attack.map (·.length)).getD 0
        | .body => p.body.length
        | .release => (p.release.map (·.length)).getD 0
      let granted : HalfBuffer :=
        { state := .filling, segment := segment, offset := offset, count := min 64 (length - offset), samples := [] }
      let next : Cursor :=
        match segment with
        | .attack => .fetch .body 0
        | .body =>
          if v.repeating = true then .fetch .body 0
          else if p.release.isSome = true then .fetch .release 0
          else .ended
        | .release => .ended
      ∃ t : State, exec .fillGrant s = .next t ∧
        t = { s with
              sound :=
                { s.sound with
                  voices := t.sound.voices, reader := some { voice := k, half := v.nextFill, tag := v.generation } } } ∧
        (∀ j, j ≠ k → t.sound.voices[j]? = s.sound.voices[j]?) ∧
        t.sound.voices[k]?
          = some
              { v.setHalf v.nextFill granted with
                nextFill := v.nextFill.other
                cursor := if offset + 64 < length then .fetch segment (offset + 64) else next }) ∧
    ∀ (samples : List Byte) (f : Fill) (v : Voice), s.sound.reader = some f → s.sound.voices[f.voice]? = some v →
      let h := v.half f.half
      ∃ t : State, exec (.fillComplete samples) s = .next t ∧
        t = { s with sound := { s.sound with voices := t.sound.voices, reader := none, unread := t.sound.unread } } ∧
        (∀ j, j ≠ f.voice → t.sound.voices[j]? = s.sound.voices[j]?) ∧
        (f.tag ≠ v.generation →
          t.sound.voices[f.voice]? = some (v.setHalf f.half HalfBuffer.empty) ∧ t.sound.unread = s.sound.unread) ∧
        (f.tag = v.generation →
          ∃ bytes : List Byte, bytes.length = h.count ∧ bytes.take samples.length = samples.take h.count ∧
            t.sound.unread = s.sound.unread + (h.count - samples.length) ∧
            t.sound.voices[f.voice]?
              = some
                  (if v.isPlaying = true then v.setHalf f.half { h with state := .ready, samples := bytes }
                  else
                    { v.setHalf f.half { h with state := .playing, samples := bytes } with
                      priming := false
                      current := v.current.map fun cur => { cur with segment := h.segment, offset := h.offset } }))

/-- A trigger of an enabled program is judged by its voice by the first row that applies; the other voices stand, and a
disabled program starts nothing. A beat triggers the program of its labour level and phase, a motion event that of its entry.
Letting go of a program takes it wherever it stands on its voice: a LOOP that plays no longer repeats and goes on at its
release, one on the stack has its release due, a trigger that waits for it is discarded, and a voice with nothing left to play
ends its program. Parking stops the first three voices with their stacks and pending triggers, and lets go of the ambient
program. That a ONESHOT program's pending trigger goes too: log 33; that only the cursor moves: log 35; that a voice that primes
does not end though nothing is left for it: log 10; the priming of a voice that falls IDLE: log 21. -/
def Obligations.TriggersAreJudgedByTheirVoice : Prop :=
  ∀ (e : SoundEngine) (n : Nat) (origin : TriggerOrigin),
    (∀ (labour : LabourLevel) (phase : Nat),
      e.beatTrigger labour phase
        = e.trigger
            (e.beatTable.getD
              ((match labour with
                | .coast => 0
                | .light => 4
                | .working => 8
                | .heavy => 12) + phase)
              none)
            .beat) ∧
    e.motionTrigger .depart = e.trigger (e.motionTable.getD 0 none) .motion ∧
    e.motionTrigger .arrive = e.trigger (e.motionTable.getD 1 none) .motion ∧
    e.motionTrigger .reverse = e.trigger (e.motionTable.getD 2 none) .motion ∧
    e.motionTrigger .eStop = e.trigger (e.motionTable.getD 3 none) .motion ∧
    (let stops (v : Voice) : Voice :=
        { v with
          stack := [], pending := none, current := none
          repeating := v.repeating && v.current.isNone
          letGo := v.letGo && v.current.isNone
          priming := v.priming && v.current.isNone
          cursor := if v.current.isSome = true then .ended else v.cursor
          generation := if v.current.isSome = true then (v.generation + 1) % 65536 else v.generation
          half0 :=
            if v.current.isSome = true ∧ (v.half0.state = .ready ∨ v.half0.state = .playing) then HalfBuffer.empty
            else v.half0
          half1 :=
            if v.current.isSome = true ∧ (v.half1.state = .ready ∨ v.half1.state = .playing) then HalfBuffer.empty
            else v.half1 }
      let stopped : SoundEngine := { e with voices := e.voices.mapIdx fun k v => if k < 3 then stops v else v }
      e.park = stopped.letGo e.ambient) ∧
    e.trigger none origin = e ∧ e.letGo none = e ∧
    (lookupProgram e.programs n = none → e.trigger (some n) origin = e ∧ e.letGo (some n) = e) ∧
    ∀ (p : Program) (v : Voice), lookupProgram e.programs n = some p → e.voices[p.voice]? = some v →
      let e' := e.trigger (some n) origin
      let t : Trigger := { program := n, priority := p.priority, origin := origin }
      let started (w : Voice) : Prop :=
        w.current = some { program := n, mask := p.priority, segment := p.firstSegment, offset := 0 } ∧
          w.cursor = .fetch p.firstSegment 0 ∧ w.pending = v.pending ∧
          (w.repeating = true ↔ p.loop = true ∧ (origin = .function ∨ origin = .ambient)) ∧ v.Renewed w
      let held (w : Voice) : Prop :=
        (v.pending = none ∨ (∃ h, v.pending = some h ∧ h.priority ≤ p.priority) → w = { v with pending := some t }) ∧
          ((∃ h, v.pending = some h ∧ p.priority < h.priority) → w = v)
      let loops := ∃ cur, v.current = some cur ∧ cur.program = n ∧ p.loop = true ∧ v.repeating = true
      (e' = { e with voices := e'.voices } ∧ (∀ j, j ≠ p.voice → e'.voices[j]? = e.voices[j]?) ∧
        ∃ w, e'.voices[p.voice]? = some w ∧
          (v.current = none → started w ∧ w.stack = v.stack) ∧
          ∀ cur, v.current = some cur →
            (cur.mask < p.priority → v.stack.length < 2 →
              started w ∧
                w.stack
                  = { program := cur.program, segment := cur.segment, offset := cur.offset, mask := cur.mask,
                      repeating := v.repeating, releaseDue := v.letGo && decide (cur.segment ≠ .release) } :: v.stack) ∧
            (cur.mask < p.priority → 2 ≤ v.stack.length → held w) ∧
            (p.priority ≤ cur.mask → cur.program = n → p.loop = true → v.repeating = true → w = v) ∧
            (p.priority ≤ cur.mask → cur.program = n → ¬(p.loop = true ∧ v.repeating = true) → origin = .beat →
              started w ∧ w.stack = v.stack) ∧
            (p.priority ≤ cur.mask → cur.program ≠ n ∨ (¬(p.loop = true ∧ v.repeating = true) ∧ origin ≠ .beat) → held w)) ∧
      let gone := e.letGo (some n)
      let released : Voice :=
        { v with
          stack :=
            v.stack.map fun r =>
              if r.program = n ∧ r.repeating = true then { r with repeating := false, releaseDue := true } else r
          pending := v.pending.filter fun t => decide (t.program ≠ n) }
      gone = { e with voices := gone.voices } ∧ (∀ j, j ≠ p.voice → gone.voices[j]? = e.voices[j]?) ∧
        ∃ r w, gone.voices[p.voice]? = some w ∧ (¬loops → r = released) ∧
          (loops →
            r = { released with
                  repeating := false, letGo := true
                  cursor :=
                    match v.cursor with
                    | .fetch .release offset => .fetch .release offset
                    | .ended => .ended
                    | _ => if p.release.isSome = true then .fetch .release 0 else .ended }) ∧
          let ends :=
            r.current.isSome = true ∧ r.cursor = .ended ∧ r.priming = false ∧
              r.half0.state ≠ .playing ∧ r.half1.state ≠ .playing ∧ r.half0.state ≠ .ready ∧ r.half1.state ≠ .ready ∧
              ∀ f, e.reader = some f → f.voice = p.voice → f.tag ≠ r.generation
          (ends → Voice.Ends e.programs r w) ∧ (¬ends → w = r)

/-! ### Smoke Controller -/

/-- SMOKE_SAMPLE: the temperature by interpolation and the dry-rate window; an open sensor, a dry element or an
over-temperature stops the heating and latches SMOKE_FAULT, and otherwise the heater switches on 5 degrees below the target
and off above it, READY beginning at the first of these. The target of a standing locomotive is the idle one. -/
def Obligations.SmokeSamplesSwitchAndProtect : Prop :=
  ∀ (s : State) (reading : Fin 1024), s.command.partMode ≠ .start →
    let k := reading.val / 128
    let point (i : Nat) : Int := s.settings.temperatureTable.getD i 0
    let temperature : Nat :=
      (point k + Int.tdiv ((point (k + 1) - point k) * ((reading.val : Int) - 128 * k)) 128).toNat
    let heats := s.smoke.state = .heating ∨ s.smoke.state = .ready
    let unsound := reading.val ≤ 3 ∨ 1020 ≤ reading.val
    let target : Int :=
      if s.motion.labour = .working ∨ s.motion.labour = .heavy then s.settings.tWork else s.settings.tIdle
    let longer := s.smoke.dryWindow ++ [temperature]
    let window := if s.smoke.heater then (if longer.length = 12 then longer.tail else longer) else []
    let hot := s.settings.tMax < temperature ∨ (window.length = 11 ∧ window.headD 0 + 15 < window.getLastD 0)
    let warm := s.smoke.state = .heating ∧ target - 5 ≤ temperature
    let stopped : SmokeController :=
      { s.smoke with
        temperature := temperature, heater := false, heatUpTimer := none, puffTimer := none, dryWindow := [] }
    (s.MotionSound → s.motion.rampedSpeed = 0 → target = s.settings.tIdle) ∧
    (unsound → heats ∨ s.smoke.state = .shed →
      ∃ t : State, exec (.smokeSample reading) s = .next t ∧
        t = { s with
              air := { s.air with statusSlot := t.air.statusSlot }
              smoke := { stopped with state := .fault, fanDuty := 0 }
              latches := { s.latches with smokeFault := true } } ∧
        t.air.statusSlot.requested = true) ∧
    (¬unsound → heats → hot →
      ∃ t : State, exec (.smokeSample reading) s = .next t ∧
        t = { s with
              air := { s.air with statusSlot := t.air.statusSlot }
              smoke := { stopped with state := .purge, fanDuty := 600, purgeTimer := some 10000 }
              latches := { s.latches with smokeFault := true } } ∧
        t.air.statusSlot.requested = true) ∧
    (¬unsound → heats → ¬hot →
      exec (.smokeSample reading) s
        = .next
            { s with
              smoke :=
                { s.smoke with
                  temperature := temperature
                  dryWindow := window
                  state := if warm then .ready else s.smoke.state
                  heatUpTimer := if warm then none else s.smoke.heatUpTimer
                  fanDuty := if warm then s.settings.fanIdle else s.smoke.fanDuty
                  heater :=
                    if (temperature : Int) < target - 5 then true
                    else if target < temperature then false
                    else s.smoke.heater } }) ∧
    (¬heats → ¬unsound ∨ s.smoke.state ≠ .shed →
      exec (.smokeSample reading) s
        = .next { s with smoke := { s.smoke with temperature := temperature, dryWindow := window } })

/-- HEAT_UP_TIMEOUT purges; PURGE_END leaves FAULT with smoke still asked for and OFF without; PUFF_END returns the fan
to its idle duty. That a row stands for its timer having run out: log 2. -/
def Obligations.SmokeTimersPurgeAndPuff : Prop :=
  ∀ s : State,
    (s.smoke.state = .heating → s.smoke.heatUpTimer.isSome = true →
      ∃ t : State, exec .heatUpTimeout s = .next t ∧
        t = { s with
              air := { s.air with statusSlot := t.air.statusSlot }
              smoke :=
                { s.smoke with
                  state := .purge, heater := false, fanDuty := 600, heatUpTimer := none, puffTimer := none,
                  dryWindow := [], purgeTimer := some 10000 }
              latches := { s.latches with smokeFault := true } } ∧
        t.air.statusSlot.requested = true) ∧
    (s.smoke.state = .purge → s.smoke.purgeTimer.isSome = true →
      (s.smokeEnableLevel = true →
        exec .purgeEnd s
          = .next { s with smoke := { s.smoke with state := .fault, fanDuty := 0, purgeTimer := none } }) ∧
      (s.smokeEnableLevel = false →
        exec .purgeEnd s
          = .next
              { s with
                air :=
                  { s.air with
                    statusSlot :=
                      if s.air.statusSlot.requested then s.air.statusSlot else { requested := true, attempts := 0 } }
                smoke := { s.smoke with state := .off, fanDuty := 0, purgeTimer := none } })) ∧
    (s.smoke.state = .ready → s.smoke.puffTimer.isSome = true →
      exec .puffEnd s = .next { s with smoke := { s.smoke with puffTimer := none, fanDuty := s.settings.fanIdle } })

/-! ### Light Controller -/

/-- Which outputs are lit and at what base level, by function, travel, role, shed level and parking. LIGHT_MS_TICK: every lit
output's applied level by its effect, and the timers of one millisecond; the FLICKER outputs at position 0 draw in ascending
number, each taking the next number of the register. FLARE_END takes the raise from the lit FLICKER outputs where the flare
timer, which the tick lowers, stands at 0, and changes nothing otherwise. Only the Light Controller changes. Effect timers
are kept as positions and move on after the level is computed: log 22, log 23. -/
def Obligations.LightEffectsFollowTheirCycles : Prop :=
  ∀ s : State,
    let grouped := s.consist.state = .formed ∨ s.consist.state = .broken
    let role := s.consist.membership.map (·.role)
    let parked := s.command.partMode = .parked
    let draws (k : Nat) : Nat :=
      ((List.range k).filter fun j =>
        decide ((s.outputRecord j).effect = .flicker ∧ (s.light.outputs[j]?).bind (·.effectTimer) = some 0)).length
    let register (n : Nat) : Nat := Nat.repeat (fun value => value * 75 % 65537) n s.light.randomRegister
    (∀ k,
      let o := s.outputRecord k
      (s.isLit k = true ↔
        s.lightsFunctionLevel k = true ∧ s.supply.shedLevel < 4 ∧ (s.supply.shedLevel < 3 ∨ o.essential = true) ∧
          ¬(parked ∧ o.parkRule = .off) ∧ (o.directionRule = .forward → s.motion.travel = .forward) ∧
          (o.directionRule = .reverse → s.motion.travel = .reverse) ∧
          (o.roleRule = .leadOnly → grouped ∧ role = some .lead) ∧
          (o.roleRule = .tailOnly → grouped ∧ role = some .tail) ∧ (o.roleRule = .notInConsist → ¬grouped)) ∧
      s.baseLevel k
        = if s.dimLevel = true ∨ 3 ≤ s.supply.shedLevel ∨ (parked ∧ o.parkRule = .dim) then o.dimLevel else o.level) ∧
    (∃ t : State, exec .lightMsTick s = .next t ∧
      t = { s with
            light :=
              { outputs := t.light.outputs
                ditchTimers := s.light.ditchTimers.map fun n => n.map fun n => (n + 1) % 1000
                flareTimer := s.light.flareTimer.map (· - 1)
                randomRegister := register (draws s.light.outputs.length) } } ∧
      t.light.outputs.length = s.light.outputs.length ∧
      (1 ≤ s.light.randomRegister → s.light.randomRegister ≤ 65536 →
        1 ≤ t.light.randomRegister ∧ t.light.randomRegister ≤ 65536) ∧
      ∀ k o, s.light.outputs[k]? = some o →
        ∃ o', t.light.outputs[k]? = some o' ∧ o'.lit = o.lit ∧ (o.effectTimer = none → o' = o) ∧
          ∀ n, o.effectTimer = some n →
            let base := s.baseLevel k
            let dim := (s.outputRecord k).dimLevel
            let ditch := ((s.light.ditchTimers.getD (k / 2) none).getD 0)
            o'.effectTimer = some ((n + 1) % (s.outputRecord k).effect.cycle) ∧
            ((s.outputRecord k).effect ≠ .flicker → o'.flicker = o.flicker) ∧
            ((s.outputRecord k).effect = .steady → o'.applied = base) ∧
            ((s.outputRecord k).effect = .pulse → n < 1000 → o'.applied = base * n / 1000) ∧
            ((s.outputRecord k).effect = .pulse → 1000 ≤ n → o'.applied = base * (2000 - n) / 1000) ∧
            ((s.outputRecord k).effect = .strobe →
              o'.applied = if n < 30 ∨ (100 ≤ n ∧ n < 130) then base else 0) ∧
            ((s.outputRecord k).effect = .mars → n < 1000 →
              (o'.applied : Int)
                = dim + Int.tdiv (((base : Int) - dim) * (if n < 500 then (n : Int) else 1000 - n)) 500) ∧
            ((s.outputRecord k).effect = .ditch → k % 2 = 0 → o'.applied = if ditch < 500 then base else 0) ∧
            ((s.outputRecord k).effect = .ditch → k % 2 = 1 → o'.applied = if ditch < 500 then 0 else base) ∧
            ((s.outputRecord k).effect = .flicker →
              o'.flicker = (if n = 0 then base - register (draws k + 1) % (base / 4 + 1) else o.flicker) ∧
              base - base / 4 ≤ base - register (draws k + 1) % (base / 4 + 1) ∧
              o'.applied
                = if s.light.flareTimer.any (0 < ·) = true ∧ s.supply.shedLevel < 3 then min 255 (o'.flicker + 64)
                  else o'.flicker)) ∧
    (s.light.flareTimer ≠ some 0 → exec .flareEnd s = .next s) ∧
    (s.light.flareTimer = some 0 →
      ∃ t : State, exec .flareEnd s = .next t ∧
        t = { s with light := { s.light with flareTimer := none, outputs := t.light.outputs } } ∧
        t.light.outputs.length = s.light.outputs.length ∧
        ∀ k o, s.light.outputs[k]? = some o →
          t.light.outputs[k]?
            = some
                (if o.lit = true ∧ (s.outputRecord k).effect = .flicker then { o with applied := o.flicker } else o))

/-! ### Supply Monitor -/

/-- SUPPLY_SAMPLE in the part modes RUN and PARKED: the low and good counts, and in DROPOUT the ladder, whose level 4 enters
HOLD with the drive off, I at 0, labour COAST (log 26), a calibration aborted and 3 s on the hold timer. A changed level, 4
as any other, requests STATUS, takes smoke that heats to SHED, with the fan at its idle duty at level 1 and off above it,
takes smoke that was shed back to HEATING at level 0, and judges the lights again; an unchanged one leaves them. In START a
sample counts toward the start-up. That the ladder is judged before a return of the pickup at the same sample is taken: log
12; that a count which reaches its limit only counts, its event being a step of its own: log 3; a newly lit output's flicker
value of 0: log 25. -/
def Obligations.SupplySamplesCountAndShed : Prop :=
  ∀ (s : State) (vin vres : Fin 256),
    let counted : SupplyMonitor :=
      { s.supply with
        vin := vin.val, vres := vres.val
        lowCount := if vin.val < 80 then min 2 (s.supply.lowCount + 1) else 0
        goodCount := if 100 ≤ vin.val then min 20 (s.supply.goodCount + 1) else 0 }
    let below (n : Nat) : Nat := if vres.val < n then 1 else 0
    let rises := below s.settings.s1 + below s.settings.s2 + below s.settings.s3 + below 65
    let falls := below (s.settings.s1 + 3) + below (s.settings.s2 + 3) + below (s.settings.s3 + 3)
    let level :=
      if s.supply.shedLevel < rises then rises else if falls < s.supply.shedLevel then falls else s.supply.shedLevel
    let moved := level ≠ s.supply.shedLevel
    let aborts := s.motion.state.isCalibrating = true
    let filed : TxSlot := if s.air.statusSlot.requested then s.air.statusSlot else { requested := true, attempts := 0 }
    (s.command.partMode = .start →
      exec (.supplySample vin vres) s
        = .next
            { s with
              supply :=
                { s.supply with
                  vin := vin.val, vres := vres.val
                  startCount := if 100 ≤ vin.val then min 100 (s.supply.startCount + 1) else 0
                  state := if 100 ≤ vin.val then s.supply.state else .settle } }) ∧
    (s.command.partMode ≠ .start → s.supply.state ≠ .dropout →
      exec (.supplySample vin vres) s = .next { s with supply := counted }) ∧
    (s.command.partMode ≠ .start → s.supply.state = .dropout →
      ∃ t : State, exec (.supplySample vin vres) s = .next t ∧
        (level ≠ 4 →
          t = { s with
                air := { s.air with statusSlot := if moved then filed else s.air.statusSlot }
                smoke := t.smoke, light := t.light, supply := { counted with shedLevel := level } }) ∧
        (level = 4 →
          t = { s with
                air :=
                  { s.air with
                    statusSlot := if moved ∨ aborts then filed else s.air.statusSlot
                    statusTimer :=
                      if aborts then
                        s.air.statusTimer.map fun n =>
                          min n
                            (if s.command.partMode = .parked then 5000
                            else if s.consist.state ≠ .solo then 200
                            else 1000)
                      else s.air.statusTimer }
                command :=
                  { s.command with
                    parkTimer :=
                      if aborts then
                        (if s.command.partMode = .run ∧ s.consist.state = .solo ∧ s.settings.parkDelay ≠ 0 then
                          some (s.command.parkTimer.getD 0)
                        else none)
                      else s.command.parkTimer }
                motion :=
                  if aborts then
                    { s.motion with
                      state := .idle, duty := 0, ramp := 0, integrator := 0, calibration := none, labour := .coast }
                  else { s.motion with duty := 0, integrator := 0, labour := .coast }
                smoke := t.smoke, light := t.light
                supply := { counted with shedLevel := 4, state := .hold, holdTimer := some 3000 } }) ∧
        (¬moved → t.smoke = s.smoke ∧ t.light = s.light) ∧
        (moved → t.smoke = s.smoke.underShed s.settings.fanIdle level ∧ t.LightsFollow s.light))

/-- DROPOUT_DETECTED, PICKUP_RETURN, HOLD_END, SETTLE_END and STEP_DOWN_EXPIRY: the supply state, its timers and the
shed level, smoke and lights under the level as it moves, the count of dropouts, a calibration aborted as NORMAL is left, the
re-seated ramp as SETTLE ends, and a negotiation that waited for NORMAL. Level 4 is HOLD, with the drive off, I at 0 and
labour COAST (log 26). That a row stands for its timer having run out: log 2; that the counted events are steps of their
own: log 3; a newly lit output's flicker value of 0: log 25. -/
def Obligations.TheSupplyFallsAndReturns : Prop :=
  ∀ s : State,
    let below (n : Nat) : Nat := if s.supply.vres < n then 1 else 0
    let rises := below s.settings.s1 + below s.settings.s2 + below s.settings.s3 + below 65
    let falls := below (s.settings.s1 + 3) + below (s.settings.s2 + 3) + below (s.settings.s3 + 3)
    let level :=
      if s.supply.shedLevel < rises then rises else if falls < s.supply.shedLevel then falls else s.supply.shedLevel
    let stepDown : Option Nat := if 0 < s.supply.shedLevel then some 200 else none
    let aborted : MotionUnit :=
      { s.motion with state := .idle, duty := 0, ramp := 0, integrator := 0, calibration := none, labour := .coast }
    let shed (t : State) (level : Nat) : Prop :=
      (level = s.supply.shedLevel → t.smoke = s.smoke ∧ t.light = s.light) ∧
        (level ≠ s.supply.shedLevel →
          t.smoke = s.smoke.underShed s.settings.fanIdle level ∧ t.LightsFollow s.light ∧
            t.air.statusSlot.requested = true)
    let waits := s.consist.state = .ability ∧ s.consist.negotiationTimer = none
    let resumed (t : State) : Prop :=
      (¬waits → t.consist = s.consist ∧ t.air = s.air) ∧
        (waits → (∃ o ∈ s.consist.others, o.ability = none) →
          t.consist = { s.consist with negotiationTimer := some 5000, joinTimer := some 100 } ∧
            t.air.joinSlot.requested = true)
    (s.command.partMode ≠ .start → 2 ≤ s.supply.lowCount → s.supply.state = .normal ∨ s.supply.state = .settle →
      ∃ t : State, exec .dropoutDetected s = .next t ∧
        t = { s with
              air := { s.air with statusSlot := t.air.statusSlot, statusTimer := t.air.statusTimer }
              command := { s.command with parkTimer := t.command.parkTimer }
              motion := t.motion, smoke := t.smoke, light := t.light, supply := t.supply
              counters := { s.counters with dropoutCount := min 255 (s.counters.dropoutCount + 1) } } ∧
        (level ≠ 4 →
          t.supply
            = { s.supply with settleTimer := none, stepDownTimer := none, state := .dropout, shedLevel := level }) ∧
        (level = 4 →
          t.supply
              = { s.supply with
                  settleTimer := none, stepDownTimer := none, holdTimer := some 3000, state := .hold, shedLevel := 4 }) ∧
        (s.motion.state.isCalibrating = true → t.motion = aborted) ∧
        (s.motion.state.isCalibrating = false → level = 4 →
          t.motion = { s.motion with duty := 0, integrator := 0, labour := .coast }) ∧
        (s.motion.state.isCalibrating = false → level ≠ 4 → t.motion = s.motion) ∧ shed t level) ∧
    (s.supply.state = .dropout → 20 ≤ s.supply.goodCount →
      ∃ t : State, exec .pickupReturn s = .next t ∧
        t = { s with
              air := t.air, command := { s.command with parkTimer := t.command.parkTimer }, consist := t.consist
              light := t.light
              supply := { s.supply with settleTimer := none, stepDownTimer := stepDown, state := .normal } } ∧
        resumed t) ∧
    (s.supply.state = .hold → 20 ≤ s.supply.goodCount →
      ∃ t : State, exec .holdEnd s = .next t ∧
        t = { s with
              air := { s.air with statusSlot := t.air.statusSlot, statusTimer := t.air.statusTimer }
              command := { s.command with parkTimer := t.command.parkTimer }
              motion := t.motion, smoke := t.smoke, light := t.light
              supply := { s.supply with holdTimer := none, settleTimer := some 100, state := .settle, shedLevel := 3 } } ∧
        t.motion = (if s.motion.state.isCalibrating = true then aborted else s.motion) ∧ shed t 3) ∧
    (s.supply.state = .settle → s.supply.settleTimer.isSome = true →
      ∃ t : State, exec .settleEnd s = .next t ∧
        t = { s with
              air := t.air, command := { s.command with parkTimer := t.command.parkTimer }
              motion := { s.motion with state := t.motion.state, ramp := min s.motion.ramp (16 * s.motion.measuredSpeed) }
              consist := t.consist, sound := t.sound, light := t.light
              supply := { s.supply with settleTimer := none, stepDownTimer := stepDown, state := .normal } } ∧
        (s.motion.state = .moving → 0 < s.motion.rampedSpeed → t.motion.rampedSpeed = 0 →
          t.motion.state = .idle ∧ t.sound = s.sound.motionTrigger .arrive) ∧
        (s.motion.rampedSpeed = 0 ∨ 0 < t.motion.rampedSpeed ∨ (s.motion.state ≠ .idle ∧ s.motion.state ≠ .moving) →
          t.motion.state = s.motion.state ∧ t.sound = s.sound ∧ resumed t)) ∧
    (s.supply.state = .normal → s.supply.stepDownTimer.isSome = true → 0 < s.supply.shedLevel →
      ∃ t : State, exec .stepDownExpiry s = .next t ∧
        t = { s with
              air := { s.air with statusSlot := t.air.statusSlot }, smoke := t.smoke, light := t.light
              supply :=
                { s.supply with
                  shedLevel := s.supply.shedLevel - 1
                  stepDownTimer := if 1 < s.supply.shedLevel then some 200 else none } } ∧
        t.air.statusSlot.requested = true ∧ shed t (s.supply.shedLevel - 1))

/-- WARM_RESTART: what each unit clears and what it keeps. Slots, FIFO, functions, ramp, beats, voices, effect and DITCH
timers are cleared, while the peer table, the sound tables, the ambient program, the volume curve and a fill in flight, the
pseudo-random register and the STATUS interval timer stand; the ambient program is triggered where SOUND_ON is on. A return of
the supply that falls together with the restart stands, to be taken by HOLD_END: that a good count of 20 or more is kept, where
the table of section 10.1 gives 0, is the model's choice (log 3, from R168 of section 10.3). BROWNOUT: nothing is left but the
mark, the model's power-on state otherwise (log 5, log 6). What the manual does not list for the restart stands: log 25; that
the row stands for the hold timer having run out: log 2. -/
def Obligations.RestartsKeepWhatTheManualKeeps : Prop :=
  ∀ s : State,
    let kept (h : HalfBuffer) : HalfBuffer := if h.state = .ready ∨ h.state = .playing then HalfBuffer.empty else h
    let restarted : SoundEngine :=
      { s.sound with
        voices :=
          s.sound.voices.map fun v =>
            { current := none, repeating := false, cursor := .ended, stack := [], pending := none
              generation := (v.generation + 1) % 65536, half0 := kept v.half0, half1 := kept v.half1
              nextFill := .h0, nextPlay := .h0, priming := false, letGo := false } }
    (s.supply.state = .hold → s.supply.holdTimer.isSome = true →
      ∃ t : State, exec .warmRestart s = .next t ∧
        t = { s with
              air :=
                { s.air with
                  rxFifo := [], joinSlot := { requested := false, attempts := 0 }
                  statusSlot := { requested := true, attempts := 0 }, diagSlot := { requested := false, attempts := 0 }
                  querier := t.air.querier, outgoing := none, transmitRequest := false
                  transmitter :=
                    match s.air.transmitter with
                    | .quiet left => .quiet left
                    | _ => .idle
                  statusTimer := s.air.statusTimer.map fun n => min n (if s.consist.state = .solo then 1000 else 200) }
              command :=
                { s.command with
                  binding := none, commandedStep := 0, functions := 0#24, partMode := .run
                  parkTimer := if s.consist.state = .solo ∧ s.settings.parkDelay ≠ 0 then some 0 else none }
              motion :=
                { s.motion with
                  state := .idle, ramp := 0, duty := 0, integrator := 0, stallCount := 0, calibration := none
                  labour := .coast }
              beat :=
                { s.beat with
                  counter := s.settings.preload, phase := 0, intervalTimer := none, beatAge := none
                  lastInterval := none }
              consist :=
                if s.consist.state = .solo then s.consist
                else
                  { state := .ability, common := none, negotiationTimer := none, joinTimer := none
                    renegotiationPending := false, consistFault := false, signalLossStop := false
                    membership :=
                      s.consist.membership.map fun m =>
                        { m with
                          others :=
                            m.others.map fun o =>
                              { o with ability := none, ackHeard := false, timer := none, mark := .watched } } }
              sound :=
                if t.soundOnLevel = true then restarted.trigger s.sound.ambient .ambient else restarted
              smoke :=
                { s.smoke with
                  state := if s.smoke.state = .purge ∨ s.smoke.state = .fault then .fault else .off
                  heater := false, fanDuty := 0, heatUpTimer := none, purgeTimer := none, puffTimer := none
                  dryWindow := [] }
              light :=
                { s.light with
                  outputs := s.light.outputs.map fun o => { o with lit := false, effectTimer := none, applied := 0 }
                  ditchTimers := s.light.ditchTimers.map fun _ => none
                  flareTimer := none }
              supply :=
                { s.supply with
                  lowCount := 0, goodCount := if 20 ≤ s.supply.goodCount then s.supply.goodCount else 0
                  holdTimer := none, settleTimer := none, stepDownTimer := none, resetCause := .warm
                  brownoutMark := false } } ∧
        (t.soundOnLevel = true ↔ .soundOn ∉ s.settings.functionMap) ∧
        (∀ v ∈ t.sound.voices, v.stack = [] ∧ v.pending = none) ∧ t.sound.programs = s.sound.programs ∧
        t.sound.beatTable = s.sound.beatTable ∧ t.sound.motionTable = s.sound.motionTable ∧
        t.sound.ambient = s.sound.ambient ∧ t.sound.volumeCurve = s.sound.volumeCurve ∧ t.sound.reader = s.sound.reader) ∧
    exec .brownout s
      = .next
          { State.reset with
            air := { State.reset.air with transmitActive := s.air.transmitActive }
            sound := { State.reset.sound with unread := s.sound.unread }
            supply := { State.reset.supply with brownoutMark := true }
            pending := s.pending }

/-- COLD_START: START, with every unit at its cold start and the reset cause. A good configuration record gives every field
from its bytes, normalised; a good calibration record gives Kbs and Kff, and a good directory the program table, the event
tables, the ambient program and the volume curve, while a bad or absent record gives the defaults of its own kind and, but
for the directory, its latch. The seeds come from the own address. STARTUP_QUALIFIED makes the supply NORMAL and
COLD_START_END begins RUN. That the directory's fields of more bytes and its check word stand most significant byte first is
the model's reading (log 8), and so are a newly lit output's flicker value of 0 (log 25) and any non-zero essential byte as
set (log 40). The transmit-active line and the count of unread samples stand: logs 17 and 18; the cold values the manual does
not give: logs 16 and 28. That qualification and end of the start are steps of their own: log 3. -/
def Obligations.TheColdStartLoadsAndQualifies : Prop :=
  ∀ s : State,
    let good (n : Nat) (record : Option (List Byte)) (bs : List Byte) : Prop :=
      record = some bs ∧ bs.length = n ∧ wordAt bs (n - 2) = ((bs.take (n - 2)).map (·.toNat)).sum % 65536
    let clamp (low high x : Nat) : Nat := max low (min x high)
    (∀ (config calibration directory : Option (List Byte)) (markLost : Bool),
      ∃ t : State, exec (.coldStart config calibration directory markLost) s = .next t ∧
        t = { State.reset with
              settings := t.settings
              air :=
                { State.reset.air with backoffRegister := t.settings.ownAddress, transmitActive := s.air.transmitActive }
              motion :=
                { State.reset.motion with inForce := t.motion.inForce, calDefaultsInForce := t.latches.calDefaulted }
              beat :=
                { State.reset.beat with
                  mode := if t.settings.sensorFitted = true then .event else .interval, counter := t.settings.preload }
              sound :=
                { State.reset.sound with
                  programs := t.sound.programs, beatTable := t.sound.beatTable, motionTable := t.sound.motionTable
                  ambient := t.sound.ambient, volumeCurve := t.sound.volumeCurve, unread := s.sound.unread }
              light := { State.reset.light with randomRegister := 65536 - t.settings.ownAddress }
              supply :=
                { State.reset.supply with
                  loaded := true, configDefaultsInForce := t.latches.configDefaulted
                  resetCause := if s.supply.brownoutMark = true ∧ markLost = false then .brownout else .powerOn }
              latches :=
                { State.reset.latches with
                  configDefaulted := t.latches.configDefaulted, calDefaulted := t.latches.calDefaulted }
              pending := s.pending } ∧
        ((∀ bs, ¬good 217 config bs) → t.settings = Settings.builtIn ∧ t.latches.configDefaulted = true) ∧
        (∀ bs, good 217 config bs →
          t.latches.configDefaulted = false ∧
          (∀ k < 17, t.settings.curve.getD k 0
            = max (if k = 0 then 0 else t.settings.curve.getD (k - 1) 0) (min 4095 (wordAt bs (57 + 2 * k)))) ∧
          t.settings.curve.length = 17 ∧
          t.settings
            = { ownAddress := clamp 1 0x0FFF (wordAt bs 0)
                supervisionTime := clamp 500 5000 (wordAt bs 2) / 100 * 100
                signalLossAction := if byteAt bs 4 = 1 then .continue_ else .stop
                parkDelay := min 60 (byteAt bs 5)
                functionMap :=
                  (List.range 24).map fun k =>
                    match byteAt bs (6 + 2 * k) with
                    | 1 => .lights (bs.getD (7 + 2 * k) 0#8)
                    | 2 => .sound (min 63 (byteAt bs (7 + 2 * k)))
                    | 3 => .smokeEnable
                    | 4 => .dim
                    | 5 => .soundOn
                    | 6 => .shunt
                    | _ => .none
                consistMask := BitVec.ofNat 24 (byteAt bs 54 * 65536 + byteAt bs 55 * 256 + byteAt bs 56)
                curve := t.settings.curve
                accel := clamp 1 255 (byteAt bs 91)
                decel := clamp 1 255 (byteAt bs 92)
                passingThreshold := byteAt bs 93
                restrictedStep := min 96 (byteAt bs 94)
                markerUse := decide (byteAt bs 95 ≠ 0)
                kp := byteAt bs 96
                ki := byteAt bs 97
                currentLimit := clamp 1 1023 (wordAt bs 98)
                hardCurrentLimit := clamp 1 1023 (wordAt bs 100)
                dutyCap := clamp 100 1000 (wordAt bs 102)
                stallDuty := clamp 100 1000 (wordAt bs 104)
                lightThreshold := byteAt bs 106
                heavyThreshold := byteAt bs 107
                sensorFitted := decide (byteAt bs 108 ≠ 0)
                preload := clamp 1 16 (byteAt bs 109)
                beatsPerRevolution := if byteAt bs 110 = 2 then 2 else 4
                pulseDistance := clamp 1 65535 (wordAt bs 111)
                beatConstant := clamp 1 65535 (wordAt bs 113)
                loadShareOffered := decide (byteAt bs 115 ≠ 0)
                capShareOffered := decide (byteAt bs 116 ≠ 0)
                shareGain := min 64 (byteAt bs 117)
                trimMax := byteAt bs 118
                masterLevel := min 15 (byteAt bs 119)
                temperatureTable := (List.range 9).map fun k => min 400 (wordAt bs (120 + 2 * k))
                tIdle := min 400 (wordAt bs 138)
                tWork := min 400 (wordAt bs 140)
                tMax := min 400 (wordAt bs 142)
                heaterPower := min 1000 (wordAt bs 144)
                fanIdle := min 1000 (wordAt bs 146)
                fanPuff := (List.range 4).map fun k => min 1000 (wordAt bs (148 + 2 * k))
                outputs :=
                  (List.range 8).map fun k =>
                    { effect :=
                        match byteAt bs (156 + 7 * k) with
                        | 1 => .flicker
                        | 2 => .pulse
                        | 3 => .strobe
                        | 4 => .ditch
                        | 5 => .mars
                        | _ => .steady
                      level := byteAt bs (157 + 7 * k)
                      dimLevel := byteAt bs (158 + 7 * k)
                      directionRule :=
                        match byteAt bs (159 + 7 * k) with
                        | 1 => .forward
                        | 2 => .reverse
                        | _ => .any
                      roleRule :=
                        match byteAt bs (160 + 7 * k) with
                        | 1 => .leadOnly
                        | 2 => .tailOnly
                        | 3 => .notInConsist
                        | _ => .any
                      essential := decide (byteAt bs (161 + 7 * k) ≠ 0)
                      parkRule :=
                        match byteAt bs (162 + 7 * k) with
                        | 1 => .stay
                        | 2 => .dim
                        | _ => .off }
                s1 := max 65 (byteAt bs 212)
                s2 := min (max 65 (byteAt bs 212)) (max 65 (byteAt bs 213))
                s3 := min (min (max 65 (byteAt bs 212)) (max 65 (byteAt bs 213))) (max 65 (byteAt bs 214)) }) ∧
        ((∀ bs, ¬good 6 calibration bs) →
          t.motion.inForce = { kbs := 1024, kff := 1000 } ∧ t.latches.calDefaulted = true) ∧
        (∀ bs, good 6 calibration bs →
          t.motion.inForce = { kbs := clamp 1 1024 (wordAt bs 0), kff := min 4095 (wordAt bs 2) } ∧
            t.latches.calDefaulted = false) ∧
        ((∀ bs, ¬good 1319 directory bs) →
          t.sound.programs = List.replicate 64 none ∧ t.sound.beatTable = List.replicate 16 none ∧
            t.sound.motionTable = List.replicate 4 none ∧ t.sound.ambient = none ∧
            t.sound.volumeCurve = [0, 6, 12, 20, 30, 42, 56, 72, 90, 110, 132, 156, 182, 208, 232, 255]) ∧
        (∀ bs, good 1319 directory bs →
          let named (i : Nat) : Option Nat := if byteAt bs i ≤ 63 then some (byteAt bs i) else none
          let triple (i : Nat) : Nat := byteAt bs i * 65536 + byteAt bs (i + 1) * 256 + byteAt bs (i + 2)
          let run (i : Nat) : Option SampleRun :=
            if wordAt bs (i + 3) = 0 then none else some { start := triple i, length := wordAt bs (i + 3) }
          let fits (i : Nat) : Prop := wordAt bs (i + 3) = 0 ∨ triple i + wordAt bs (i + 3) ≤ 16777216
          t.sound.beatTable = (List.range 16).map (fun k => named (1280 + k)) ∧
            t.sound.motionTable = (List.range 4).map (fun k => named (1296 + k)) ∧ t.sound.ambient = named 1300 ∧
            t.sound.volumeCurve = (List.range 16).map (fun k => byteAt bs (1301 + k)) ∧
            t.sound.programs.length = 64 ∧
            ∀ k < 64,
              let i := 20 * k
              let enabled :=
                byteAt bs i ≠ 0 ∧ byteAt bs (i + 1) ≤ 3 ∧ byteAt bs (i + 3) ≤ 1 ∧ wordAt bs (i + 12) ≠ 0 ∧ fits (i + 4) ∧
                  fits (i + 9) ∧ fits (i + 14)
              (¬enabled → t.sound.programs[k]? = some none) ∧
              (enabled →
                t.sound.programs[k]?
                  = some
                      (some
                        { voice := byteAt bs (i + 1), priority := min 3 (byteAt bs (i + 2))
                          loop := decide (byteAt bs (i + 3) = 1), attack := run (i + 4)
                          body := { start := triple (i + 9), length := wordAt bs (i + 12) }, release := run (i + 14)
                          gain := byteAt bs (i + 19) })))) ∧
    (s.command.partMode = .start → 100 ≤ s.supply.startCount →
      ∃ t : State, exec .startupQualified s = .next t ∧
        t = { s with light := t.light, supply := { s.supply with state := .normal, shedLevel := 0 } } ∧
        t.LightsFollow s.light) ∧
    (s.command.partMode = .start → s.supply.loaded = true → s.supply.state = .normal →
      ∃ t : State, exec .coldStartEnd s = .next t ∧
        t = { s with
              air :=
                { s.air with
                  statusSlot :=
                    if s.air.statusSlot.requested then s.air.statusSlot else { requested := true, attempts := 0 }
                  statusTimer :=
                    some
                      (if s.consist.state ≠ .solo ∨ s.motion.state = .moving ∨ s.motion.state.isCalibrating = true then 200
                      else 1000) }
              command :=
                { s.command with
                  partMode := .run
                  parkTimer :=
                    if s.motion.state = .idle ∧ s.consist.state = .solo ∧ s.settings.parkDelay ≠ 0 then
                      some (s.command.parkTimer.getD 0)
                    else none }
              sound := if s.soundOnLevel = true then s.sound.trigger s.sound.ambient .ambient else s.sound
              light := t.light } ∧
        t.LightsFollow s.light)
end

