-- ==== Sys2Proof/Laws/Sound.lean ====
section
/-! SUPPORT. What the Sound Engine's operations leave, and what ending a program keeps. -/

namespace Sys2Proof.Machine

@[simp] theorem SoundEngine.onVoice_frame (e : SoundEngine) (k : Nat) (f : Voice → Voice) :
    (e.onVoice k f).programs = e.programs ∧ (e.onVoice k f).beatTable = e.beatTable
      ∧ (e.onVoice k f).motionTable = e.motionTable ∧ (e.onVoice k f).ambient = e.ambient
      ∧ (e.onVoice k f).volumeCurve = e.volumeCurve ∧ (e.onVoice k f).reader = e.reader
      ∧ (e.onVoice k f).output = e.output ∧ (e.onVoice k f).unread = e.unread :=
  ⟨rfl, rfl, rfl, rfl, rfl, rfl, rfl, rfl⟩

/-- A trigger changes nothing of the engine but the voice of its program. -/
theorem SoundEngine.trigger_cases (e : SoundEngine) (n : Option Nat) (origin : TriggerOrigin) :
    e.trigger n origin = e ∨
      ∃ m p, n = some m ∧ lookupProgram e.programs m = some p ∧
        e.trigger n origin
          = e.onVoice p.voice fun v => v.judge p { program := m, priority := p.priority, origin := origin } := by
  unfold SoundEngine.trigger
  split
  · exact .inl rfl
  · rename_i m
    split
    · exact .inl rfl
    · rename_i p h
      exact .inr ⟨m, p, rfl, h, rfl⟩

/-- Letting go changes nothing of the engine but the voice of its program. -/
theorem SoundEngine.letGo_cases (e : SoundEngine) (n : Option Nat) :
    e.letGo n = e ∨
      ∃ m p, n = some m ∧ lookupProgram e.programs m = some p ∧
        e.letGo n
          = e.onVoice p.voice fun v => (v.release p m).endIfExhausted e.programs e.reader p.voice := by
  unfold SoundEngine.letGo
  split
  · exact .inl rfl
  · rename_i m
    split
    · exact .inl rfl
    · rename_i p h
      exact .inr ⟨m, p, rfl, h, rfl⟩

@[simp] theorem SoundEngine.trigger_frame (e : SoundEngine) (n : Option Nat) (origin : TriggerOrigin) :
    (e.trigger n origin).programs = e.programs ∧ (e.trigger n origin).beatTable = e.beatTable
      ∧ (e.trigger n origin).motionTable = e.motionTable ∧ (e.trigger n origin).ambient = e.ambient
      ∧ (e.trigger n origin).volumeCurve = e.volumeCurve ∧ (e.trigger n origin).reader = e.reader
      ∧ (e.trigger n origin).output = e.output ∧ (e.trigger n origin).unread = e.unread := by
  obtain h | ⟨m, p, -, -, h⟩ := e.trigger_cases n origin <;> rw [h] <;> simp

@[simp] theorem SoundEngine.letGo_frame (e : SoundEngine) (n : Option Nat) :
    (e.letGo n).programs = e.programs ∧ (e.letGo n).beatTable = e.beatTable
      ∧ (e.letGo n).motionTable = e.motionTable ∧ (e.letGo n).ambient = e.ambient
      ∧ (e.letGo n).volumeCurve = e.volumeCurve ∧ (e.letGo n).reader = e.reader
      ∧ (e.letGo n).output = e.output ∧ (e.letGo n).unread = e.unread := by
  obtain h | ⟨m, p, -, -, h⟩ := e.letGo_cases n <;> rw [h] <;> simp

@[simp] theorem SoundEngine.beatTrigger_frame (e : SoundEngine) (labour : LabourLevel) (phase : Nat) :
    (e.beatTrigger labour phase).programs = e.programs ∧ (e.beatTrigger labour phase).reader = e.reader
      ∧ (e.beatTrigger labour phase).ambient = e.ambient ∧ (e.beatTrigger labour phase).output = e.output := by
  simp [SoundEngine.beatTrigger]

@[simp] theorem SoundEngine.motionTrigger_frame (e : SoundEngine) (event : MotionEvent) :
    (e.motionTrigger event).programs = e.programs ∧ (e.motionTrigger event).reader = e.reader
      ∧ (e.motionTrigger event).ambient = e.ambient ∧ (e.motionTrigger event).output = e.output := by
  simp [SoundEngine.motionTrigger]

@[simp] theorem SoundEngine.park_frame (e : SoundEngine) :
    e.park.programs = e.programs ∧ e.park.reader = e.reader ∧ e.park.ambient = e.ambient ∧ e.park.output = e.output := by
  simp [SoundEngine.park]

@[simp] theorem SoundEngine.warm_frame (e : SoundEngine) :
    e.warm.programs = e.programs ∧ e.warm.reader = e.reader ∧ e.warm.ambient = e.ambient ∧ e.warm.output = e.output :=
  ⟨rfl, rfl, rfl, rfl⟩

end Sys2Proof.Machine
end

