-- ==== Sys2Proof/Laws/State.lean ====
section
/-! SUPPORT. What each modifier of State.lean leaves and what it writes: one lemma per field per modifier, true by rfl. -/

namespace Sys2Proof.Machine

section
variable (s : State) (f : Controller → Controller)
@[simp] theorem State.update_toController : (s.update f).toController = f s.toController := rfl
@[simp] theorem State.update_pending : (s.update f).pending = s.pending := rfl
end

section
variable (c : Controller) (f : Settings → Settings)
@[simp] theorem Controller.onSettings_settings : (c.onSettings f).settings = f c.settings := rfl
@[simp] theorem Controller.onSettings_air : (c.onSettings f).air = c.air := rfl
@[simp] theorem Controller.onSettings_command : (c.onSettings f).command = c.command := rfl
@[simp] theorem Controller.onSettings_motion : (c.onSettings f).motion = c.motion := rfl
@[simp] theorem Controller.onSettings_beat : (c.onSettings f).beat = c.beat := rfl
@[simp] theorem Controller.onSettings_consist : (c.onSettings f).consist = c.consist := rfl
@[simp] theorem Controller.onSettings_sound : (c.onSettings f).sound = c.sound := rfl
@[simp] theorem Controller.onSettings_smoke : (c.onSettings f).smoke = c.smoke := rfl
@[simp] theorem Controller.onSettings_light : (c.onSettings f).light = c.light := rfl
@[simp] theorem Controller.onSettings_supply : (c.onSettings f).supply = c.supply := rfl
@[simp] theorem Controller.onSettings_counters : (c.onSettings f).counters = c.counters := rfl
@[simp] theorem Controller.onSettings_latches : (c.onSettings f).latches = c.latches := rfl
end

section
variable (c : Controller) (f : AirInterface → AirInterface)
@[simp] theorem Controller.onAir_settings : (c.onAir f).settings = c.settings := rfl
@[simp] theorem Controller.onAir_air : (c.onAir f).air = f c.air := rfl
@[simp] theorem Controller.onAir_command : (c.onAir f).command = c.command := rfl
@[simp] theorem Controller.onAir_motion : (c.onAir f).motion = c.motion := rfl
@[simp] theorem Controller.onAir_beat : (c.onAir f).beat = c.beat := rfl
@[simp] theorem Controller.onAir_consist : (c.onAir f).consist = c.consist := rfl
@[simp] theorem Controller.onAir_sound : (c.onAir f).sound = c.sound := rfl
@[simp] theorem Controller.onAir_smoke : (c.onAir f).smoke = c.smoke := rfl
@[simp] theorem Controller.onAir_light : (c.onAir f).light = c.light := rfl
@[simp] theorem Controller.onAir_supply : (c.onAir f).supply = c.supply := rfl
@[simp] theorem Controller.onAir_counters : (c.onAir f).counters = c.counters := rfl
@[simp] theorem Controller.onAir_latches : (c.onAir f).latches = c.latches := rfl
end

section
variable (c : Controller) (f : CommandUnit → CommandUnit)
@[simp] theorem Controller.onCommand_settings : (c.onCommand f).settings = c.settings := rfl
@[simp] theorem Controller.onCommand_air : (c.onCommand f).air = c.air := rfl
@[simp] theorem Controller.onCommand_command : (c.onCommand f).command = f c.command := rfl
@[simp] theorem Controller.onCommand_motion : (c.onCommand f).motion = c.motion := rfl
@[simp] theorem Controller.onCommand_beat : (c.onCommand f).beat = c.beat := rfl
@[simp] theorem Controller.onCommand_consist : (c.onCommand f).consist = c.consist := rfl
@[simp] theorem Controller.onCommand_sound : (c.onCommand f).sound = c.sound := rfl
@[simp] theorem Controller.onCommand_smoke : (c.onCommand f).smoke = c.smoke := rfl
@[simp] theorem Controller.onCommand_light : (c.onCommand f).light = c.light := rfl
@[simp] theorem Controller.onCommand_supply : (c.onCommand f).supply = c.supply := rfl
@[simp] theorem Controller.onCommand_counters : (c.onCommand f).counters = c.counters := rfl
@[simp] theorem Controller.onCommand_latches : (c.onCommand f).latches = c.latches := rfl
end

section
variable (c : Controller) (f : MotionUnit → MotionUnit)
@[simp] theorem Controller.onMotion_settings : (c.onMotion f).settings = c.settings := rfl
@[simp] theorem Controller.onMotion_air : (c.onMotion f).air = c.air := rfl
@[simp] theorem Controller.onMotion_command : (c.onMotion f).command = c.command := rfl
@[simp] theorem Controller.onMotion_motion : (c.onMotion f).motion = f c.motion := rfl
@[simp] theorem Controller.onMotion_beat : (c.onMotion f).beat = c.beat := rfl
@[simp] theorem Controller.onMotion_consist : (c.onMotion f).consist = c.consist := rfl
@[simp] theorem Controller.onMotion_sound : (c.onMotion f).sound = c.sound := rfl
@[simp] theorem Controller.onMotion_smoke : (c.onMotion f).smoke = c.smoke := rfl
@[simp] theorem Controller.onMotion_light : (c.onMotion f).light = c.light := rfl
@[simp] theorem Controller.onMotion_supply : (c.onMotion f).supply = c.supply := rfl
@[simp] theorem Controller.onMotion_counters : (c.onMotion f).counters = c.counters := rfl
@[simp] theorem Controller.onMotion_latches : (c.onMotion f).latches = c.latches := rfl
end

section
variable (c : Controller) (f : BeatCounter → BeatCounter)
@[simp] theorem Controller.onBeat_settings : (c.onBeat f).settings = c.settings := rfl
@[simp] theorem Controller.onBeat_air : (c.onBeat f).air = c.air := rfl
@[simp] theorem Controller.onBeat_command : (c.onBeat f).command = c.command := rfl
@[simp] theorem Controller.onBeat_motion : (c.onBeat f).motion = c.motion := rfl
@[simp] theorem Controller.onBeat_beat : (c.onBeat f).beat = f c.beat := rfl
@[simp] theorem Controller.onBeat_consist : (c.onBeat f).consist = c.consist := rfl
@[simp] theorem Controller.onBeat_sound : (c.onBeat f).sound = c.sound := rfl
@[simp] theorem Controller.onBeat_smoke : (c.onBeat f).smoke = c.smoke := rfl
@[simp] theorem Controller.onBeat_light : (c.onBeat f).light = c.light := rfl
@[simp] theorem Controller.onBeat_supply : (c.onBeat f).supply = c.supply := rfl
@[simp] theorem Controller.onBeat_counters : (c.onBeat f).counters = c.counters := rfl
@[simp] theorem Controller.onBeat_latches : (c.onBeat f).latches = c.latches := rfl
end

section
variable (c : Controller) (f : ConsistUnit → ConsistUnit)
@[simp] theorem Controller.onConsist_settings : (c.onConsist f).settings = c.settings := rfl
@[simp] theorem Controller.onConsist_air : (c.onConsist f).air = c.air := rfl
@[simp] theorem Controller.onConsist_command : (c.onConsist f).command = c.command := rfl
@[simp] theorem Controller.onConsist_motion : (c.onConsist f).motion = c.motion := rfl
@[simp] theorem Controller.onConsist_beat : (c.onConsist f).beat = c.beat := rfl
@[simp] theorem Controller.onConsist_consist : (c.onConsist f).consist = f c.consist := rfl
@[simp] theorem Controller.onConsist_sound : (c.onConsist f).sound = c.sound := rfl
@[simp] theorem Controller.onConsist_smoke : (c.onConsist f).smoke = c.smoke := rfl
@[simp] theorem Controller.onConsist_light : (c.onConsist f).light = c.light := rfl
@[simp] theorem Controller.onConsist_supply : (c.onConsist f).supply = c.supply := rfl
@[simp] theorem Controller.onConsist_counters : (c.onConsist f).counters = c.counters := rfl
@[simp] theorem Controller.onConsist_latches : (c.onConsist f).latches = c.latches := rfl
end

section
variable (c : Controller) (f : SoundEngine → SoundEngine)
@[simp] theorem Controller.onSound_settings : (c.onSound f).settings = c.settings := rfl
@[simp] theorem Controller.onSound_air : (c.onSound f).air = c.air := rfl
@[simp] theorem Controller.onSound_command : (c.onSound f).command = c.command := rfl
@[simp] theorem Controller.onSound_motion : (c.onSound f).motion = c.motion := rfl
@[simp] theorem Controller.onSound_beat : (c.onSound f).beat = c.beat := rfl
@[simp] theorem Controller.onSound_consist : (c.onSound f).consist = c.consist := rfl
@[simp] theorem Controller.onSound_sound : (c.onSound f).sound = f c.sound := rfl
@[simp] theorem Controller.onSound_smoke : (c.onSound f).smoke = c.smoke := rfl
@[simp] theorem Controller.onSound_light : (c.onSound f).light = c.light := rfl
@[simp] theorem Controller.onSound_supply : (c.onSound f).supply = c.supply := rfl
@[simp] theorem Controller.onSound_counters : (c.onSound f).counters = c.counters := rfl
@[simp] theorem Controller.onSound_latches : (c.onSound f).latches = c.latches := rfl
end

section
variable (c : Controller) (f : SmokeController → SmokeController)
@[simp] theorem Controller.onSmoke_settings : (c.onSmoke f).settings = c.settings := rfl
@[simp] theorem Controller.onSmoke_air : (c.onSmoke f).air = c.air := rfl
@[simp] theorem Controller.onSmoke_command : (c.onSmoke f).command = c.command := rfl
@[simp] theorem Controller.onSmoke_motion : (c.onSmoke f).motion = c.motion := rfl
@[simp] theorem Controller.onSmoke_beat : (c.onSmoke f).beat = c.beat := rfl
@[simp] theorem Controller.onSmoke_consist : (c.onSmoke f).consist = c.consist := rfl
@[simp] theorem Controller.onSmoke_sound : (c.onSmoke f).sound = c.sound := rfl
@[simp] theorem Controller.onSmoke_smoke : (c.onSmoke f).smoke = f c.smoke := rfl
@[simp] theorem Controller.onSmoke_light : (c.onSmoke f).light = c.light := rfl
@[simp] theorem Controller.onSmoke_supply : (c.onSmoke f).supply = c.supply := rfl
@[simp] theorem Controller.onSmoke_counters : (c.onSmoke f).counters = c.counters := rfl
@[simp] theorem Controller.onSmoke_latches : (c.onSmoke f).latches = c.latches := rfl
end

section
variable (c : Controller) (f : LightController → LightController)
@[simp] theorem Controller.onLight_settings : (c.onLight f).settings = c.settings := rfl
@[simp] theorem Controller.onLight_air : (c.onLight f).air = c.air := rfl
@[simp] theorem Controller.onLight_command : (c.onLight f).command = c.command := rfl
@[simp] theorem Controller.onLight_motion : (c.onLight f).motion = c.motion := rfl
@[simp] theorem Controller.onLight_beat : (c.onLight f).beat = c.beat := rfl
@[simp] theorem Controller.onLight_consist : (c.onLight f).consist = c.consist := rfl
@[simp] theorem Controller.onLight_sound : (c.onLight f).sound = c.sound := rfl
@[simp] theorem Controller.onLight_smoke : (c.onLight f).smoke = c.smoke := rfl
@[simp] theorem Controller.onLight_light : (c.onLight f).light = f c.light := rfl
@[simp] theorem Controller.onLight_supply : (c.onLight f).supply = c.supply := rfl
@[simp] theorem Controller.onLight_counters : (c.onLight f).counters = c.counters := rfl
@[simp] theorem Controller.onLight_latches : (c.onLight f).latches = c.latches := rfl
end

section
variable (c : Controller) (f : SupplyMonitor → SupplyMonitor)
@[simp] theorem Controller.onSupply_settings : (c.onSupply f).settings = c.settings := rfl
@[simp] theorem Controller.onSupply_air : (c.onSupply f).air = c.air := rfl
@[simp] theorem Controller.onSupply_command : (c.onSupply f).command = c.command := rfl
@[simp] theorem Controller.onSupply_motion : (c.onSupply f).motion = c.motion := rfl
@[simp] theorem Controller.onSupply_beat : (c.onSupply f).beat = c.beat := rfl
@[simp] theorem Controller.onSupply_consist : (c.onSupply f).consist = c.consist := rfl
@[simp] theorem Controller.onSupply_sound : (c.onSupply f).sound = c.sound := rfl
@[simp] theorem Controller.onSupply_smoke : (c.onSupply f).smoke = c.smoke := rfl
@[simp] theorem Controller.onSupply_light : (c.onSupply f).light = c.light := rfl
@[simp] theorem Controller.onSupply_supply : (c.onSupply f).supply = f c.supply := rfl
@[simp] theorem Controller.onSupply_counters : (c.onSupply f).counters = c.counters := rfl
@[simp] theorem Controller.onSupply_latches : (c.onSupply f).latches = c.latches := rfl
end

section
variable (c : Controller) (f : Counters → Counters)
@[simp] theorem Controller.onCounters_settings : (c.onCounters f).settings = c.settings := rfl
@[simp] theorem Controller.onCounters_air : (c.onCounters f).air = c.air := rfl
@[simp] theorem Controller.onCounters_command : (c.onCounters f).command = c.command := rfl
@[simp] theorem Controller.onCounters_motion : (c.onCounters f).motion = c.motion := rfl
@[simp] theorem Controller.onCounters_beat : (c.onCounters f).beat = c.beat := rfl
@[simp] theorem Controller.onCounters_consist : (c.onCounters f).consist = c.consist := rfl
@[simp] theorem Controller.onCounters_sound : (c.onCounters f).sound = c.sound := rfl
@[simp] theorem Controller.onCounters_smoke : (c.onCounters f).smoke = c.smoke := rfl
@[simp] theorem Controller.onCounters_light : (c.onCounters f).light = c.light := rfl
@[simp] theorem Controller.onCounters_supply : (c.onCounters f).supply = c.supply := rfl
@[simp] theorem Controller.onCounters_counters : (c.onCounters f).counters = f c.counters := rfl
@[simp] theorem Controller.onCounters_latches : (c.onCounters f).latches = c.latches := rfl
end

section
variable (c : Controller) (f : Latches → Latches)
@[simp] theorem Controller.onLatches_settings : (c.onLatches f).settings = c.settings := rfl
@[simp] theorem Controller.onLatches_air : (c.onLatches f).air = c.air := rfl
@[simp] theorem Controller.onLatches_command : (c.onLatches f).command = c.command := rfl
@[simp] theorem Controller.onLatches_motion : (c.onLatches f).motion = c.motion := rfl
@[simp] theorem Controller.onLatches_beat : (c.onLatches f).beat = c.beat := rfl
@[simp] theorem Controller.onLatches_consist : (c.onLatches f).consist = c.consist := rfl
@[simp] theorem Controller.onLatches_sound : (c.onLatches f).sound = c.sound := rfl
@[simp] theorem Controller.onLatches_smoke : (c.onLatches f).smoke = c.smoke := rfl
@[simp] theorem Controller.onLatches_light : (c.onLatches f).light = c.light := rfl
@[simp] theorem Controller.onLatches_supply : (c.onLatches f).supply = c.supply := rfl
@[simp] theorem Controller.onLatches_counters : (c.onLatches f).counters = c.counters := rfl
@[simp] theorem Controller.onLatches_latches : (c.onLatches f).latches = f c.latches := rfl
end

end Sys2Proof.Machine
end

