-- ==== Sys2Proof/Laws/Frames.lean ====
section
/-! SUPPORT. The frame of every shared operation: one lemma per operation with all the units, and the shared parts of units,
that it leaves as they are. -/

namespace Sys2Proof.Machine

@[simp] theorem Controller.countCheckFail_frame (c : Controller) :
    (Controller.countCheckFail c).settings = c.settings ∧ (Controller.countCheckFail c).air = c.air
      ∧ (Controller.countCheckFail c).command = c.command ∧ (Controller.countCheckFail c).motion = c.motion
      ∧ (Controller.countCheckFail c).beat = c.beat ∧ (Controller.countCheckFail c).consist = c.consist
      ∧ (Controller.countCheckFail c).sound = c.sound ∧ (Controller.countCheckFail c).smoke = c.smoke
      ∧ (Controller.countCheckFail c).light = c.light ∧ (Controller.countCheckFail c).supply = c.supply
      ∧ (Controller.countCheckFail c).latches = c.latches := by
  refine ⟨?_, ?_, ?_, ?_, ?_, ?_, ?_, ?_, ?_, ?_, ?_⟩ <;> rfl

@[simp] theorem Controller.countMalformed_frame (c : Controller) :
    (Controller.countMalformed c).settings = c.settings ∧ (Controller.countMalformed c).air = c.air
      ∧ (Controller.countMalformed c).command = c.command ∧ (Controller.countMalformed c).motion = c.motion
      ∧ (Controller.countMalformed c).beat = c.beat ∧ (Controller.countMalformed c).consist = c.consist
      ∧ (Controller.countMalformed c).sound = c.sound ∧ (Controller.countMalformed c).smoke = c.smoke
      ∧ (Controller.countMalformed c).light = c.light ∧ (Controller.countMalformed c).supply = c.supply
      ∧ (Controller.countMalformed c).latches = c.latches := by
  refine ⟨?_, ?_, ?_, ?_, ?_, ?_, ?_, ?_, ?_, ?_, ?_⟩ <;> rfl

@[simp] theorem Controller.countRxOverrun_frame (c : Controller) :
    (Controller.countRxOverrun c).settings = c.settings ∧ (Controller.countRxOverrun c).air = c.air
      ∧ (Controller.countRxOverrun c).command = c.command ∧ (Controller.countRxOverrun c).motion = c.motion
      ∧ (Controller.countRxOverrun c).beat = c.beat ∧ (Controller.countRxOverrun c).consist = c.consist
      ∧ (Controller.countRxOverrun c).sound = c.sound ∧ (Controller.countRxOverrun c).smoke = c.smoke
      ∧ (Controller.countRxOverrun c).light = c.light ∧ (Controller.countRxOverrun c).supply = c.supply
      ∧ (Controller.countRxOverrun c).latches = c.latches := by
  refine ⟨?_, ?_, ?_, ?_, ?_, ?_, ?_, ?_, ?_, ?_, ?_⟩ <;> rfl

@[simp] theorem Controller.countForeignDrive_frame (c : Controller) :
    (Controller.countForeignDrive c).settings = c.settings ∧ (Controller.countForeignDrive c).air = c.air
      ∧ (Controller.countForeignDrive c).command = c.command ∧ (Controller.countForeignDrive c).motion = c.motion
      ∧ (Controller.countForeignDrive c).beat = c.beat ∧ (Controller.countForeignDrive c).consist = c.consist
      ∧ (Controller.countForeignDrive c).sound = c.sound ∧ (Controller.countForeignDrive c).smoke = c.smoke
      ∧ (Controller.countForeignDrive c).light = c.light ∧ (Controller.countForeignDrive c).supply = c.supply
      ∧ (Controller.countForeignDrive c).latches = c.latches := by
  refine ⟨?_, ?_, ?_, ?_, ?_, ?_, ?_, ?_, ?_, ?_, ?_⟩ <;> rfl

@[simp] theorem Controller.countTxGiveup_frame (c : Controller) :
    (Controller.countTxGiveup c).settings = c.settings ∧ (Controller.countTxGiveup c).air = c.air
      ∧ (Controller.countTxGiveup c).command = c.command ∧ (Controller.countTxGiveup c).motion = c.motion
      ∧ (Controller.countTxGiveup c).beat = c.beat ∧ (Controller.countTxGiveup c).consist = c.consist
      ∧ (Controller.countTxGiveup c).sound = c.sound ∧ (Controller.countTxGiveup c).smoke = c.smoke
      ∧ (Controller.countTxGiveup c).light = c.light ∧ (Controller.countTxGiveup c).supply = c.supply
      ∧ (Controller.countTxGiveup c).latches = c.latches := by
  refine ⟨?_, ?_, ?_, ?_, ?_, ?_, ?_, ?_, ?_, ?_, ?_⟩ <;> rfl

@[simp] theorem Controller.countJabber_frame (c : Controller) :
    (Controller.countJabber c).settings = c.settings ∧ (Controller.countJabber c).air = c.air
      ∧ (Controller.countJabber c).command = c.command ∧ (Controller.countJabber c).motion = c.motion
      ∧ (Controller.countJabber c).beat = c.beat ∧ (Controller.countJabber c).consist = c.consist
      ∧ (Controller.countJabber c).sound = c.sound ∧ (Controller.countJabber c).smoke = c.smoke
      ∧ (Controller.countJabber c).light = c.light ∧ (Controller.countJabber c).supply = c.supply
      ∧ (Controller.countJabber c).latches = c.latches := by
  refine ⟨?_, ?_, ?_, ?_, ?_, ?_, ?_, ?_, ?_, ?_, ?_⟩ <;> rfl

@[simp] theorem Controller.countSoundUnderruns_frame (n : Nat) (c : Controller) :
    (Controller.countSoundUnderruns n c).settings = c.settings ∧ (Controller.countSoundUnderruns n c).air = c.air
      ∧ (Controller.countSoundUnderruns n c).command = c.command
      ∧ (Controller.countSoundUnderruns n c).motion = c.motion ∧ (Controller.countSoundUnderruns n c).beat = c.beat
      ∧ (Controller.countSoundUnderruns n c).consist = c.consist ∧ (Controller.countSoundUnderruns n c).sound = c.sound
      ∧ (Controller.countSoundUnderruns n c).smoke = c.smoke ∧ (Controller.countSoundUnderruns n c).light = c.light
      ∧ (Controller.countSoundUnderruns n c).supply = c.supply
      ∧ (Controller.countSoundUnderruns n c).latches = c.latches := by
  refine ⟨?_, ?_, ?_, ?_, ?_, ?_, ?_, ?_, ?_, ?_, ?_⟩ <;> rfl

@[simp] theorem Controller.countDropout_frame (c : Controller) :
    (Controller.countDropout c).settings = c.settings ∧ (Controller.countDropout c).air = c.air
      ∧ (Controller.countDropout c).command = c.command ∧ (Controller.countDropout c).motion = c.motion
      ∧ (Controller.countDropout c).beat = c.beat ∧ (Controller.countDropout c).consist = c.consist
      ∧ (Controller.countDropout c).sound = c.sound ∧ (Controller.countDropout c).smoke = c.smoke
      ∧ (Controller.countDropout c).light = c.light ∧ (Controller.countDropout c).supply = c.supply
      ∧ (Controller.countDropout c).latches = c.latches := by
  refine ⟨?_, ?_, ?_, ?_, ?_, ?_, ?_, ?_, ?_, ?_, ?_⟩ <;> rfl

@[simp] theorem Controller.fileJoin_frame (c : Controller) :
    (Controller.fileJoin c).settings = c.settings ∧ (Controller.fileJoin c).command = c.command
      ∧ (Controller.fileJoin c).motion = c.motion ∧ (Controller.fileJoin c).beat = c.beat
      ∧ (Controller.fileJoin c).consist = c.consist ∧ (Controller.fileJoin c).sound = c.sound
      ∧ (Controller.fileJoin c).smoke = c.smoke ∧ (Controller.fileJoin c).light = c.light
      ∧ (Controller.fileJoin c).supply = c.supply ∧ (Controller.fileJoin c).counters = c.counters
      ∧ (Controller.fileJoin c).latches = c.latches ∧ (Controller.fileJoin c).air.rxFifo = c.air.rxFifo
      ∧ (Controller.fileJoin c).air.peers = c.air.peers ∧ (Controller.fileJoin c).air.outgoing = c.air.outgoing
      ∧ (Controller.fileJoin c).air.transmitter = c.air.transmitter := by
  refine ⟨?_, ?_, ?_, ?_, ?_, ?_, ?_, ?_, ?_, ?_, ?_, ?_, ?_, ?_, ?_⟩ <;> rfl

@[simp] theorem Controller.fileStatus_frame (c : Controller) :
    (Controller.fileStatus c).settings = c.settings ∧ (Controller.fileStatus c).command = c.command
      ∧ (Controller.fileStatus c).motion = c.motion ∧ (Controller.fileStatus c).beat = c.beat
      ∧ (Controller.fileStatus c).consist = c.consist ∧ (Controller.fileStatus c).sound = c.sound
      ∧ (Controller.fileStatus c).smoke = c.smoke ∧ (Controller.fileStatus c).light = c.light
      ∧ (Controller.fileStatus c).supply = c.supply ∧ (Controller.fileStatus c).counters = c.counters
      ∧ (Controller.fileStatus c).latches = c.latches ∧ (Controller.fileStatus c).air.rxFifo = c.air.rxFifo
      ∧ (Controller.fileStatus c).air.peers = c.air.peers ∧ (Controller.fileStatus c).air.outgoing = c.air.outgoing
      ∧ (Controller.fileStatus c).air.transmitter = c.air.transmitter := by
  refine ⟨?_, ?_, ?_, ?_, ?_, ?_, ?_, ?_, ?_, ?_, ?_, ?_, ?_, ?_, ?_⟩ <;> rfl

@[simp] theorem Controller.fileDiag_frame (querier : Nat) (c : Controller) :
    (Controller.fileDiag querier c).settings = c.settings ∧ (Controller.fileDiag querier c).command = c.command
      ∧ (Controller.fileDiag querier c).motion = c.motion ∧ (Controller.fileDiag querier c).beat = c.beat
      ∧ (Controller.fileDiag querier c).consist = c.consist ∧ (Controller.fileDiag querier c).sound = c.sound
      ∧ (Controller.fileDiag querier c).smoke = c.smoke ∧ (Controller.fileDiag querier c).light = c.light
      ∧ (Controller.fileDiag querier c).supply = c.supply ∧ (Controller.fileDiag querier c).counters = c.counters
      ∧ (Controller.fileDiag querier c).latches = c.latches ∧ (Controller.fileDiag querier c).air.rxFifo = c.air.rxFifo
      ∧ (Controller.fileDiag querier c).air.peers = c.air.peers
      ∧ (Controller.fileDiag querier c).air.outgoing = c.air.outgoing
      ∧ (Controller.fileDiag querier c).air.transmitter = c.air.transmitter := by
  refine ⟨?_, ?_, ?_, ?_, ?_, ?_, ?_, ?_, ?_, ?_, ?_, ?_, ?_, ?_, ?_⟩ <;> rfl

@[simp] theorem Controller.cutStatusTimer_frame (c : Controller) :
    (Controller.cutStatusTimer c).settings = c.settings ∧ (Controller.cutStatusTimer c).command = c.command
      ∧ (Controller.cutStatusTimer c).motion = c.motion ∧ (Controller.cutStatusTimer c).beat = c.beat
      ∧ (Controller.cutStatusTimer c).consist = c.consist ∧ (Controller.cutStatusTimer c).sound = c.sound
      ∧ (Controller.cutStatusTimer c).smoke = c.smoke ∧ (Controller.cutStatusTimer c).light = c.light
      ∧ (Controller.cutStatusTimer c).supply = c.supply ∧ (Controller.cutStatusTimer c).counters = c.counters
      ∧ (Controller.cutStatusTimer c).latches = c.latches ∧ (Controller.cutStatusTimer c).air.rxFifo = c.air.rxFifo
      ∧ (Controller.cutStatusTimer c).air.peers = c.air.peers
      ∧ (Controller.cutStatusTimer c).air.outgoing = c.air.outgoing
      ∧ (Controller.cutStatusTimer c).air.transmitter = c.air.transmitter := by
  refine ⟨?_, ?_, ?_, ?_, ?_, ?_, ?_, ?_, ?_, ?_, ?_, ?_, ?_, ?_, ?_⟩ <;> rfl

@[simp] theorem Controller.judgePark_frame (c : Controller) :
    (Controller.judgePark c).settings = c.settings ∧ (Controller.judgePark c).air = c.air
      ∧ (Controller.judgePark c).motion = c.motion ∧ (Controller.judgePark c).beat = c.beat
      ∧ (Controller.judgePark c).consist = c.consist ∧ (Controller.judgePark c).sound = c.sound
      ∧ (Controller.judgePark c).smoke = c.smoke ∧ (Controller.judgePark c).light = c.light
      ∧ (Controller.judgePark c).supply = c.supply ∧ (Controller.judgePark c).counters = c.counters
      ∧ (Controller.judgePark c).latches = c.latches ∧ (Controller.judgePark c).command.binding = c.command.binding
      ∧ (Controller.judgePark c).command.commandedStep = c.command.commandedStep
      ∧ (Controller.judgePark c).command.requestedDirection = c.command.requestedDirection
      ∧ (Controller.judgePark c).command.functions = c.command.functions
      ∧ (Controller.judgePark c).command.lastHalt = c.command.lastHalt
      ∧ (Controller.judgePark c).command.partMode = c.command.partMode := by
  refine ⟨?_, ?_, ?_, ?_, ?_, ?_, ?_, ?_, ?_, ?_, ?_, ?_, ?_, ?_, ?_, ?_, ?_⟩ <;> rfl

@[simp] theorem Controller.afterStateChange_frame (c : Controller) :
    (Controller.afterStateChange c).settings = c.settings ∧ (Controller.afterStateChange c).motion = c.motion
      ∧ (Controller.afterStateChange c).beat = c.beat ∧ (Controller.afterStateChange c).consist = c.consist
      ∧ (Controller.afterStateChange c).sound = c.sound ∧ (Controller.afterStateChange c).smoke = c.smoke
      ∧ (Controller.afterStateChange c).light = c.light ∧ (Controller.afterStateChange c).supply = c.supply
      ∧ (Controller.afterStateChange c).counters = c.counters ∧ (Controller.afterStateChange c).latches = c.latches
      ∧ (Controller.afterStateChange c).air.rxFifo = c.air.rxFifo
      ∧ (Controller.afterStateChange c).air.peers = c.air.peers
      ∧ (Controller.afterStateChange c).air.outgoing = c.air.outgoing
      ∧ (Controller.afterStateChange c).air.transmitter = c.air.transmitter
      ∧ (Controller.afterStateChange c).command.binding = c.command.binding
      ∧ (Controller.afterStateChange c).command.commandedStep = c.command.commandedStep
      ∧ (Controller.afterStateChange c).command.requestedDirection = c.command.requestedDirection
      ∧ (Controller.afterStateChange c).command.functions = c.command.functions
      ∧ (Controller.afterStateChange c).command.lastHalt = c.command.lastHalt
      ∧ (Controller.afterStateChange c).command.partMode = c.command.partMode := by
  refine ⟨?_, ?_, ?_, ?_, ?_, ?_, ?_, ?_, ?_, ?_, ?_, ?_, ?_, ?_, ?_, ?_, ?_, ?_, ?_, ?_⟩ <;> rfl

@[simp] theorem Controller.judgeLights_frame (c : Controller) :
    (Controller.judgeLights c).settings = c.settings ∧ (Controller.judgeLights c).air = c.air
      ∧ (Controller.judgeLights c).command = c.command ∧ (Controller.judgeLights c).motion = c.motion
      ∧ (Controller.judgeLights c).beat = c.beat ∧ (Controller.judgeLights c).consist = c.consist
      ∧ (Controller.judgeLights c).sound = c.sound ∧ (Controller.judgeLights c).smoke = c.smoke
      ∧ (Controller.judgeLights c).supply = c.supply ∧ (Controller.judgeLights c).counters = c.counters
      ∧ (Controller.judgeLights c).latches = c.latches := by
  refine ⟨?_, ?_, ?_, ?_, ?_, ?_, ?_, ?_, ?_, ?_, ?_⟩ <;> rfl

@[simp] theorem Controller.lightTick_frame (c : Controller) :
    (Controller.lightTick c).settings = c.settings ∧ (Controller.lightTick c).air = c.air
      ∧ (Controller.lightTick c).command = c.command ∧ (Controller.lightTick c).motion = c.motion
      ∧ (Controller.lightTick c).beat = c.beat ∧ (Controller.lightTick c).consist = c.consist
      ∧ (Controller.lightTick c).sound = c.sound ∧ (Controller.lightTick c).smoke = c.smoke
      ∧ (Controller.lightTick c).supply = c.supply ∧ (Controller.lightTick c).counters = c.counters
      ∧ (Controller.lightTick c).latches = c.latches := by
  refine ⟨?_, ?_, ?_, ?_, ?_, ?_, ?_, ?_, ?_, ?_, ?_⟩ <;> rfl

@[simp] theorem Controller.flareBeat_frame (labour : LabourLevel) (c : Controller) :
    (Controller.flareBeat labour c).settings = c.settings ∧ (Controller.flareBeat labour c).air = c.air
      ∧ (Controller.flareBeat labour c).command = c.command ∧ (Controller.flareBeat labour c).motion = c.motion
      ∧ (Controller.flareBeat labour c).beat = c.beat ∧ (Controller.flareBeat labour c).consist = c.consist
      ∧ (Controller.flareBeat labour c).sound = c.sound ∧ (Controller.flareBeat labour c).smoke = c.smoke
      ∧ (Controller.flareBeat labour c).supply = c.supply ∧ (Controller.flareBeat labour c).counters = c.counters
      ∧ (Controller.flareBeat labour c).latches = c.latches := by
  refine ⟨?_, ?_, ?_, ?_, ?_, ?_, ?_, ?_, ?_, ?_, ?_⟩ <;> rfl

@[simp] theorem Controller.endFlare_frame (c : Controller) :
    (Controller.endFlare c).settings = c.settings ∧ (Controller.endFlare c).air = c.air
      ∧ (Controller.endFlare c).command = c.command ∧ (Controller.endFlare c).motion = c.motion
      ∧ (Controller.endFlare c).beat = c.beat ∧ (Controller.endFlare c).consist = c.consist
      ∧ (Controller.endFlare c).sound = c.sound ∧ (Controller.endFlare c).smoke = c.smoke
      ∧ (Controller.endFlare c).supply = c.supply ∧ (Controller.endFlare c).counters = c.counters
      ∧ (Controller.endFlare c).latches = c.latches := by
  refine ⟨?_, ?_, ?_, ?_, ?_, ?_, ?_, ?_, ?_, ?_, ?_⟩ <;> rfl

@[simp] theorem Controller.onPeers_frame (c : Controller) (f : PeerTable → PeerTable) :
    (Controller.onPeers c f).settings = c.settings ∧ (Controller.onPeers c f).command = c.command
      ∧ (Controller.onPeers c f).motion = c.motion ∧ (Controller.onPeers c f).beat = c.beat
      ∧ (Controller.onPeers c f).consist = c.consist ∧ (Controller.onPeers c f).sound = c.sound
      ∧ (Controller.onPeers c f).smoke = c.smoke ∧ (Controller.onPeers c f).light = c.light
      ∧ (Controller.onPeers c f).supply = c.supply ∧ (Controller.onPeers c f).counters = c.counters
      ∧ (Controller.onPeers c f).latches = c.latches ∧ (Controller.onPeers c f).air.rxFifo = c.air.rxFifo
      ∧ (Controller.onPeers c f).air.outgoing = c.air.outgoing
      ∧ (Controller.onPeers c f).air.transmitter = c.air.transmitter := by
  refine ⟨?_, ?_, ?_, ?_, ?_, ?_, ?_, ?_, ?_, ?_, ?_, ?_, ?_, ?_⟩ <;> rfl

@[simp] theorem Controller.raise_frame (event : MotionEvent) (c : Controller) :
    (Controller.raise event c).settings = c.settings ∧ (Controller.raise event c).air = c.air
      ∧ (Controller.raise event c).command = c.command ∧ (Controller.raise event c).motion = c.motion
      ∧ (Controller.raise event c).beat = c.beat ∧ (Controller.raise event c).consist = c.consist
      ∧ (Controller.raise event c).smoke = c.smoke ∧ (Controller.raise event c).light = c.light
      ∧ (Controller.raise event c).supply = c.supply ∧ (Controller.raise event c).counters = c.counters
      ∧ (Controller.raise event c).latches = c.latches ∧ (Controller.raise event c).sound.programs = c.sound.programs := by
  refine ⟨?_, ?_, ?_, ?_, ?_, ?_, ?_, ?_, ?_, ?_, ?_, ?_⟩ <;> simp [Controller.raise]

@[simp] theorem Controller.triggerAmbient_frame (c : Controller) :
    (Controller.triggerAmbient c).settings = c.settings ∧ (Controller.triggerAmbient c).air = c.air
      ∧ (Controller.triggerAmbient c).command = c.command ∧ (Controller.triggerAmbient c).motion = c.motion
      ∧ (Controller.triggerAmbient c).beat = c.beat ∧ (Controller.triggerAmbient c).consist = c.consist
      ∧ (Controller.triggerAmbient c).smoke = c.smoke ∧ (Controller.triggerAmbient c).light = c.light
      ∧ (Controller.triggerAmbient c).supply = c.supply ∧ (Controller.triggerAmbient c).counters = c.counters
      ∧ (Controller.triggerAmbient c).latches = c.latches
      ∧ (Controller.triggerAmbient c).sound.programs = c.sound.programs := by
  unfold Controller.triggerAmbient
  split <;> simp

@[simp] theorem Controller.outputInstant_frame (c : Controller) :
    (Controller.outputInstant c).settings = c.settings ∧ (Controller.outputInstant c).air = c.air
      ∧ (Controller.outputInstant c).command = c.command ∧ (Controller.outputInstant c).motion = c.motion
      ∧ (Controller.outputInstant c).beat = c.beat ∧ (Controller.outputInstant c).consist = c.consist
      ∧ (Controller.outputInstant c).smoke = c.smoke ∧ (Controller.outputInstant c).light = c.light
      ∧ (Controller.outputInstant c).supply = c.supply ∧ (Controller.outputInstant c).latches = c.latches
      ∧ (Controller.outputInstant c).sound.programs = c.sound.programs := by
  refine ⟨?_, ?_, ?_, ?_, ?_, ?_, ?_, ?_, ?_, ?_, ?_⟩ <;> rfl

@[simp] theorem Controller.setMotionState_frame (state : MotionState) (c : Controller) :
    (Controller.setMotionState state c).settings = c.settings ∧ (Controller.setMotionState state c).beat = c.beat
      ∧ (Controller.setMotionState state c).consist = c.consist ∧ (Controller.setMotionState state c).sound = c.sound
      ∧ (Controller.setMotionState state c).smoke = c.smoke ∧ (Controller.setMotionState state c).light = c.light
      ∧ (Controller.setMotionState state c).supply = c.supply
      ∧ (Controller.setMotionState state c).counters = c.counters
      ∧ (Controller.setMotionState state c).latches = c.latches
      ∧ (Controller.setMotionState state c).air.rxFifo = c.air.rxFifo
      ∧ (Controller.setMotionState state c).air.peers = c.air.peers
      ∧ (Controller.setMotionState state c).air.outgoing = c.air.outgoing
      ∧ (Controller.setMotionState state c).air.transmitter = c.air.transmitter
      ∧ (Controller.setMotionState state c).command.binding = c.command.binding
      ∧ (Controller.setMotionState state c).command.commandedStep = c.command.commandedStep
      ∧ (Controller.setMotionState state c).command.requestedDirection = c.command.requestedDirection
      ∧ (Controller.setMotionState state c).command.functions = c.command.functions
      ∧ (Controller.setMotionState state c).command.lastHalt = c.command.lastHalt
      ∧ (Controller.setMotionState state c).command.partMode = c.command.partMode
      ∧ (Controller.setMotionState state c).motion.travel = c.motion.travel
      ∧ (Controller.setMotionState state c).motion.ramp = c.motion.ramp
      ∧ (Controller.setMotionState state c).motion.duty = c.motion.duty
      ∧ (Controller.setMotionState state c).motion.setpoint = c.motion.setpoint
      ∧ (Controller.setMotionState state c).motion.inForce = c.motion.inForce
      ∧ (Controller.setMotionState state c).motion.block = c.motion.block
      ∧ (Controller.setMotionState state c).motion.write = c.motion.write := by
  unfold Controller.setMotionState
  split <;> simp

@[simp] theorem Controller.driveOff_frame (c : Controller) :
    (Controller.driveOff c).settings = c.settings ∧ (Controller.driveOff c).air = c.air
      ∧ (Controller.driveOff c).command = c.command ∧ (Controller.driveOff c).beat = c.beat
      ∧ (Controller.driveOff c).consist = c.consist ∧ (Controller.driveOff c).sound = c.sound
      ∧ (Controller.driveOff c).smoke = c.smoke ∧ (Controller.driveOff c).light = c.light
      ∧ (Controller.driveOff c).supply = c.supply ∧ (Controller.driveOff c).counters = c.counters
      ∧ (Controller.driveOff c).latches = c.latches ∧ (Controller.driveOff c).motion.state = c.motion.state
      ∧ (Controller.driveOff c).motion.travel = c.motion.travel ∧ (Controller.driveOff c).motion.ramp = c.motion.ramp
      ∧ (Controller.driveOff c).motion.setpoint = c.motion.setpoint
      ∧ (Controller.driveOff c).motion.inForce = c.motion.inForce
      ∧ (Controller.driveOff c).motion.block = c.motion.block ∧ (Controller.driveOff c).motion.write = c.motion.write := by
  refine ⟨?_, ?_, ?_, ?_, ?_, ?_, ?_, ?_, ?_, ?_, ?_, ?_, ?_, ?_, ?_, ?_, ?_, ?_⟩ <;> rfl

@[simp] theorem Controller.standStill_frame (c : Controller) :
    (Controller.standStill c).settings = c.settings ∧ (Controller.standStill c).air = c.air
      ∧ (Controller.standStill c).command = c.command ∧ (Controller.standStill c).beat = c.beat
      ∧ (Controller.standStill c).consist = c.consist ∧ (Controller.standStill c).sound = c.sound
      ∧ (Controller.standStill c).smoke = c.smoke ∧ (Controller.standStill c).light = c.light
      ∧ (Controller.standStill c).supply = c.supply ∧ (Controller.standStill c).counters = c.counters
      ∧ (Controller.standStill c).latches = c.latches ∧ (Controller.standStill c).motion.state = c.motion.state
      ∧ (Controller.standStill c).motion.travel = c.motion.travel
      ∧ (Controller.standStill c).motion.setpoint = c.motion.setpoint
      ∧ (Controller.standStill c).motion.inForce = c.motion.inForce
      ∧ (Controller.standStill c).motion.block = c.motion.block ∧ (Controller.standStill c).motion.write = c.motion.write := by
  refine ⟨?_, ?_, ?_, ?_, ?_, ?_, ?_, ?_, ?_, ?_, ?_, ?_, ?_, ?_, ?_, ?_, ?_⟩ <;> rfl

@[simp] theorem Controller.leaveCalibration_frame (state : MotionState) (c : Controller) :
    (Controller.leaveCalibration state c).settings = c.settings ∧ (Controller.leaveCalibration state c).beat = c.beat
      ∧ (Controller.leaveCalibration state c).consist = c.consist
      ∧ (Controller.leaveCalibration state c).sound = c.sound ∧ (Controller.leaveCalibration state c).smoke = c.smoke
      ∧ (Controller.leaveCalibration state c).light = c.light ∧ (Controller.leaveCalibration state c).supply = c.supply
      ∧ (Controller.leaveCalibration state c).counters = c.counters
      ∧ (Controller.leaveCalibration state c).latches = c.latches
      ∧ (Controller.leaveCalibration state c).air.rxFifo = c.air.rxFifo
      ∧ (Controller.leaveCalibration state c).air.peers = c.air.peers
      ∧ (Controller.leaveCalibration state c).air.outgoing = c.air.outgoing
      ∧ (Controller.leaveCalibration state c).air.transmitter = c.air.transmitter
      ∧ (Controller.leaveCalibration state c).command.binding = c.command.binding
      ∧ (Controller.leaveCalibration state c).command.commandedStep = c.command.commandedStep
      ∧ (Controller.leaveCalibration state c).command.requestedDirection = c.command.requestedDirection
      ∧ (Controller.leaveCalibration state c).command.functions = c.command.functions
      ∧ (Controller.leaveCalibration state c).command.lastHalt = c.command.lastHalt
      ∧ (Controller.leaveCalibration state c).command.partMode = c.command.partMode
      ∧ (Controller.leaveCalibration state c).motion.travel = c.motion.travel
      ∧ (Controller.leaveCalibration state c).motion.setpoint = c.motion.setpoint
      ∧ (Controller.leaveCalibration state c).motion.inForce = c.motion.inForce
      ∧ (Controller.leaveCalibration state c).motion.block = c.motion.block
      ∧ (Controller.leaveCalibration state c).motion.write = c.motion.write := by
  refine ⟨?_, ?_, ?_, ?_, ?_, ?_, ?_, ?_, ?_, ?_, ?_, ?_, ?_, ?_, ?_, ?_, ?_, ?_, ?_, ?_, ?_, ?_, ?_, ?_⟩ <;> simp [Controller.leaveCalibration]

@[simp] theorem Controller.emergencyStop_frame (c : Controller) :
    (Controller.emergencyStop c).settings = c.settings ∧ (Controller.emergencyStop c).beat = c.beat
      ∧ (Controller.emergencyStop c).consist = c.consist ∧ (Controller.emergencyStop c).smoke = c.smoke
      ∧ (Controller.emergencyStop c).light = c.light ∧ (Controller.emergencyStop c).supply = c.supply
      ∧ (Controller.emergencyStop c).counters = c.counters ∧ (Controller.emergencyStop c).latches = c.latches
      ∧ (Controller.emergencyStop c).air.rxFifo = c.air.rxFifo ∧ (Controller.emergencyStop c).air.peers = c.air.peers
      ∧ (Controller.emergencyStop c).air.outgoing = c.air.outgoing
      ∧ (Controller.emergencyStop c).air.transmitter = c.air.transmitter
      ∧ (Controller.emergencyStop c).command.binding = c.command.binding
      ∧ (Controller.emergencyStop c).command.commandedStep = c.command.commandedStep
      ∧ (Controller.emergencyStop c).command.requestedDirection = c.command.requestedDirection
      ∧ (Controller.emergencyStop c).command.functions = c.command.functions
      ∧ (Controller.emergencyStop c).command.lastHalt = c.command.lastHalt
      ∧ (Controller.emergencyStop c).command.partMode = c.command.partMode
      ∧ (Controller.emergencyStop c).motion.travel = c.motion.travel
      ∧ (Controller.emergencyStop c).motion.setpoint = c.motion.setpoint
      ∧ (Controller.emergencyStop c).motion.inForce = c.motion.inForce
      ∧ (Controller.emergencyStop c).motion.block = c.motion.block
      ∧ (Controller.emergencyStop c).motion.write = c.motion.write
      ∧ (Controller.emergencyStop c).sound.programs = c.sound.programs := by
  unfold Controller.emergencyStop
  split <;> simp

@[simp] theorem Controller.driveNotice_frame (step : Nat) (c : Controller) :
    (Controller.driveNotice step c).settings = c.settings ∧ (Controller.driveNotice step c).beat = c.beat
      ∧ (Controller.driveNotice step c).consist = c.consist ∧ (Controller.driveNotice step c).sound = c.sound
      ∧ (Controller.driveNotice step c).smoke = c.smoke ∧ (Controller.driveNotice step c).light = c.light
      ∧ (Controller.driveNotice step c).supply = c.supply ∧ (Controller.driveNotice step c).counters = c.counters
      ∧ (Controller.driveNotice step c).latches = c.latches ∧ (Controller.driveNotice step c).air.rxFifo = c.air.rxFifo
      ∧ (Controller.driveNotice step c).air.peers = c.air.peers
      ∧ (Controller.driveNotice step c).air.outgoing = c.air.outgoing
      ∧ (Controller.driveNotice step c).air.transmitter = c.air.transmitter
      ∧ (Controller.driveNotice step c).command.binding = c.command.binding
      ∧ (Controller.driveNotice step c).command.commandedStep = c.command.commandedStep
      ∧ (Controller.driveNotice step c).command.requestedDirection = c.command.requestedDirection
      ∧ (Controller.driveNotice step c).command.functions = c.command.functions
      ∧ (Controller.driveNotice step c).command.lastHalt = c.command.lastHalt
      ∧ (Controller.driveNotice step c).command.partMode = c.command.partMode
      ∧ (Controller.driveNotice step c).motion.travel = c.motion.travel
      ∧ (Controller.driveNotice step c).motion.setpoint = c.motion.setpoint
      ∧ (Controller.driveNotice step c).motion.inForce = c.motion.inForce
      ∧ (Controller.driveNotice step c).motion.block = c.motion.block
      ∧ (Controller.driveNotice step c).motion.write = c.motion.write := by
  refine ⟨?_, ?_, ?_, ?_, ?_, ?_, ?_, ?_, ?_, ?_, ?_, ?_, ?_, ?_, ?_, ?_, ?_, ?_, ?_, ?_, ?_, ?_, ?_, ?_⟩ <;>
    (unfold Controller.driveNotice; (repeat' split) <;> simp)

@[simp] theorem Controller.latchFault_frame (cause : FaultCause) (c : Controller) :
    (Controller.latchFault cause c).settings = c.settings ∧ (Controller.latchFault cause c).beat = c.beat
      ∧ (Controller.latchFault cause c).consist = c.consist ∧ (Controller.latchFault cause c).sound = c.sound
      ∧ (Controller.latchFault cause c).smoke = c.smoke ∧ (Controller.latchFault cause c).light = c.light
      ∧ (Controller.latchFault cause c).supply = c.supply ∧ (Controller.latchFault cause c).counters = c.counters
      ∧ (Controller.latchFault cause c).latches = c.latches ∧ (Controller.latchFault cause c).air.rxFifo = c.air.rxFifo
      ∧ (Controller.latchFault cause c).air.peers = c.air.peers
      ∧ (Controller.latchFault cause c).air.outgoing = c.air.outgoing
      ∧ (Controller.latchFault cause c).air.transmitter = c.air.transmitter
      ∧ (Controller.latchFault cause c).command.binding = c.command.binding
      ∧ (Controller.latchFault cause c).command.commandedStep = c.command.commandedStep
      ∧ (Controller.latchFault cause c).command.requestedDirection = c.command.requestedDirection
      ∧ (Controller.latchFault cause c).command.functions = c.command.functions
      ∧ (Controller.latchFault cause c).command.lastHalt = c.command.lastHalt
      ∧ (Controller.latchFault cause c).command.partMode = c.command.partMode
      ∧ (Controller.latchFault cause c).motion.travel = c.motion.travel
      ∧ (Controller.latchFault cause c).motion.setpoint = c.motion.setpoint
      ∧ (Controller.latchFault cause c).motion.inForce = c.motion.inForce
      ∧ (Controller.latchFault cause c).motion.block = c.motion.block
      ∧ (Controller.latchFault cause c).motion.write = c.motion.write := by
  refine ⟨?_, ?_, ?_, ?_, ?_, ?_, ?_, ?_, ?_, ?_, ?_, ?_, ?_, ?_, ?_, ?_, ?_, ?_, ?_, ?_, ?_, ?_, ?_, ?_⟩ <;> simp [Controller.latchFault]

@[simp] theorem Controller.abortCalibration_frame (c : Controller) :
    (Controller.abortCalibration c).settings = c.settings ∧ (Controller.abortCalibration c).beat = c.beat
      ∧ (Controller.abortCalibration c).consist = c.consist ∧ (Controller.abortCalibration c).sound = c.sound
      ∧ (Controller.abortCalibration c).smoke = c.smoke ∧ (Controller.abortCalibration c).light = c.light
      ∧ (Controller.abortCalibration c).supply = c.supply ∧ (Controller.abortCalibration c).counters = c.counters
      ∧ (Controller.abortCalibration c).latches = c.latches ∧ (Controller.abortCalibration c).air.rxFifo = c.air.rxFifo
      ∧ (Controller.abortCalibration c).air.peers = c.air.peers
      ∧ (Controller.abortCalibration c).air.outgoing = c.air.outgoing
      ∧ (Controller.abortCalibration c).air.transmitter = c.air.transmitter
      ∧ (Controller.abortCalibration c).command.binding = c.command.binding
      ∧ (Controller.abortCalibration c).command.commandedStep = c.command.commandedStep
      ∧ (Controller.abortCalibration c).command.requestedDirection = c.command.requestedDirection
      ∧ (Controller.abortCalibration c).command.functions = c.command.functions
      ∧ (Controller.abortCalibration c).command.lastHalt = c.command.lastHalt
      ∧ (Controller.abortCalibration c).command.partMode = c.command.partMode
      ∧ (Controller.abortCalibration c).motion.travel = c.motion.travel
      ∧ (Controller.abortCalibration c).motion.setpoint = c.motion.setpoint
      ∧ (Controller.abortCalibration c).motion.inForce = c.motion.inForce
      ∧ (Controller.abortCalibration c).motion.block = c.motion.block
      ∧ (Controller.abortCalibration c).motion.write = c.motion.write := by
  unfold Controller.abortCalibration
  split <;> simp

@[simp] theorem Controller.directionStage_frame (c : Controller) :
    (Controller.directionStage c).settings = c.settings ∧ (Controller.directionStage c).command = c.command
      ∧ (Controller.directionStage c).beat = c.beat ∧ (Controller.directionStage c).consist = c.consist
      ∧ (Controller.directionStage c).smoke = c.smoke ∧ (Controller.directionStage c).light = c.light
      ∧ (Controller.directionStage c).supply = c.supply ∧ (Controller.directionStage c).counters = c.counters
      ∧ (Controller.directionStage c).latches = c.latches ∧ (Controller.directionStage c).air.rxFifo = c.air.rxFifo
      ∧ (Controller.directionStage c).air.peers = c.air.peers
      ∧ (Controller.directionStage c).air.outgoing = c.air.outgoing
      ∧ (Controller.directionStage c).air.transmitter = c.air.transmitter
      ∧ (Controller.directionStage c).motion.state = c.motion.state
      ∧ (Controller.directionStage c).motion.ramp = c.motion.ramp
      ∧ (Controller.directionStage c).motion.duty = c.motion.duty
      ∧ (Controller.directionStage c).motion.setpoint = c.motion.setpoint
      ∧ (Controller.directionStage c).motion.inForce = c.motion.inForce
      ∧ (Controller.directionStage c).motion.block = c.motion.block
      ∧ (Controller.directionStage c).motion.write = c.motion.write
      ∧ (Controller.directionStage c).sound.programs = c.sound.programs := by
  unfold Controller.directionStage
  split <;> simp

@[simp] theorem Controller.judgeDeparture_frame (before : Nat) (c : Controller) :
    (Controller.judgeDeparture before c).settings = c.settings ∧ (Controller.judgeDeparture before c).beat = c.beat
      ∧ (Controller.judgeDeparture before c).consist = c.consist ∧ (Controller.judgeDeparture before c).smoke = c.smoke
      ∧ (Controller.judgeDeparture before c).light = c.light ∧ (Controller.judgeDeparture before c).supply = c.supply
      ∧ (Controller.judgeDeparture before c).counters = c.counters
      ∧ (Controller.judgeDeparture before c).latches = c.latches
      ∧ (Controller.judgeDeparture before c).air.rxFifo = c.air.rxFifo
      ∧ (Controller.judgeDeparture before c).air.peers = c.air.peers
      ∧ (Controller.judgeDeparture before c).air.outgoing = c.air.outgoing
      ∧ (Controller.judgeDeparture before c).air.transmitter = c.air.transmitter
      ∧ (Controller.judgeDeparture before c).command.binding = c.command.binding
      ∧ (Controller.judgeDeparture before c).command.commandedStep = c.command.commandedStep
      ∧ (Controller.judgeDeparture before c).command.requestedDirection = c.command.requestedDirection
      ∧ (Controller.judgeDeparture before c).command.functions = c.command.functions
      ∧ (Controller.judgeDeparture before c).command.lastHalt = c.command.lastHalt
      ∧ (Controller.judgeDeparture before c).command.partMode = c.command.partMode
      ∧ (Controller.judgeDeparture before c).motion.travel = c.motion.travel
      ∧ (Controller.judgeDeparture before c).motion.ramp = c.motion.ramp
      ∧ (Controller.judgeDeparture before c).motion.duty = c.motion.duty
      ∧ (Controller.judgeDeparture before c).motion.setpoint = c.motion.setpoint
      ∧ (Controller.judgeDeparture before c).motion.inForce = c.motion.inForce
      ∧ (Controller.judgeDeparture before c).motion.block = c.motion.block
      ∧ (Controller.judgeDeparture before c).motion.write = c.motion.write
      ∧ (Controller.judgeDeparture before c).sound.programs = c.sound.programs := by
  refine ⟨?_, ?_, ?_, ?_, ?_, ?_, ?_, ?_, ?_, ?_, ?_, ?_, ?_, ?_, ?_, ?_, ?_, ?_, ?_, ?_, ?_, ?_, ?_, ?_, ?_, ?_⟩ <;>
    (unfold Controller.judgeDeparture; (repeat' split) <;> simp)

@[simp] theorem Controller.rampStage_frame (waiting : Bool) (c : Controller) :
    (Controller.rampStage waiting c).settings = c.settings ∧ (Controller.rampStage waiting c).beat = c.beat
      ∧ (Controller.rampStage waiting c).consist = c.consist ∧ (Controller.rampStage waiting c).smoke = c.smoke
      ∧ (Controller.rampStage waiting c).light = c.light ∧ (Controller.rampStage waiting c).supply = c.supply
      ∧ (Controller.rampStage waiting c).counters = c.counters ∧ (Controller.rampStage waiting c).latches = c.latches
      ∧ (Controller.rampStage waiting c).air.rxFifo = c.air.rxFifo
      ∧ (Controller.rampStage waiting c).air.peers = c.air.peers
      ∧ (Controller.rampStage waiting c).air.outgoing = c.air.outgoing
      ∧ (Controller.rampStage waiting c).air.transmitter = c.air.transmitter
      ∧ (Controller.rampStage waiting c).command.binding = c.command.binding
      ∧ (Controller.rampStage waiting c).command.commandedStep = c.command.commandedStep
      ∧ (Controller.rampStage waiting c).command.requestedDirection = c.command.requestedDirection
      ∧ (Controller.rampStage waiting c).command.functions = c.command.functions
      ∧ (Controller.rampStage waiting c).command.lastHalt = c.command.lastHalt
      ∧ (Controller.rampStage waiting c).command.partMode = c.command.partMode
      ∧ (Controller.rampStage waiting c).motion.travel = c.motion.travel
      ∧ (Controller.rampStage waiting c).motion.duty = c.motion.duty
      ∧ (Controller.rampStage waiting c).motion.setpoint = c.motion.setpoint
      ∧ (Controller.rampStage waiting c).motion.inForce = c.motion.inForce
      ∧ (Controller.rampStage waiting c).motion.block = c.motion.block
      ∧ (Controller.rampStage waiting c).motion.write = c.motion.write
      ∧ (Controller.rampStage waiting c).sound.programs = c.sound.programs := by
  refine ⟨?_, ?_, ?_, ?_, ?_, ?_, ?_, ?_, ?_, ?_, ?_, ?_, ?_, ?_, ?_, ?_, ?_, ?_, ?_, ?_, ?_, ?_, ?_, ?_, ?_⟩ <;>
    (unfold Controller.rampStage; (repeat' split) <;> simp)

@[simp] theorem Controller.reseat_frame (c : Controller) :
    (Controller.reseat c).settings = c.settings ∧ (Controller.reseat c).beat = c.beat
      ∧ (Controller.reseat c).consist = c.consist ∧ (Controller.reseat c).smoke = c.smoke
      ∧ (Controller.reseat c).light = c.light ∧ (Controller.reseat c).supply = c.supply
      ∧ (Controller.reseat c).counters = c.counters ∧ (Controller.reseat c).latches = c.latches
      ∧ (Controller.reseat c).air.rxFifo = c.air.rxFifo ∧ (Controller.reseat c).air.peers = c.air.peers
      ∧ (Controller.reseat c).air.outgoing = c.air.outgoing ∧ (Controller.reseat c).air.transmitter = c.air.transmitter
      ∧ (Controller.reseat c).command.binding = c.command.binding
      ∧ (Controller.reseat c).command.commandedStep = c.command.commandedStep
      ∧ (Controller.reseat c).command.requestedDirection = c.command.requestedDirection
      ∧ (Controller.reseat c).command.functions = c.command.functions
      ∧ (Controller.reseat c).command.lastHalt = c.command.lastHalt
      ∧ (Controller.reseat c).command.partMode = c.command.partMode
      ∧ (Controller.reseat c).motion.travel = c.motion.travel ∧ (Controller.reseat c).motion.duty = c.motion.duty
      ∧ (Controller.reseat c).motion.setpoint = c.motion.setpoint
      ∧ (Controller.reseat c).motion.inForce = c.motion.inForce ∧ (Controller.reseat c).motion.block = c.motion.block
      ∧ (Controller.reseat c).motion.write = c.motion.write ∧ (Controller.reseat c).sound.programs = c.sound.programs := by
  unfold Controller.reseat
  split <;> simp

@[simp] theorem Controller.measurementStage_frame (bemf : Nat) (c : Controller) :
    (Controller.measurementStage bemf c).settings = c.settings ∧ (Controller.measurementStage bemf c).air = c.air
      ∧ (Controller.measurementStage bemf c).command = c.command ∧ (Controller.measurementStage bemf c).beat = c.beat
      ∧ (Controller.measurementStage bemf c).consist = c.consist ∧ (Controller.measurementStage bemf c).sound = c.sound
      ∧ (Controller.measurementStage bemf c).smoke = c.smoke ∧ (Controller.measurementStage bemf c).light = c.light
      ∧ (Controller.measurementStage bemf c).supply = c.supply
      ∧ (Controller.measurementStage bemf c).counters = c.counters
      ∧ (Controller.measurementStage bemf c).latches = c.latches
      ∧ (Controller.measurementStage bemf c).motion.state = c.motion.state
      ∧ (Controller.measurementStage bemf c).motion.travel = c.motion.travel
      ∧ (Controller.measurementStage bemf c).motion.ramp = c.motion.ramp
      ∧ (Controller.measurementStage bemf c).motion.duty = c.motion.duty
      ∧ (Controller.measurementStage bemf c).motion.inForce = c.motion.inForce
      ∧ (Controller.measurementStage bemf c).motion.block = c.motion.block
      ∧ (Controller.measurementStage bemf c).motion.write = c.motion.write := by
  refine ⟨?_, ?_, ?_, ?_, ?_, ?_, ?_, ?_, ?_, ?_, ?_, ?_, ?_, ?_, ?_, ?_, ?_, ?_⟩ <;> rfl

@[simp] theorem Controller.limitsStage_frame (current : Nat) (c : Controller) :
    (Controller.limitsStage current c).settings = c.settings ∧ (Controller.limitsStage current c).air = c.air
      ∧ (Controller.limitsStage current c).command = c.command ∧ (Controller.limitsStage current c).beat = c.beat
      ∧ (Controller.limitsStage current c).consist = c.consist ∧ (Controller.limitsStage current c).sound = c.sound
      ∧ (Controller.limitsStage current c).smoke = c.smoke ∧ (Controller.limitsStage current c).light = c.light
      ∧ (Controller.limitsStage current c).supply = c.supply ∧ (Controller.limitsStage current c).counters = c.counters
      ∧ (Controller.limitsStage current c).latches = c.latches
      ∧ (Controller.limitsStage current c).motion.state = c.motion.state
      ∧ (Controller.limitsStage current c).motion.travel = c.motion.travel
      ∧ (Controller.limitsStage current c).motion.ramp = c.motion.ramp
      ∧ (Controller.limitsStage current c).motion.setpoint = c.motion.setpoint
      ∧ (Controller.limitsStage current c).motion.inForce = c.motion.inForce
      ∧ (Controller.limitsStage current c).motion.block = c.motion.block
      ∧ (Controller.limitsStage current c).motion.write = c.motion.write := by
  refine ⟨?_, ?_, ?_, ?_, ?_, ?_, ?_, ?_, ?_, ?_, ?_, ?_, ?_, ?_, ?_, ?_, ?_, ?_⟩ <;> rfl

@[simp] theorem Controller.calibrationStage_frame (c : Controller) :
    (Controller.calibrationStage c).settings = c.settings ∧ (Controller.calibrationStage c).air = c.air
      ∧ (Controller.calibrationStage c).command = c.command ∧ (Controller.calibrationStage c).beat = c.beat
      ∧ (Controller.calibrationStage c).consist = c.consist ∧ (Controller.calibrationStage c).sound = c.sound
      ∧ (Controller.calibrationStage c).smoke = c.smoke ∧ (Controller.calibrationStage c).light = c.light
      ∧ (Controller.calibrationStage c).supply = c.supply ∧ (Controller.calibrationStage c).counters = c.counters
      ∧ (Controller.calibrationStage c).latches = c.latches
      ∧ (Controller.calibrationStage c).motion.state = c.motion.state
      ∧ (Controller.calibrationStage c).motion.travel = c.motion.travel
      ∧ (Controller.calibrationStage c).motion.ramp = c.motion.ramp
      ∧ (Controller.calibrationStage c).motion.duty = c.motion.duty
      ∧ (Controller.calibrationStage c).motion.setpoint = c.motion.setpoint
      ∧ (Controller.calibrationStage c).motion.inForce = c.motion.inForce
      ∧ (Controller.calibrationStage c).motion.block = c.motion.block
      ∧ (Controller.calibrationStage c).motion.write = c.motion.write := by
  unfold Controller.calibrationStage
  split <;> simp

@[simp] theorem Controller.labourStage_frame (c : Controller) :
    (Controller.labourStage c).settings = c.settings ∧ (Controller.labourStage c).air = c.air
      ∧ (Controller.labourStage c).command = c.command ∧ (Controller.labourStage c).beat = c.beat
      ∧ (Controller.labourStage c).consist = c.consist ∧ (Controller.labourStage c).sound = c.sound
      ∧ (Controller.labourStage c).smoke = c.smoke ∧ (Controller.labourStage c).light = c.light
      ∧ (Controller.labourStage c).supply = c.supply ∧ (Controller.labourStage c).counters = c.counters
      ∧ (Controller.labourStage c).latches = c.latches ∧ (Controller.labourStage c).motion.state = c.motion.state
      ∧ (Controller.labourStage c).motion.travel = c.motion.travel
      ∧ (Controller.labourStage c).motion.ramp = c.motion.ramp ∧ (Controller.labourStage c).motion.duty = c.motion.duty
      ∧ (Controller.labourStage c).motion.setpoint = c.motion.setpoint
      ∧ (Controller.labourStage c).motion.inForce = c.motion.inForce
      ∧ (Controller.labourStage c).motion.block = c.motion.block
      ∧ (Controller.labourStage c).motion.write = c.motion.write := by
  refine ⟨?_, ?_, ?_, ?_, ?_, ?_, ?_, ?_, ?_, ?_, ?_, ?_, ?_, ?_, ?_, ?_, ?_, ?_, ?_⟩ <;> rfl

@[simp] theorem Controller.markerNotice_frame (n : MarkerFrame) (c : Controller) :
    (Controller.markerNotice n c).settings = c.settings ∧ (Controller.markerNotice n c).command = c.command
      ∧ (Controller.markerNotice n c).beat = c.beat ∧ (Controller.markerNotice n c).consist = c.consist
      ∧ (Controller.markerNotice n c).sound = c.sound ∧ (Controller.markerNotice n c).smoke = c.smoke
      ∧ (Controller.markerNotice n c).light = c.light ∧ (Controller.markerNotice n c).supply = c.supply
      ∧ (Controller.markerNotice n c).counters = c.counters ∧ (Controller.markerNotice n c).latches = c.latches
      ∧ (Controller.markerNotice n c).air.rxFifo = c.air.rxFifo ∧ (Controller.markerNotice n c).air.peers = c.air.peers
      ∧ (Controller.markerNotice n c).air.outgoing = c.air.outgoing
      ∧ (Controller.markerNotice n c).air.transmitter = c.air.transmitter
      ∧ (Controller.markerNotice n c).motion.state = c.motion.state
      ∧ (Controller.markerNotice n c).motion.travel = c.motion.travel
      ∧ (Controller.markerNotice n c).motion.ramp = c.motion.ramp
      ∧ (Controller.markerNotice n c).motion.duty = c.motion.duty
      ∧ (Controller.markerNotice n c).motion.setpoint = c.motion.setpoint
      ∧ (Controller.markerNotice n c).motion.inForce = c.motion.inForce
      ∧ (Controller.markerNotice n c).motion.write = c.motion.write := by
  refine ⟨?_, ?_, ?_, ?_, ?_, ?_, ?_, ?_, ?_, ?_, ?_, ?_, ?_, ?_, ?_, ?_, ?_, ?_, ?_, ?_, ?_⟩ <;>
    (unfold Controller.markerNotice; (repeat' split) <;> simp)

@[simp] theorem Controller.announceSmoke_frame (before : SmokeState) (c : Controller) :
    (Controller.announceSmoke before c).settings = c.settings ∧ (Controller.announceSmoke before c).command = c.command
      ∧ (Controller.announceSmoke before c).motion = c.motion ∧ (Controller.announceSmoke before c).beat = c.beat
      ∧ (Controller.announceSmoke before c).consist = c.consist ∧ (Controller.announceSmoke before c).sound = c.sound
      ∧ (Controller.announceSmoke before c).smoke = c.smoke ∧ (Controller.announceSmoke before c).light = c.light
      ∧ (Controller.announceSmoke before c).supply = c.supply
      ∧ (Controller.announceSmoke before c).counters = c.counters
      ∧ (Controller.announceSmoke before c).latches = c.latches
      ∧ (Controller.announceSmoke before c).air.rxFifo = c.air.rxFifo
      ∧ (Controller.announceSmoke before c).air.peers = c.air.peers
      ∧ (Controller.announceSmoke before c).air.outgoing = c.air.outgoing
      ∧ (Controller.announceSmoke before c).air.transmitter = c.air.transmitter := by
  unfold Controller.announceSmoke
  split <;> simp

@[simp] theorem Controller.changeSmoke_frame (c : Controller) (f : SmokeController → SmokeController) :
    (Controller.changeSmoke c f).settings = c.settings ∧ (Controller.changeSmoke c f).command = c.command
      ∧ (Controller.changeSmoke c f).motion = c.motion ∧ (Controller.changeSmoke c f).beat = c.beat
      ∧ (Controller.changeSmoke c f).consist = c.consist ∧ (Controller.changeSmoke c f).sound = c.sound
      ∧ (Controller.changeSmoke c f).light = c.light ∧ (Controller.changeSmoke c f).supply = c.supply
      ∧ (Controller.changeSmoke c f).counters = c.counters ∧ (Controller.changeSmoke c f).latches = c.latches
      ∧ (Controller.changeSmoke c f).air.rxFifo = c.air.rxFifo ∧ (Controller.changeSmoke c f).air.peers = c.air.peers
      ∧ (Controller.changeSmoke c f).air.outgoing = c.air.outgoing
      ∧ (Controller.changeSmoke c f).air.transmitter = c.air.transmitter := by
  refine ⟨?_, ?_, ?_, ?_, ?_, ?_, ?_, ?_, ?_, ?_, ?_, ?_, ?_, ?_⟩ <;> simp [Controller.changeSmoke]

@[simp] theorem Controller.startSmoke_frame (c : Controller) :
    (Controller.startSmoke c).settings = c.settings ∧ (Controller.startSmoke c).command = c.command
      ∧ (Controller.startSmoke c).motion = c.motion ∧ (Controller.startSmoke c).beat = c.beat
      ∧ (Controller.startSmoke c).consist = c.consist ∧ (Controller.startSmoke c).sound = c.sound
      ∧ (Controller.startSmoke c).light = c.light ∧ (Controller.startSmoke c).supply = c.supply
      ∧ (Controller.startSmoke c).counters = c.counters ∧ (Controller.startSmoke c).latches = c.latches
      ∧ (Controller.startSmoke c).air.rxFifo = c.air.rxFifo ∧ (Controller.startSmoke c).air.peers = c.air.peers
      ∧ (Controller.startSmoke c).air.outgoing = c.air.outgoing
      ∧ (Controller.startSmoke c).air.transmitter = c.air.transmitter := by
  unfold Controller.startSmoke
  split <;> simp

@[simp] theorem Controller.latchSmokeFault_frame (c : Controller) :
    (Controller.latchSmokeFault c).settings = c.settings ∧ (Controller.latchSmokeFault c).air = c.air
      ∧ (Controller.latchSmokeFault c).command = c.command ∧ (Controller.latchSmokeFault c).motion = c.motion
      ∧ (Controller.latchSmokeFault c).beat = c.beat ∧ (Controller.latchSmokeFault c).consist = c.consist
      ∧ (Controller.latchSmokeFault c).sound = c.sound ∧ (Controller.latchSmokeFault c).smoke = c.smoke
      ∧ (Controller.latchSmokeFault c).light = c.light ∧ (Controller.latchSmokeFault c).supply = c.supply
      ∧ (Controller.latchSmokeFault c).counters = c.counters := by
  refine ⟨?_, ?_, ?_, ?_, ?_, ?_, ?_, ?_, ?_, ?_, ?_⟩ <;> rfl

@[simp] theorem Controller.startPurge_frame (c : Controller) :
    (Controller.startPurge c).settings = c.settings ∧ (Controller.startPurge c).command = c.command
      ∧ (Controller.startPurge c).motion = c.motion ∧ (Controller.startPurge c).beat = c.beat
      ∧ (Controller.startPurge c).consist = c.consist ∧ (Controller.startPurge c).sound = c.sound
      ∧ (Controller.startPurge c).light = c.light ∧ (Controller.startPurge c).supply = c.supply
      ∧ (Controller.startPurge c).counters = c.counters ∧ (Controller.startPurge c).air.rxFifo = c.air.rxFifo
      ∧ (Controller.startPurge c).air.peers = c.air.peers ∧ (Controller.startPurge c).air.outgoing = c.air.outgoing
      ∧ (Controller.startPurge c).air.transmitter = c.air.transmitter := by
  refine ⟨?_, ?_, ?_, ?_, ?_, ?_, ?_, ?_, ?_, ?_, ?_, ?_, ?_⟩ <;> simp [Controller.startPurge]

@[simp] theorem Controller.smokeEdge_frame (rising : Bool) (c : Controller) :
    (Controller.smokeEdge rising c).settings = c.settings ∧ (Controller.smokeEdge rising c).command = c.command
      ∧ (Controller.smokeEdge rising c).motion = c.motion ∧ (Controller.smokeEdge rising c).beat = c.beat
      ∧ (Controller.smokeEdge rising c).consist = c.consist ∧ (Controller.smokeEdge rising c).sound = c.sound
      ∧ (Controller.smokeEdge rising c).light = c.light ∧ (Controller.smokeEdge rising c).supply = c.supply
      ∧ (Controller.smokeEdge rising c).counters = c.counters ∧ (Controller.smokeEdge rising c).latches = c.latches
      ∧ (Controller.smokeEdge rising c).air.rxFifo = c.air.rxFifo
      ∧ (Controller.smokeEdge rising c).air.peers = c.air.peers
      ∧ (Controller.smokeEdge rising c).air.outgoing = c.air.outgoing
      ∧ (Controller.smokeEdge rising c).air.transmitter = c.air.transmitter := by
  refine ⟨?_, ?_, ?_, ?_, ?_, ?_, ?_, ?_, ?_, ?_, ?_, ?_, ?_, ?_⟩ <;>
    (unfold Controller.smokeEdge; (repeat' split) <;> simp)

@[simp] theorem Controller.smokeShed_frame (level : Nat) (c : Controller) :
    (Controller.smokeShed level c).settings = c.settings ∧ (Controller.smokeShed level c).command = c.command
      ∧ (Controller.smokeShed level c).motion = c.motion ∧ (Controller.smokeShed level c).beat = c.beat
      ∧ (Controller.smokeShed level c).consist = c.consist ∧ (Controller.smokeShed level c).sound = c.sound
      ∧ (Controller.smokeShed level c).light = c.light ∧ (Controller.smokeShed level c).supply = c.supply
      ∧ (Controller.smokeShed level c).counters = c.counters ∧ (Controller.smokeShed level c).latches = c.latches
      ∧ (Controller.smokeShed level c).air.rxFifo = c.air.rxFifo
      ∧ (Controller.smokeShed level c).air.peers = c.air.peers
      ∧ (Controller.smokeShed level c).air.outgoing = c.air.outgoing
      ∧ (Controller.smokeShed level c).air.transmitter = c.air.transmitter := by
  refine ⟨?_, ?_, ?_, ?_, ?_, ?_, ?_, ?_, ?_, ?_, ?_, ?_, ?_, ?_⟩ <;>
    (unfold Controller.smokeShed; (repeat' split) <;> simp)

@[simp] theorem Controller.smokePark_frame (c : Controller) :
    (Controller.smokePark c).settings = c.settings ∧ (Controller.smokePark c).command = c.command
      ∧ (Controller.smokePark c).motion = c.motion ∧ (Controller.smokePark c).beat = c.beat
      ∧ (Controller.smokePark c).consist = c.consist ∧ (Controller.smokePark c).sound = c.sound
      ∧ (Controller.smokePark c).light = c.light ∧ (Controller.smokePark c).supply = c.supply
      ∧ (Controller.smokePark c).counters = c.counters ∧ (Controller.smokePark c).latches = c.latches
      ∧ (Controller.smokePark c).air.rxFifo = c.air.rxFifo ∧ (Controller.smokePark c).air.peers = c.air.peers
      ∧ (Controller.smokePark c).air.outgoing = c.air.outgoing
      ∧ (Controller.smokePark c).air.transmitter = c.air.transmitter := by
  unfold Controller.smokePark
  split <;> simp

@[simp] theorem Controller.smokeUnpark_frame (c : Controller) :
    (Controller.smokeUnpark c).settings = c.settings ∧ (Controller.smokeUnpark c).command = c.command
      ∧ (Controller.smokeUnpark c).motion = c.motion ∧ (Controller.smokeUnpark c).beat = c.beat
      ∧ (Controller.smokeUnpark c).consist = c.consist ∧ (Controller.smokeUnpark c).sound = c.sound
      ∧ (Controller.smokeUnpark c).light = c.light ∧ (Controller.smokeUnpark c).supply = c.supply
      ∧ (Controller.smokeUnpark c).counters = c.counters ∧ (Controller.smokeUnpark c).latches = c.latches
      ∧ (Controller.smokeUnpark c).air.rxFifo = c.air.rxFifo ∧ (Controller.smokeUnpark c).air.peers = c.air.peers
      ∧ (Controller.smokeUnpark c).air.outgoing = c.air.outgoing
      ∧ (Controller.smokeUnpark c).air.transmitter = c.air.transmitter := by
  unfold Controller.smokeUnpark
  split <;> simp

@[simp] theorem Controller.puffBeat_frame (labour : LabourLevel) (c : Controller) :
    (Controller.puffBeat labour c).settings = c.settings ∧ (Controller.puffBeat labour c).air = c.air
      ∧ (Controller.puffBeat labour c).command = c.command ∧ (Controller.puffBeat labour c).motion = c.motion
      ∧ (Controller.puffBeat labour c).beat = c.beat ∧ (Controller.puffBeat labour c).consist = c.consist
      ∧ (Controller.puffBeat labour c).sound = c.sound ∧ (Controller.puffBeat labour c).light = c.light
      ∧ (Controller.puffBeat labour c).supply = c.supply ∧ (Controller.puffBeat labour c).counters = c.counters
      ∧ (Controller.puffBeat labour c).latches = c.latches := by
  unfold Controller.puffBeat
  split <;> simp

@[simp] theorem Controller.smokeTick_frame (reading : Nat) (c : Controller) :
    (Controller.smokeTick reading c).settings = c.settings ∧ (Controller.smokeTick reading c).command = c.command
      ∧ (Controller.smokeTick reading c).motion = c.motion ∧ (Controller.smokeTick reading c).beat = c.beat
      ∧ (Controller.smokeTick reading c).consist = c.consist ∧ (Controller.smokeTick reading c).sound = c.sound
      ∧ (Controller.smokeTick reading c).light = c.light ∧ (Controller.smokeTick reading c).supply = c.supply
      ∧ (Controller.smokeTick reading c).counters = c.counters
      ∧ (Controller.smokeTick reading c).air.rxFifo = c.air.rxFifo
      ∧ (Controller.smokeTick reading c).air.peers = c.air.peers
      ∧ (Controller.smokeTick reading c).air.outgoing = c.air.outgoing
      ∧ (Controller.smokeTick reading c).air.transmitter = c.air.transmitter := by
  refine ⟨?_, ?_, ?_, ?_, ?_, ?_, ?_, ?_, ?_, ?_, ?_, ?_, ?_⟩ <;>
    (unfold Controller.smokeTick; dsimp only; (repeat' split) <;> simp)

@[simp] theorem Controller.endPuff_frame (c : Controller) :
    (Controller.endPuff c).settings = c.settings ∧ (Controller.endPuff c).air = c.air
      ∧ (Controller.endPuff c).command = c.command ∧ (Controller.endPuff c).motion = c.motion
      ∧ (Controller.endPuff c).beat = c.beat ∧ (Controller.endPuff c).consist = c.consist
      ∧ (Controller.endPuff c).sound = c.sound ∧ (Controller.endPuff c).light = c.light
      ∧ (Controller.endPuff c).supply = c.supply ∧ (Controller.endPuff c).counters = c.counters
      ∧ (Controller.endPuff c).latches = c.latches := by
  refine ⟨?_, ?_, ?_, ?_, ?_, ?_, ?_, ?_, ?_, ?_, ?_⟩ <;> rfl

@[simp] theorem Controller.endPurge_frame (c : Controller) :
    (Controller.endPurge c).settings = c.settings ∧ (Controller.endPurge c).command = c.command
      ∧ (Controller.endPurge c).motion = c.motion ∧ (Controller.endPurge c).beat = c.beat
      ∧ (Controller.endPurge c).consist = c.consist ∧ (Controller.endPurge c).sound = c.sound
      ∧ (Controller.endPurge c).light = c.light ∧ (Controller.endPurge c).supply = c.supply
      ∧ (Controller.endPurge c).counters = c.counters ∧ (Controller.endPurge c).latches = c.latches
      ∧ (Controller.endPurge c).air.rxFifo = c.air.rxFifo ∧ (Controller.endPurge c).air.peers = c.air.peers
      ∧ (Controller.endPurge c).air.outgoing = c.air.outgoing
      ∧ (Controller.endPurge c).air.transmitter = c.air.transmitter := by
  unfold Controller.endPurge
  split <;> simp

@[simp] theorem Controller.setMode_frame (mode : PartMode) (c : Controller) :
    (Controller.setMode mode c).settings = c.settings ∧ (Controller.setMode mode c).motion = c.motion
      ∧ (Controller.setMode mode c).beat = c.beat ∧ (Controller.setMode mode c).consist = c.consist
      ∧ (Controller.setMode mode c).sound = c.sound ∧ (Controller.setMode mode c).smoke = c.smoke
      ∧ (Controller.setMode mode c).light = c.light ∧ (Controller.setMode mode c).supply = c.supply
      ∧ (Controller.setMode mode c).counters = c.counters ∧ (Controller.setMode mode c).latches = c.latches
      ∧ (Controller.setMode mode c).air.rxFifo = c.air.rxFifo ∧ (Controller.setMode mode c).air.peers = c.air.peers
      ∧ (Controller.setMode mode c).air.outgoing = c.air.outgoing
      ∧ (Controller.setMode mode c).air.transmitter = c.air.transmitter
      ∧ (Controller.setMode mode c).command.binding = c.command.binding
      ∧ (Controller.setMode mode c).command.commandedStep = c.command.commandedStep
      ∧ (Controller.setMode mode c).command.requestedDirection = c.command.requestedDirection
      ∧ (Controller.setMode mode c).command.functions = c.command.functions
      ∧ (Controller.setMode mode c).command.lastHalt = c.command.lastHalt := by
  refine ⟨?_, ?_, ?_, ?_, ?_, ?_, ?_, ?_, ?_, ?_, ?_, ?_, ?_, ?_, ?_, ?_, ?_, ?_, ?_⟩ <;> rfl

@[simp] theorem Controller.enterParked_frame (c : Controller) :
    (Controller.enterParked c).settings = c.settings ∧ (Controller.enterParked c).motion = c.motion
      ∧ (Controller.enterParked c).beat = c.beat ∧ (Controller.enterParked c).consist = c.consist
      ∧ (Controller.enterParked c).supply = c.supply ∧ (Controller.enterParked c).counters = c.counters
      ∧ (Controller.enterParked c).latches = c.latches ∧ (Controller.enterParked c).air.rxFifo = c.air.rxFifo
      ∧ (Controller.enterParked c).air.peers = c.air.peers ∧ (Controller.enterParked c).air.outgoing = c.air.outgoing
      ∧ (Controller.enterParked c).air.transmitter = c.air.transmitter
      ∧ (Controller.enterParked c).command.binding = c.command.binding
      ∧ (Controller.enterParked c).command.commandedStep = c.command.commandedStep
      ∧ (Controller.enterParked c).command.requestedDirection = c.command.requestedDirection
      ∧ (Controller.enterParked c).command.functions = c.command.functions
      ∧ (Controller.enterParked c).command.lastHalt = c.command.lastHalt
      ∧ (Controller.enterParked c).sound.programs = c.sound.programs := by
  refine ⟨?_, ?_, ?_, ?_, ?_, ?_, ?_, ?_, ?_, ?_, ?_, ?_, ?_, ?_, ?_, ?_, ?_⟩ <;> simp [Controller.enterParked]

@[simp] theorem Controller.unpark_frame (c : Controller) :
    (Controller.unpark c).settings = c.settings ∧ (Controller.unpark c).motion = c.motion
      ∧ (Controller.unpark c).beat = c.beat ∧ (Controller.unpark c).consist = c.consist
      ∧ (Controller.unpark c).supply = c.supply ∧ (Controller.unpark c).counters = c.counters
      ∧ (Controller.unpark c).latches = c.latches ∧ (Controller.unpark c).air.rxFifo = c.air.rxFifo
      ∧ (Controller.unpark c).air.peers = c.air.peers ∧ (Controller.unpark c).air.outgoing = c.air.outgoing
      ∧ (Controller.unpark c).air.transmitter = c.air.transmitter
      ∧ (Controller.unpark c).command.binding = c.command.binding
      ∧ (Controller.unpark c).command.commandedStep = c.command.commandedStep
      ∧ (Controller.unpark c).command.requestedDirection = c.command.requestedDirection
      ∧ (Controller.unpark c).command.functions = c.command.functions
      ∧ (Controller.unpark c).command.lastHalt = c.command.lastHalt
      ∧ (Controller.unpark c).sound.programs = c.sound.programs := by
  refine ⟨?_, ?_, ?_, ?_, ?_, ?_, ?_, ?_, ?_, ?_, ?_, ?_, ?_, ?_, ?_, ?_, ?_⟩ <;> simp [Controller.unpark]

@[simp] theorem Controller.deliverEdge_frame (action : FunctionAction) (rising before : Bool) (c : Controller) :
    (Controller.deliverEdge action rising before c).settings = c.settings
      ∧ (Controller.deliverEdge action rising before c).command = c.command
      ∧ (Controller.deliverEdge action rising before c).motion = c.motion
      ∧ (Controller.deliverEdge action rising before c).beat = c.beat
      ∧ (Controller.deliverEdge action rising before c).consist = c.consist
      ∧ (Controller.deliverEdge action rising before c).supply = c.supply
      ∧ (Controller.deliverEdge action rising before c).counters = c.counters
      ∧ (Controller.deliverEdge action rising before c).latches = c.latches
      ∧ (Controller.deliverEdge action rising before c).air.rxFifo = c.air.rxFifo
      ∧ (Controller.deliverEdge action rising before c).air.peers = c.air.peers
      ∧ (Controller.deliverEdge action rising before c).air.outgoing = c.air.outgoing
      ∧ (Controller.deliverEdge action rising before c).air.transmitter = c.air.transmitter
      ∧ (Controller.deliverEdge action rising before c).sound.programs = c.sound.programs := by
  refine ⟨?_, ?_, ?_, ?_, ?_, ?_, ?_, ?_, ?_, ?_, ?_, ?_, ?_⟩ <;>
    (unfold Controller.deliverEdge; (repeat' split) <;> simp)

@[simp] theorem Controller.applyFunction_frame (value : BitVec 24) (mask : BitVec 24) (c : Controller) (i : Nat) :
    (Controller.applyFunction value mask c i).settings = c.settings
      ∧ (Controller.applyFunction value mask c i).motion = c.motion
      ∧ (Controller.applyFunction value mask c i).beat = c.beat
      ∧ (Controller.applyFunction value mask c i).consist = c.consist
      ∧ (Controller.applyFunction value mask c i).supply = c.supply
      ∧ (Controller.applyFunction value mask c i).counters = c.counters
      ∧ (Controller.applyFunction value mask c i).latches = c.latches
      ∧ (Controller.applyFunction value mask c i).air.rxFifo = c.air.rxFifo
      ∧ (Controller.applyFunction value mask c i).air.peers = c.air.peers
      ∧ (Controller.applyFunction value mask c i).air.outgoing = c.air.outgoing
      ∧ (Controller.applyFunction value mask c i).air.transmitter = c.air.transmitter
      ∧ (Controller.applyFunction value mask c i).command.binding = c.command.binding
      ∧ (Controller.applyFunction value mask c i).command.commandedStep = c.command.commandedStep
      ∧ (Controller.applyFunction value mask c i).command.requestedDirection = c.command.requestedDirection
      ∧ (Controller.applyFunction value mask c i).command.lastHalt = c.command.lastHalt
      ∧ (Controller.applyFunction value mask c i).command.partMode = c.command.partMode
      ∧ (Controller.applyFunction value mask c i).sound.programs = c.sound.programs := by
  unfold Controller.applyFunction
  split <;> simp

@[simp] theorem Controller.applyFunctions_frame (value mask : BitVec 24) (c : Controller) :
    (Controller.applyFunctions value mask c).settings = c.settings
      ∧ (Controller.applyFunctions value mask c).motion = c.motion
      ∧ (Controller.applyFunctions value mask c).beat = c.beat
      ∧ (Controller.applyFunctions value mask c).consist = c.consist
      ∧ (Controller.applyFunctions value mask c).supply = c.supply
      ∧ (Controller.applyFunctions value mask c).counters = c.counters
      ∧ (Controller.applyFunctions value mask c).latches = c.latches
      ∧ (Controller.applyFunctions value mask c).air.rxFifo = c.air.rxFifo
      ∧ (Controller.applyFunctions value mask c).air.peers = c.air.peers
      ∧ (Controller.applyFunctions value mask c).air.outgoing = c.air.outgoing
      ∧ (Controller.applyFunctions value mask c).air.transmitter = c.air.transmitter
      ∧ (Controller.applyFunctions value mask c).command.binding = c.command.binding
      ∧ (Controller.applyFunctions value mask c).command.commandedStep = c.command.commandedStep
      ∧ (Controller.applyFunctions value mask c).command.requestedDirection = c.command.requestedDirection
      ∧ (Controller.applyFunctions value mask c).command.lastHalt = c.command.lastHalt
      ∧ (Controller.applyFunctions value mask c).command.partMode = c.command.partMode
      ∧ (Controller.applyFunctions value mask c).sound.programs = c.sound.programs := by
  refine ⟨?_, ?_, ?_, ?_, ?_, ?_, ?_, ?_, ?_, ?_, ?_, ?_, ?_, ?_, ?_, ?_, ?_⟩ <;>
    (unfold Controller.applyFunctions; generalize List.range 24 = l; induction l generalizing c <;> simp_all)

@[simp] theorem Controller.recordDrive_frame (d : DriveFrame) (via : BoundVia) (c : Controller) :
    (Controller.recordDrive d via c).settings = c.settings ∧ (Controller.recordDrive d via c).air = c.air
      ∧ (Controller.recordDrive d via c).motion = c.motion ∧ (Controller.recordDrive d via c).beat = c.beat
      ∧ (Controller.recordDrive d via c).consist = c.consist ∧ (Controller.recordDrive d via c).sound = c.sound
      ∧ (Controller.recordDrive d via c).smoke = c.smoke ∧ (Controller.recordDrive d via c).light = c.light
      ∧ (Controller.recordDrive d via c).supply = c.supply ∧ (Controller.recordDrive d via c).counters = c.counters
      ∧ (Controller.recordDrive d via c).latches = c.latches
      ∧ (Controller.recordDrive d via c).command.functions = c.command.functions
      ∧ (Controller.recordDrive d via c).command.lastHalt = c.command.lastHalt
      ∧ (Controller.recordDrive d via c).command.partMode = c.command.partMode := by
  refine ⟨?_, ?_, ?_, ?_, ?_, ?_, ?_, ?_, ?_, ?_, ?_, ?_, ?_, ?_⟩ <;> rfl

@[simp] theorem Controller.consistDriveNotice_frame (step : Nat) (c : Controller) :
    (Controller.consistDriveNotice step c).settings = c.settings ∧ (Controller.consistDriveNotice step c).air = c.air
      ∧ (Controller.consistDriveNotice step c).command = c.command
      ∧ (Controller.consistDriveNotice step c).motion = c.motion ∧ (Controller.consistDriveNotice step c).beat = c.beat
      ∧ (Controller.consistDriveNotice step c).sound = c.sound ∧ (Controller.consistDriveNotice step c).smoke = c.smoke
      ∧ (Controller.consistDriveNotice step c).light = c.light
      ∧ (Controller.consistDriveNotice step c).supply = c.supply
      ∧ (Controller.consistDriveNotice step c).counters = c.counters
      ∧ (Controller.consistDriveNotice step c).latches = c.latches
      ∧ (Controller.consistDriveNotice step c).consist.state = c.consist.state
      ∧ (Controller.consistDriveNotice step c).consist.membership = c.consist.membership
      ∧ (Controller.consistDriveNotice step c).consist.common = c.consist.common := by
  unfold Controller.consistDriveNotice
  split <;> simp

@[simp] theorem Controller.noticeDrive_frame (step : Nat) (via : BoundVia) (c : Controller) :
    (Controller.noticeDrive step via c).settings = c.settings ∧ (Controller.noticeDrive step via c).beat = c.beat
      ∧ (Controller.noticeDrive step via c).sound = c.sound ∧ (Controller.noticeDrive step via c).smoke = c.smoke
      ∧ (Controller.noticeDrive step via c).light = c.light ∧ (Controller.noticeDrive step via c).supply = c.supply
      ∧ (Controller.noticeDrive step via c).counters = c.counters
      ∧ (Controller.noticeDrive step via c).latches = c.latches
      ∧ (Controller.noticeDrive step via c).air.rxFifo = c.air.rxFifo
      ∧ (Controller.noticeDrive step via c).air.peers = c.air.peers
      ∧ (Controller.noticeDrive step via c).air.outgoing = c.air.outgoing
      ∧ (Controller.noticeDrive step via c).air.transmitter = c.air.transmitter
      ∧ (Controller.noticeDrive step via c).command.binding = c.command.binding
      ∧ (Controller.noticeDrive step via c).command.commandedStep = c.command.commandedStep
      ∧ (Controller.noticeDrive step via c).command.requestedDirection = c.command.requestedDirection
      ∧ (Controller.noticeDrive step via c).command.functions = c.command.functions
      ∧ (Controller.noticeDrive step via c).command.lastHalt = c.command.lastHalt
      ∧ (Controller.noticeDrive step via c).command.partMode = c.command.partMode
      ∧ (Controller.noticeDrive step via c).motion.travel = c.motion.travel
      ∧ (Controller.noticeDrive step via c).motion.setpoint = c.motion.setpoint
      ∧ (Controller.noticeDrive step via c).motion.inForce = c.motion.inForce
      ∧ (Controller.noticeDrive step via c).motion.block = c.motion.block
      ∧ (Controller.noticeDrive step via c).motion.write = c.motion.write
      ∧ (Controller.noticeDrive step via c).consist.state = c.consist.state
      ∧ (Controller.noticeDrive step via c).consist.membership = c.consist.membership
      ∧ (Controller.noticeDrive step via c).consist.common = c.consist.common := by
  unfold Controller.noticeDrive
  split <;> simp

@[simp] theorem Controller.restartPark_frame (step : Nat) (c : Controller) :
    (Controller.restartPark step c).settings = c.settings ∧ (Controller.restartPark step c).air = c.air
      ∧ (Controller.restartPark step c).motion = c.motion ∧ (Controller.restartPark step c).beat = c.beat
      ∧ (Controller.restartPark step c).consist = c.consist ∧ (Controller.restartPark step c).sound = c.sound
      ∧ (Controller.restartPark step c).smoke = c.smoke ∧ (Controller.restartPark step c).light = c.light
      ∧ (Controller.restartPark step c).supply = c.supply ∧ (Controller.restartPark step c).counters = c.counters
      ∧ (Controller.restartPark step c).latches = c.latches
      ∧ (Controller.restartPark step c).command.binding = c.command.binding
      ∧ (Controller.restartPark step c).command.commandedStep = c.command.commandedStep
      ∧ (Controller.restartPark step c).command.requestedDirection = c.command.requestedDirection
      ∧ (Controller.restartPark step c).command.functions = c.command.functions
      ∧ (Controller.restartPark step c).command.lastHalt = c.command.lastHalt
      ∧ (Controller.restartPark step c).command.partMode = c.command.partMode := by
  unfold Controller.restartPark
  split <;> simp

@[simp] theorem Controller.acceptDrive_frame (d : DriveFrame) (via : BoundVia) (c : Controller) :
    (Controller.acceptDrive d via c).settings = c.settings ∧ (Controller.acceptDrive d via c).beat = c.beat
      ∧ (Controller.acceptDrive d via c).supply = c.supply ∧ (Controller.acceptDrive d via c).counters = c.counters
      ∧ (Controller.acceptDrive d via c).latches = c.latches
      ∧ (Controller.acceptDrive d via c).air.rxFifo = c.air.rxFifo
      ∧ (Controller.acceptDrive d via c).air.peers = c.air.peers
      ∧ (Controller.acceptDrive d via c).air.outgoing = c.air.outgoing
      ∧ (Controller.acceptDrive d via c).air.transmitter = c.air.transmitter
      ∧ (Controller.acceptDrive d via c).command.lastHalt = c.command.lastHalt
      ∧ (Controller.acceptDrive d via c).motion.travel = c.motion.travel
      ∧ (Controller.acceptDrive d via c).motion.setpoint = c.motion.setpoint
      ∧ (Controller.acceptDrive d via c).motion.inForce = c.motion.inForce
      ∧ (Controller.acceptDrive d via c).motion.block = c.motion.block
      ∧ (Controller.acceptDrive d via c).motion.write = c.motion.write
      ∧ (Controller.acceptDrive d via c).consist.state = c.consist.state
      ∧ (Controller.acceptDrive d via c).consist.membership = c.consist.membership
      ∧ (Controller.acceptDrive d via c).consist.common = c.consist.common
      ∧ (Controller.acceptDrive d via c).sound.programs = c.sound.programs := by
  refine ⟨?_, ?_, ?_, ?_, ?_, ?_, ?_, ?_, ?_, ?_, ?_, ?_, ?_, ?_, ?_, ?_, ?_, ?_, ?_⟩ <;>
    (unfold Controller.acceptDrive; dsimp only; (repeat' split) <;> simp)

@[simp] theorem Controller.takeDrive_frame (d : DriveFrame) (cls : DestinationClass) (c : Controller) :
    (Controller.takeDrive d cls c).settings = c.settings ∧ (Controller.takeDrive d cls c).beat = c.beat
      ∧ (Controller.takeDrive d cls c).supply = c.supply ∧ (Controller.takeDrive d cls c).latches = c.latches
      ∧ (Controller.takeDrive d cls c).air.rxFifo = c.air.rxFifo
      ∧ (Controller.takeDrive d cls c).air.peers = c.air.peers
      ∧ (Controller.takeDrive d cls c).air.outgoing = c.air.outgoing
      ∧ (Controller.takeDrive d cls c).air.transmitter = c.air.transmitter
      ∧ (Controller.takeDrive d cls c).command.lastHalt = c.command.lastHalt
      ∧ (Controller.takeDrive d cls c).motion.travel = c.motion.travel
      ∧ (Controller.takeDrive d cls c).motion.setpoint = c.motion.setpoint
      ∧ (Controller.takeDrive d cls c).motion.inForce = c.motion.inForce
      ∧ (Controller.takeDrive d cls c).motion.block = c.motion.block
      ∧ (Controller.takeDrive d cls c).motion.write = c.motion.write
      ∧ (Controller.takeDrive d cls c).consist.state = c.consist.state
      ∧ (Controller.takeDrive d cls c).consist.membership = c.consist.membership
      ∧ (Controller.takeDrive d cls c).consist.common = c.consist.common
      ∧ (Controller.takeDrive d cls c).sound.programs = c.sound.programs := by
  refine ⟨?_, ?_, ?_, ?_, ?_, ?_, ?_, ?_, ?_, ?_, ?_, ?_, ?_, ?_, ?_, ?_, ?_, ?_⟩ <;>
    (unfold Controller.takeDrive; (repeat' split) <;> simp)

@[simp] theorem Controller.takeRelease_frame (source : Nat) (cls : DestinationClass) (c : Controller) :
    (Controller.takeRelease source cls c).settings = c.settings ∧ (Controller.takeRelease source cls c).air = c.air
      ∧ (Controller.takeRelease source cls c).motion = c.motion ∧ (Controller.takeRelease source cls c).beat = c.beat
      ∧ (Controller.takeRelease source cls c).consist = c.consist
      ∧ (Controller.takeRelease source cls c).sound = c.sound ∧ (Controller.takeRelease source cls c).smoke = c.smoke
      ∧ (Controller.takeRelease source cls c).light = c.light ∧ (Controller.takeRelease source cls c).supply = c.supply
      ∧ (Controller.takeRelease source cls c).counters = c.counters
      ∧ (Controller.takeRelease source cls c).latches = c.latches
      ∧ (Controller.takeRelease source cls c).command.commandedStep = c.command.commandedStep
      ∧ (Controller.takeRelease source cls c).command.requestedDirection = c.command.requestedDirection
      ∧ (Controller.takeRelease source cls c).command.functions = c.command.functions
      ∧ (Controller.takeRelease source cls c).command.lastHalt = c.command.lastHalt
      ∧ (Controller.takeRelease source cls c).command.partMode = c.command.partMode := by
  refine ⟨?_, ?_, ?_, ?_, ?_, ?_, ?_, ?_, ?_, ?_, ?_, ?_, ?_, ?_, ?_, ?_⟩ <;>
    (unfold Controller.takeRelease; (repeat' split) <;> simp)

@[simp] theorem Controller.expireSupervision_frame (b : Binding) (c : Controller) :
    (Controller.expireSupervision b c).settings = c.settings ∧ (Controller.expireSupervision b c).air = c.air
      ∧ (Controller.expireSupervision b c).motion = c.motion ∧ (Controller.expireSupervision b c).beat = c.beat
      ∧ (Controller.expireSupervision b c).sound = c.sound ∧ (Controller.expireSupervision b c).smoke = c.smoke
      ∧ (Controller.expireSupervision b c).light = c.light ∧ (Controller.expireSupervision b c).supply = c.supply
      ∧ (Controller.expireSupervision b c).counters = c.counters
      ∧ (Controller.expireSupervision b c).latches = c.latches
      ∧ (Controller.expireSupervision b c).command.requestedDirection = c.command.requestedDirection
      ∧ (Controller.expireSupervision b c).command.functions = c.command.functions
      ∧ (Controller.expireSupervision b c).command.lastHalt = c.command.lastHalt
      ∧ (Controller.expireSupervision b c).command.partMode = c.command.partMode
      ∧ (Controller.expireSupervision b c).consist.state = c.consist.state
      ∧ (Controller.expireSupervision b c).consist.membership = c.consist.membership
      ∧ (Controller.expireSupervision b c).consist.common = c.consist.common := by
  refine ⟨?_, ?_, ?_, ?_, ?_, ?_, ?_, ?_, ?_, ?_, ?_, ?_, ?_, ?_, ?_, ?_, ?_⟩ <;>
    (unfold Controller.expireSupervision; dsimp only; (repeat' split) <;> simp)

@[simp] theorem Controller.clearBinding_frame (via : BoundVia) (c : Controller) :
    (Controller.clearBinding via c).settings = c.settings ∧ (Controller.clearBinding via c).air = c.air
      ∧ (Controller.clearBinding via c).motion = c.motion ∧ (Controller.clearBinding via c).beat = c.beat
      ∧ (Controller.clearBinding via c).consist = c.consist ∧ (Controller.clearBinding via c).sound = c.sound
      ∧ (Controller.clearBinding via c).smoke = c.smoke ∧ (Controller.clearBinding via c).light = c.light
      ∧ (Controller.clearBinding via c).supply = c.supply ∧ (Controller.clearBinding via c).counters = c.counters
      ∧ (Controller.clearBinding via c).latches = c.latches
      ∧ (Controller.clearBinding via c).command.requestedDirection = c.command.requestedDirection
      ∧ (Controller.clearBinding via c).command.functions = c.command.functions
      ∧ (Controller.clearBinding via c).command.lastHalt = c.command.lastHalt
      ∧ (Controller.clearBinding via c).command.partMode = c.command.partMode := by
  refine ⟨?_, ?_, ?_, ?_, ?_, ?_, ?_, ?_, ?_, ?_, ?_, ?_, ?_, ?_, ?_⟩ <;> rfl

@[simp] theorem Controller.takeHalt_frame (source number : Nat) (c : Controller) :
    (Controller.takeHalt source number c).settings = c.settings ∧ (Controller.takeHalt source number c).beat = c.beat
      ∧ (Controller.takeHalt source number c).consist = c.consist
      ∧ (Controller.takeHalt source number c).smoke = c.smoke ∧ (Controller.takeHalt source number c).light = c.light
      ∧ (Controller.takeHalt source number c).supply = c.supply
      ∧ (Controller.takeHalt source number c).counters = c.counters
      ∧ (Controller.takeHalt source number c).latches = c.latches
      ∧ (Controller.takeHalt source number c).air.rxFifo = c.air.rxFifo
      ∧ (Controller.takeHalt source number c).air.peers = c.air.peers
      ∧ (Controller.takeHalt source number c).air.outgoing = c.air.outgoing
      ∧ (Controller.takeHalt source number c).air.transmitter = c.air.transmitter
      ∧ (Controller.takeHalt source number c).command.binding = c.command.binding
      ∧ (Controller.takeHalt source number c).command.commandedStep = c.command.commandedStep
      ∧ (Controller.takeHalt source number c).command.requestedDirection = c.command.requestedDirection
      ∧ (Controller.takeHalt source number c).command.functions = c.command.functions
      ∧ (Controller.takeHalt source number c).command.partMode = c.command.partMode
      ∧ (Controller.takeHalt source number c).motion.travel = c.motion.travel
      ∧ (Controller.takeHalt source number c).motion.setpoint = c.motion.setpoint
      ∧ (Controller.takeHalt source number c).motion.inForce = c.motion.inForce
      ∧ (Controller.takeHalt source number c).motion.block = c.motion.block
      ∧ (Controller.takeHalt source number c).motion.write = c.motion.write
      ∧ (Controller.takeHalt source number c).sound.programs = c.sound.programs := by
  refine ⟨?_, ?_, ?_, ?_, ?_, ?_, ?_, ?_, ?_, ?_, ?_, ?_, ?_, ?_, ?_, ?_, ?_, ?_, ?_, ?_, ?_, ?_, ?_⟩ <;>
    (unfold Controller.takeHalt; (repeat' split) <;> simp)

@[simp] theorem Controller.startCalibration_frame (c : Controller) :
    (Controller.startCalibration c).settings = c.settings ∧ (Controller.startCalibration c).beat = c.beat
      ∧ (Controller.startCalibration c).consist = c.consist ∧ (Controller.startCalibration c).sound = c.sound
      ∧ (Controller.startCalibration c).smoke = c.smoke ∧ (Controller.startCalibration c).light = c.light
      ∧ (Controller.startCalibration c).supply = c.supply ∧ (Controller.startCalibration c).counters = c.counters
      ∧ (Controller.startCalibration c).latches = c.latches ∧ (Controller.startCalibration c).air.rxFifo = c.air.rxFifo
      ∧ (Controller.startCalibration c).air.peers = c.air.peers
      ∧ (Controller.startCalibration c).air.outgoing = c.air.outgoing
      ∧ (Controller.startCalibration c).air.transmitter = c.air.transmitter
      ∧ (Controller.startCalibration c).command.binding = c.command.binding
      ∧ (Controller.startCalibration c).command.commandedStep = c.command.commandedStep
      ∧ (Controller.startCalibration c).command.requestedDirection = c.command.requestedDirection
      ∧ (Controller.startCalibration c).command.functions = c.command.functions
      ∧ (Controller.startCalibration c).command.lastHalt = c.command.lastHalt
      ∧ (Controller.startCalibration c).command.partMode = c.command.partMode
      ∧ (Controller.startCalibration c).motion.travel = c.motion.travel
      ∧ (Controller.startCalibration c).motion.duty = c.motion.duty
      ∧ (Controller.startCalibration c).motion.setpoint = c.motion.setpoint
      ∧ (Controller.startCalibration c).motion.inForce = c.motion.inForce
      ∧ (Controller.startCalibration c).motion.block = c.motion.block
      ∧ (Controller.startCalibration c).motion.write = c.motion.write := by
  refine ⟨?_, ?_, ?_, ?_, ?_, ?_, ?_, ?_, ?_, ?_, ?_, ?_, ?_, ?_, ?_, ?_, ?_, ?_, ?_, ?_, ?_, ?_, ?_, ?_, ?_⟩ <;> simp [Controller.startCalibration]

@[simp] theorem Controller.latchCalRefused_frame (c : Controller) :
    (Controller.latchCalRefused c).settings = c.settings ∧ (Controller.latchCalRefused c).air = c.air
      ∧ (Controller.latchCalRefused c).command = c.command ∧ (Controller.latchCalRefused c).motion = c.motion
      ∧ (Controller.latchCalRefused c).beat = c.beat ∧ (Controller.latchCalRefused c).consist = c.consist
      ∧ (Controller.latchCalRefused c).sound = c.sound ∧ (Controller.latchCalRefused c).smoke = c.smoke
      ∧ (Controller.latchCalRefused c).light = c.light ∧ (Controller.latchCalRefused c).supply = c.supply
      ∧ (Controller.latchCalRefused c).counters = c.counters := by
  refine ⟨?_, ?_, ?_, ?_, ?_, ?_, ?_, ?_, ?_, ?_, ?_⟩ <;> rfl

@[simp] theorem Controller.takeCalibrate_frame (source : Nat) (c : Controller) :
    (Controller.takeCalibrate source c).settings = c.settings ∧ (Controller.takeCalibrate source c).beat = c.beat
      ∧ (Controller.takeCalibrate source c).consist = c.consist ∧ (Controller.takeCalibrate source c).sound = c.sound
      ∧ (Controller.takeCalibrate source c).smoke = c.smoke ∧ (Controller.takeCalibrate source c).light = c.light
      ∧ (Controller.takeCalibrate source c).supply = c.supply
      ∧ (Controller.takeCalibrate source c).counters = c.counters
      ∧ (Controller.takeCalibrate source c).air.rxFifo = c.air.rxFifo
      ∧ (Controller.takeCalibrate source c).air.peers = c.air.peers
      ∧ (Controller.takeCalibrate source c).air.outgoing = c.air.outgoing
      ∧ (Controller.takeCalibrate source c).air.transmitter = c.air.transmitter
      ∧ (Controller.takeCalibrate source c).command.binding = c.command.binding
      ∧ (Controller.takeCalibrate source c).command.commandedStep = c.command.commandedStep
      ∧ (Controller.takeCalibrate source c).command.requestedDirection = c.command.requestedDirection
      ∧ (Controller.takeCalibrate source c).command.functions = c.command.functions
      ∧ (Controller.takeCalibrate source c).command.lastHalt = c.command.lastHalt
      ∧ (Controller.takeCalibrate source c).command.partMode = c.command.partMode
      ∧ (Controller.takeCalibrate source c).motion.travel = c.motion.travel
      ∧ (Controller.takeCalibrate source c).motion.duty = c.motion.duty
      ∧ (Controller.takeCalibrate source c).motion.setpoint = c.motion.setpoint
      ∧ (Controller.takeCalibrate source c).motion.inForce = c.motion.inForce
      ∧ (Controller.takeCalibrate source c).motion.block = c.motion.block
      ∧ (Controller.takeCalibrate source c).motion.write = c.motion.write := by
  unfold Controller.takeCalibrate
  split <;> simp

@[simp] theorem Controller.chargeBusy_frame (kind : TxKind) (c : Controller) :
    (Controller.chargeBusy kind c).settings = c.settings ∧ (Controller.chargeBusy kind c).command = c.command
      ∧ (Controller.chargeBusy kind c).motion = c.motion ∧ (Controller.chargeBusy kind c).beat = c.beat
      ∧ (Controller.chargeBusy kind c).consist = c.consist ∧ (Controller.chargeBusy kind c).sound = c.sound
      ∧ (Controller.chargeBusy kind c).smoke = c.smoke ∧ (Controller.chargeBusy kind c).light = c.light
      ∧ (Controller.chargeBusy kind c).supply = c.supply ∧ (Controller.chargeBusy kind c).latches = c.latches := by
  refine ⟨?_, ?_, ?_, ?_, ?_, ?_, ?_, ?_, ?_, ?_⟩ <;>
    (unfold Controller.chargeBusy; dsimp only; (repeat' split) <;> simp)

@[simp] theorem Controller.beginTransmission_frame (kind : TxKind) (c : Controller) :
    (Controller.beginTransmission kind c).settings = c.settings
      ∧ (Controller.beginTransmission kind c).command = c.command
      ∧ (Controller.beginTransmission kind c).motion = c.motion ∧ (Controller.beginTransmission kind c).beat = c.beat
      ∧ (Controller.beginTransmission kind c).consist = c.consist
      ∧ (Controller.beginTransmission kind c).sound = c.sound ∧ (Controller.beginTransmission kind c).smoke = c.smoke
      ∧ (Controller.beginTransmission kind c).light = c.light ∧ (Controller.beginTransmission kind c).supply = c.supply
      ∧ (Controller.beginTransmission kind c).counters = c.counters
      ∧ (Controller.beginTransmission kind c).latches = c.latches := by
  unfold Controller.beginTransmission
  split <;> simp

@[simp] theorem Controller.failTransmission_frame (t : Transmission) (c : Controller) :
    (Controller.failTransmission t c).settings = c.settings ∧ (Controller.failTransmission t c).command = c.command
      ∧ (Controller.failTransmission t c).motion = c.motion ∧ (Controller.failTransmission t c).beat = c.beat
      ∧ (Controller.failTransmission t c).consist = c.consist ∧ (Controller.failTransmission t c).sound = c.sound
      ∧ (Controller.failTransmission t c).smoke = c.smoke ∧ (Controller.failTransmission t c).light = c.light
      ∧ (Controller.failTransmission t c).supply = c.supply ∧ (Controller.failTransmission t c).latches = c.latches := by
  refine ⟨?_, ?_, ?_, ?_, ?_, ?_, ?_, ?_, ?_, ?_⟩ <;> simp [Controller.failTransmission]

@[simp] theorem Controller.handOverReport_frame (carried : Latches) (c : Controller) :
    (Controller.handOverReport carried c).settings = c.settings ∧ (Controller.handOverReport carried c).air = c.air
      ∧ (Controller.handOverReport carried c).command = c.command
      ∧ (Controller.handOverReport carried c).motion = c.motion ∧ (Controller.handOverReport carried c).beat = c.beat
      ∧ (Controller.handOverReport carried c).consist = c.consist
      ∧ (Controller.handOverReport carried c).sound = c.sound ∧ (Controller.handOverReport carried c).smoke = c.smoke
      ∧ (Controller.handOverReport carried c).light = c.light ∧ (Controller.handOverReport carried c).supply = c.supply := by
  refine ⟨?_, ?_, ?_, ?_, ?_, ?_, ?_, ?_, ?_, ?_⟩ <;> rfl

@[simp] theorem Controller.handOver_frame (t : Transmission) (c : Controller) :
    (Controller.handOver t c).settings = c.settings ∧ (Controller.handOver t c).command = c.command
      ∧ (Controller.handOver t c).motion = c.motion ∧ (Controller.handOver t c).beat = c.beat
      ∧ (Controller.handOver t c).consist = c.consist ∧ (Controller.handOver t c).sound = c.sound
      ∧ (Controller.handOver t c).smoke = c.smoke ∧ (Controller.handOver t c).light = c.light
      ∧ (Controller.handOver t c).supply = c.supply ∧ (Controller.handOver t c).air.rxFifo = c.air.rxFifo
      ∧ (Controller.handOver t c).air.peers = c.air.peers
      ∧ (Controller.handOver t c).air.transmitter = c.air.transmitter := by
  unfold Controller.handOver
  split <;> simp

@[simp] theorem Controller.setConsistState_frame (state : ConsistState) (c : Controller) :
    (Controller.setConsistState state c).settings = c.settings ∧ (Controller.setConsistState state c).motion = c.motion
      ∧ (Controller.setConsistState state c).beat = c.beat ∧ (Controller.setConsistState state c).sound = c.sound
      ∧ (Controller.setConsistState state c).smoke = c.smoke ∧ (Controller.setConsistState state c).supply = c.supply
      ∧ (Controller.setConsistState state c).counters = c.counters
      ∧ (Controller.setConsistState state c).latches = c.latches
      ∧ (Controller.setConsistState state c).air.rxFifo = c.air.rxFifo
      ∧ (Controller.setConsistState state c).air.peers = c.air.peers
      ∧ (Controller.setConsistState state c).air.outgoing = c.air.outgoing
      ∧ (Controller.setConsistState state c).air.transmitter = c.air.transmitter
      ∧ (Controller.setConsistState state c).command.binding = c.command.binding
      ∧ (Controller.setConsistState state c).command.requestedDirection = c.command.requestedDirection
      ∧ (Controller.setConsistState state c).command.functions = c.command.functions
      ∧ (Controller.setConsistState state c).command.lastHalt = c.command.lastHalt
      ∧ (Controller.setConsistState state c).command.partMode = c.command.partMode
      ∧ (Controller.setConsistState state c).consist.membership = c.consist.membership
      ∧ (Controller.setConsistState state c).consist.common = c.consist.common := by
  unfold Controller.setConsistState
  split <;> simp

@[simp] theorem Controller.startJoins_frame (c : Controller) :
    (Controller.startJoins c).settings = c.settings ∧ (Controller.startJoins c).command = c.command
      ∧ (Controller.startJoins c).motion = c.motion ∧ (Controller.startJoins c).beat = c.beat
      ∧ (Controller.startJoins c).sound = c.sound ∧ (Controller.startJoins c).smoke = c.smoke
      ∧ (Controller.startJoins c).light = c.light ∧ (Controller.startJoins c).supply = c.supply
      ∧ (Controller.startJoins c).counters = c.counters ∧ (Controller.startJoins c).latches = c.latches
      ∧ (Controller.startJoins c).air.rxFifo = c.air.rxFifo ∧ (Controller.startJoins c).air.peers = c.air.peers
      ∧ (Controller.startJoins c).air.outgoing = c.air.outgoing
      ∧ (Controller.startJoins c).air.transmitter = c.air.transmitter
      ∧ (Controller.startJoins c).consist.state = c.consist.state
      ∧ (Controller.startJoins c).consist.membership = c.consist.membership
      ∧ (Controller.startJoins c).consist.common = c.consist.common := by
  refine ⟨?_, ?_, ?_, ?_, ?_, ?_, ?_, ?_, ?_, ?_, ?_, ?_, ?_, ?_, ?_, ?_, ?_⟩ <;> rfl

@[simp] theorem Controller.pinAll_frame (addresses : List Nat) (c : Controller) :
    (Controller.pinAll addresses c).settings = c.settings ∧ (Controller.pinAll addresses c).command = c.command
      ∧ (Controller.pinAll addresses c).motion = c.motion ∧ (Controller.pinAll addresses c).beat = c.beat
      ∧ (Controller.pinAll addresses c).consist = c.consist ∧ (Controller.pinAll addresses c).sound = c.sound
      ∧ (Controller.pinAll addresses c).smoke = c.smoke ∧ (Controller.pinAll addresses c).light = c.light
      ∧ (Controller.pinAll addresses c).supply = c.supply ∧ (Controller.pinAll addresses c).counters = c.counters
      ∧ (Controller.pinAll addresses c).latches = c.latches ∧ (Controller.pinAll addresses c).air.rxFifo = c.air.rxFifo
      ∧ (Controller.pinAll addresses c).air.outgoing = c.air.outgoing
      ∧ (Controller.pinAll addresses c).air.transmitter = c.air.transmitter := by
  refine ⟨?_, ?_, ?_, ?_, ?_, ?_, ?_, ?_, ?_, ?_, ?_, ?_, ?_, ?_⟩ <;>
    (unfold Controller.pinAll; induction addresses generalizing c <;> simp_all)

@[simp] theorem Controller.unpinAll_frame (addresses : List Nat) (c : Controller) :
    (Controller.unpinAll addresses c).settings = c.settings ∧ (Controller.unpinAll addresses c).command = c.command
      ∧ (Controller.unpinAll addresses c).motion = c.motion ∧ (Controller.unpinAll addresses c).beat = c.beat
      ∧ (Controller.unpinAll addresses c).consist = c.consist ∧ (Controller.unpinAll addresses c).sound = c.sound
      ∧ (Controller.unpinAll addresses c).smoke = c.smoke ∧ (Controller.unpinAll addresses c).light = c.light
      ∧ (Controller.unpinAll addresses c).supply = c.supply ∧ (Controller.unpinAll addresses c).counters = c.counters
      ∧ (Controller.unpinAll addresses c).latches = c.latches
      ∧ (Controller.unpinAll addresses c).air.rxFifo = c.air.rxFifo
      ∧ (Controller.unpinAll addresses c).air.outgoing = c.air.outgoing
      ∧ (Controller.unpinAll addresses c).air.transmitter = c.air.transmitter := by
  refine ⟨?_, ?_, ?_, ?_, ?_, ?_, ?_, ?_, ?_, ?_, ?_, ?_, ?_, ?_⟩ <;>
    (unfold Controller.unpinAll; induction addresses generalizing c <;> simp_all)

@[simp] theorem Controller.takeCouple_frame (consistId : Nat) (members : List (Nat × Orientation)) (c : Controller) :
    (Controller.takeCouple consistId members c).settings = c.settings
      ∧ (Controller.takeCouple consistId members c).motion = c.motion
      ∧ (Controller.takeCouple consistId members c).beat = c.beat
      ∧ (Controller.takeCouple consistId members c).supply = c.supply
      ∧ (Controller.takeCouple consistId members c).counters = c.counters
      ∧ (Controller.takeCouple consistId members c).latches = c.latches
      ∧ (Controller.takeCouple consistId members c).air.rxFifo = c.air.rxFifo
      ∧ (Controller.takeCouple consistId members c).air.outgoing = c.air.outgoing
      ∧ (Controller.takeCouple consistId members c).air.transmitter = c.air.transmitter
      ∧ (Controller.takeCouple consistId members c).command.requestedDirection = c.command.requestedDirection
      ∧ (Controller.takeCouple consistId members c).command.functions = c.command.functions
      ∧ (Controller.takeCouple consistId members c).command.lastHalt = c.command.lastHalt
      ∧ (Controller.takeCouple consistId members c).sound.programs = c.sound.programs := by
  refine ⟨?_, ?_, ?_, ?_, ?_, ?_, ?_, ?_, ?_, ?_, ?_, ?_, ?_⟩ <;>
    (unfold Controller.takeCouple; dsimp only; (repeat' split) <;> simp)

@[simp] theorem Controller.judgeCouple_frame (consistId : Nat) (members : List (Nat × Orientation)) (c : Controller) :
    (Controller.judgeCouple consistId members c).settings = c.settings
      ∧ (Controller.judgeCouple consistId members c).motion = c.motion
      ∧ (Controller.judgeCouple consistId members c).beat = c.beat
      ∧ (Controller.judgeCouple consistId members c).supply = c.supply
      ∧ (Controller.judgeCouple consistId members c).air.rxFifo = c.air.rxFifo
      ∧ (Controller.judgeCouple consistId members c).air.outgoing = c.air.outgoing
      ∧ (Controller.judgeCouple consistId members c).air.transmitter = c.air.transmitter
      ∧ (Controller.judgeCouple consistId members c).command.requestedDirection = c.command.requestedDirection
      ∧ (Controller.judgeCouple consistId members c).command.functions = c.command.functions
      ∧ (Controller.judgeCouple consistId members c).command.lastHalt = c.command.lastHalt
      ∧ (Controller.judgeCouple consistId members c).sound.programs = c.sound.programs := by
  refine ⟨?_, ?_, ?_, ?_, ?_, ?_, ?_, ?_, ?_, ?_, ?_⟩ <;>
    (unfold Controller.judgeCouple; (repeat' split) <;> simp)

@[simp] theorem Controller.enterAcknowledge_frame (c : Controller) :
    (Controller.enterAcknowledge c).settings = c.settings ∧ (Controller.enterAcknowledge c).motion = c.motion
      ∧ (Controller.enterAcknowledge c).beat = c.beat ∧ (Controller.enterAcknowledge c).sound = c.sound
      ∧ (Controller.enterAcknowledge c).smoke = c.smoke ∧ (Controller.enterAcknowledge c).supply = c.supply
      ∧ (Controller.enterAcknowledge c).counters = c.counters ∧ (Controller.enterAcknowledge c).latches = c.latches
      ∧ (Controller.enterAcknowledge c).air.rxFifo = c.air.rxFifo
      ∧ (Controller.enterAcknowledge c).air.peers = c.air.peers
      ∧ (Controller.enterAcknowledge c).air.outgoing = c.air.outgoing
      ∧ (Controller.enterAcknowledge c).air.transmitter = c.air.transmitter
      ∧ (Controller.enterAcknowledge c).command.binding = c.command.binding
      ∧ (Controller.enterAcknowledge c).command.requestedDirection = c.command.requestedDirection
      ∧ (Controller.enterAcknowledge c).command.functions = c.command.functions
      ∧ (Controller.enterAcknowledge c).command.lastHalt = c.command.lastHalt
      ∧ (Controller.enterAcknowledge c).command.partMode = c.command.partMode
      ∧ (Controller.enterAcknowledge c).consist.membership = c.consist.membership
      ∧ (Controller.enterAcknowledge c).consist.common = c.consist.common := by
  unfold Controller.enterAcknowledge
  split <;> simp

@[simp] theorem Controller.enterFormed_frame (c : Controller) :
    (Controller.enterFormed c).settings = c.settings ∧ (Controller.enterFormed c).motion = c.motion
      ∧ (Controller.enterFormed c).beat = c.beat ∧ (Controller.enterFormed c).sound = c.sound
      ∧ (Controller.enterFormed c).smoke = c.smoke ∧ (Controller.enterFormed c).supply = c.supply
      ∧ (Controller.enterFormed c).counters = c.counters ∧ (Controller.enterFormed c).latches = c.latches
      ∧ (Controller.enterFormed c).air.rxFifo = c.air.rxFifo ∧ (Controller.enterFormed c).air.peers = c.air.peers
      ∧ (Controller.enterFormed c).air.outgoing = c.air.outgoing
      ∧ (Controller.enterFormed c).air.transmitter = c.air.transmitter
      ∧ (Controller.enterFormed c).command.binding = c.command.binding
      ∧ (Controller.enterFormed c).command.requestedDirection = c.command.requestedDirection
      ∧ (Controller.enterFormed c).command.functions = c.command.functions
      ∧ (Controller.enterFormed c).command.lastHalt = c.command.lastHalt
      ∧ (Controller.enterFormed c).command.partMode = c.command.partMode := by
  unfold Controller.enterFormed
  split <;> simp

@[simp] theorem Controller.advanceNegotiation_frame (c : Controller) :
    (Controller.advanceNegotiation c).settings = c.settings ∧ (Controller.advanceNegotiation c).motion = c.motion
      ∧ (Controller.advanceNegotiation c).beat = c.beat ∧ (Controller.advanceNegotiation c).sound = c.sound
      ∧ (Controller.advanceNegotiation c).smoke = c.smoke ∧ (Controller.advanceNegotiation c).supply = c.supply
      ∧ (Controller.advanceNegotiation c).counters = c.counters ∧ (Controller.advanceNegotiation c).latches = c.latches
      ∧ (Controller.advanceNegotiation c).air.rxFifo = c.air.rxFifo
      ∧ (Controller.advanceNegotiation c).air.peers = c.air.peers
      ∧ (Controller.advanceNegotiation c).air.outgoing = c.air.outgoing
      ∧ (Controller.advanceNegotiation c).air.transmitter = c.air.transmitter
      ∧ (Controller.advanceNegotiation c).command.binding = c.command.binding
      ∧ (Controller.advanceNegotiation c).command.requestedDirection = c.command.requestedDirection
      ∧ (Controller.advanceNegotiation c).command.functions = c.command.functions
      ∧ (Controller.advanceNegotiation c).command.lastHalt = c.command.lastHalt
      ∧ (Controller.advanceNegotiation c).command.partMode = c.command.partMode := by
  refine ⟨?_, ?_, ?_, ?_, ?_, ?_, ?_, ?_, ?_, ?_, ?_, ?_, ?_, ?_, ?_, ?_, ?_⟩ <;> simp [Controller.advanceNegotiation]

@[simp] theorem Controller.resumeNegotiation_frame (c : Controller) :
    (Controller.resumeNegotiation c).settings = c.settings ∧ (Controller.resumeNegotiation c).motion = c.motion
      ∧ (Controller.resumeNegotiation c).beat = c.beat ∧ (Controller.resumeNegotiation c).sound = c.sound
      ∧ (Controller.resumeNegotiation c).smoke = c.smoke ∧ (Controller.resumeNegotiation c).supply = c.supply
      ∧ (Controller.resumeNegotiation c).counters = c.counters ∧ (Controller.resumeNegotiation c).latches = c.latches
      ∧ (Controller.resumeNegotiation c).air.rxFifo = c.air.rxFifo
      ∧ (Controller.resumeNegotiation c).air.peers = c.air.peers
      ∧ (Controller.resumeNegotiation c).air.outgoing = c.air.outgoing
      ∧ (Controller.resumeNegotiation c).air.transmitter = c.air.transmitter
      ∧ (Controller.resumeNegotiation c).command.binding = c.command.binding
      ∧ (Controller.resumeNegotiation c).command.requestedDirection = c.command.requestedDirection
      ∧ (Controller.resumeNegotiation c).command.functions = c.command.functions
      ∧ (Controller.resumeNegotiation c).command.lastHalt = c.command.lastHalt
      ∧ (Controller.resumeNegotiation c).command.partMode = c.command.partMode := by
  unfold Controller.resumeNegotiation
  split <;> simp

@[simp] theorem Controller.returnToSolo_frame (c : Controller) :
    (Controller.returnToSolo c).settings = c.settings ∧ (Controller.returnToSolo c).motion = c.motion
      ∧ (Controller.returnToSolo c).beat = c.beat ∧ (Controller.returnToSolo c).sound = c.sound
      ∧ (Controller.returnToSolo c).smoke = c.smoke ∧ (Controller.returnToSolo c).supply = c.supply
      ∧ (Controller.returnToSolo c).counters = c.counters ∧ (Controller.returnToSolo c).latches = c.latches
      ∧ (Controller.returnToSolo c).air.rxFifo = c.air.rxFifo
      ∧ (Controller.returnToSolo c).air.outgoing = c.air.outgoing
      ∧ (Controller.returnToSolo c).air.transmitter = c.air.transmitter
      ∧ (Controller.returnToSolo c).command.binding = c.command.binding
      ∧ (Controller.returnToSolo c).command.requestedDirection = c.command.requestedDirection
      ∧ (Controller.returnToSolo c).command.functions = c.command.functions
      ∧ (Controller.returnToSolo c).command.lastHalt = c.command.lastHalt
      ∧ (Controller.returnToSolo c).command.partMode = c.command.partMode := by
  refine ⟨?_, ?_, ?_, ?_, ?_, ?_, ?_, ?_, ?_, ?_, ?_, ?_, ?_, ?_, ?_, ?_⟩ <;> simp [Controller.returnToSolo]

@[simp] theorem Controller.dissolve_frame (c : Controller) :
    (Controller.dissolve c).settings = c.settings ∧ (Controller.dissolve c).motion = c.motion
      ∧ (Controller.dissolve c).beat = c.beat ∧ (Controller.dissolve c).sound = c.sound
      ∧ (Controller.dissolve c).smoke = c.smoke ∧ (Controller.dissolve c).supply = c.supply
      ∧ (Controller.dissolve c).counters = c.counters ∧ (Controller.dissolve c).latches = c.latches
      ∧ (Controller.dissolve c).air.rxFifo = c.air.rxFifo ∧ (Controller.dissolve c).air.outgoing = c.air.outgoing
      ∧ (Controller.dissolve c).air.transmitter = c.air.transmitter
      ∧ (Controller.dissolve c).command.requestedDirection = c.command.requestedDirection
      ∧ (Controller.dissolve c).command.functions = c.command.functions
      ∧ (Controller.dissolve c).command.lastHalt = c.command.lastHalt
      ∧ (Controller.dissolve c).command.partMode = c.command.partMode := by
  refine ⟨?_, ?_, ?_, ?_, ?_, ?_, ?_, ?_, ?_, ?_, ?_, ?_, ?_, ?_, ?_⟩ <;> simp [Controller.dissolve]

@[simp] theorem Controller.failNegotiation_frame (c : Controller) :
    (Controller.failNegotiation c).settings = c.settings ∧ (Controller.failNegotiation c).motion = c.motion
      ∧ (Controller.failNegotiation c).beat = c.beat ∧ (Controller.failNegotiation c).sound = c.sound
      ∧ (Controller.failNegotiation c).smoke = c.smoke ∧ (Controller.failNegotiation c).supply = c.supply
      ∧ (Controller.failNegotiation c).counters = c.counters ∧ (Controller.failNegotiation c).air.rxFifo = c.air.rxFifo
      ∧ (Controller.failNegotiation c).air.outgoing = c.air.outgoing
      ∧ (Controller.failNegotiation c).air.transmitter = c.air.transmitter
      ∧ (Controller.failNegotiation c).command.requestedDirection = c.command.requestedDirection
      ∧ (Controller.failNegotiation c).command.functions = c.command.functions
      ∧ (Controller.failNegotiation c).command.lastHalt = c.command.lastHalt
      ∧ (Controller.failNegotiation c).command.partMode = c.command.partMode := by
  refine ⟨?_, ?_, ?_, ?_, ?_, ?_, ?_, ?_, ?_, ?_, ?_, ?_, ?_, ?_⟩ <;> simp [Controller.failNegotiation]

@[simp] theorem Controller.breakConsist_frame (address : Nat) (c : Controller) :
    (Controller.breakConsist address c).settings = c.settings ∧ (Controller.breakConsist address c).motion = c.motion
      ∧ (Controller.breakConsist address c).beat = c.beat ∧ (Controller.breakConsist address c).sound = c.sound
      ∧ (Controller.breakConsist address c).smoke = c.smoke ∧ (Controller.breakConsist address c).supply = c.supply
      ∧ (Controller.breakConsist address c).counters = c.counters
      ∧ (Controller.breakConsist address c).air.rxFifo = c.air.rxFifo
      ∧ (Controller.breakConsist address c).air.peers = c.air.peers
      ∧ (Controller.breakConsist address c).air.outgoing = c.air.outgoing
      ∧ (Controller.breakConsist address c).air.transmitter = c.air.transmitter
      ∧ (Controller.breakConsist address c).command.binding = c.command.binding
      ∧ (Controller.breakConsist address c).command.commandedStep = c.command.commandedStep
      ∧ (Controller.breakConsist address c).command.requestedDirection = c.command.requestedDirection
      ∧ (Controller.breakConsist address c).command.functions = c.command.functions
      ∧ (Controller.breakConsist address c).command.lastHalt = c.command.lastHalt
      ∧ (Controller.breakConsist address c).command.partMode = c.command.partMode
      ∧ (Controller.breakConsist address c).consist.common = c.consist.common := by
  refine ⟨?_, ?_, ?_, ?_, ?_, ?_, ?_, ?_, ?_, ?_, ?_, ?_, ?_, ?_, ?_, ?_, ?_, ?_⟩ <;> rfl

@[simp] theorem Controller.renegotiate_frame (c : Controller) :
    (Controller.renegotiate c).settings = c.settings ∧ (Controller.renegotiate c).motion = c.motion
      ∧ (Controller.renegotiate c).beat = c.beat ∧ (Controller.renegotiate c).sound = c.sound
      ∧ (Controller.renegotiate c).smoke = c.smoke ∧ (Controller.renegotiate c).supply = c.supply
      ∧ (Controller.renegotiate c).counters = c.counters ∧ (Controller.renegotiate c).latches = c.latches
      ∧ (Controller.renegotiate c).air.rxFifo = c.air.rxFifo ∧ (Controller.renegotiate c).air.peers = c.air.peers
      ∧ (Controller.renegotiate c).air.outgoing = c.air.outgoing
      ∧ (Controller.renegotiate c).air.transmitter = c.air.transmitter
      ∧ (Controller.renegotiate c).command.binding = c.command.binding
      ∧ (Controller.renegotiate c).command.requestedDirection = c.command.requestedDirection
      ∧ (Controller.renegotiate c).command.functions = c.command.functions
      ∧ (Controller.renegotiate c).command.lastHalt = c.command.lastHalt
      ∧ (Controller.renegotiate c).command.partMode = c.command.partMode := by
  refine ⟨?_, ?_, ?_, ?_, ?_, ?_, ?_, ?_, ?_, ?_, ?_, ?_, ?_, ?_, ?_, ?_, ?_⟩ <;> rfl

@[simp] theorem Controller.judgeRenegotiation_frame (c : Controller) :
    (Controller.judgeRenegotiation c).settings = c.settings ∧ (Controller.judgeRenegotiation c).motion = c.motion
      ∧ (Controller.judgeRenegotiation c).beat = c.beat ∧ (Controller.judgeRenegotiation c).sound = c.sound
      ∧ (Controller.judgeRenegotiation c).smoke = c.smoke ∧ (Controller.judgeRenegotiation c).supply = c.supply
      ∧ (Controller.judgeRenegotiation c).counters = c.counters ∧ (Controller.judgeRenegotiation c).latches = c.latches
      ∧ (Controller.judgeRenegotiation c).air.rxFifo = c.air.rxFifo
      ∧ (Controller.judgeRenegotiation c).air.peers = c.air.peers
      ∧ (Controller.judgeRenegotiation c).air.outgoing = c.air.outgoing
      ∧ (Controller.judgeRenegotiation c).air.transmitter = c.air.transmitter
      ∧ (Controller.judgeRenegotiation c).command.binding = c.command.binding
      ∧ (Controller.judgeRenegotiation c).command.requestedDirection = c.command.requestedDirection
      ∧ (Controller.judgeRenegotiation c).command.functions = c.command.functions
      ∧ (Controller.judgeRenegotiation c).command.lastHalt = c.command.lastHalt
      ∧ (Controller.judgeRenegotiation c).command.partMode = c.command.partMode := by
  unfold Controller.judgeRenegotiation
  split <;> simp

@[simp] theorem Controller.judgeLost_frame (c : Controller) :
    (Controller.judgeLost c).settings = c.settings ∧ (Controller.judgeLost c).motion = c.motion
      ∧ (Controller.judgeLost c).beat = c.beat ∧ (Controller.judgeLost c).sound = c.sound
      ∧ (Controller.judgeLost c).smoke = c.smoke ∧ (Controller.judgeLost c).supply = c.supply
      ∧ (Controller.judgeLost c).counters = c.counters ∧ (Controller.judgeLost c).latches = c.latches
      ∧ (Controller.judgeLost c).air.rxFifo = c.air.rxFifo ∧ (Controller.judgeLost c).air.peers = c.air.peers
      ∧ (Controller.judgeLost c).air.outgoing = c.air.outgoing
      ∧ (Controller.judgeLost c).air.transmitter = c.air.transmitter
      ∧ (Controller.judgeLost c).command.binding = c.command.binding
      ∧ (Controller.judgeLost c).command.requestedDirection = c.command.requestedDirection
      ∧ (Controller.judgeLost c).command.functions = c.command.functions
      ∧ (Controller.judgeLost c).command.lastHalt = c.command.lastHalt
      ∧ (Controller.judgeLost c).command.partMode = c.command.partMode := by
  unfold Controller.judgeLost
  split <;> simp

@[simp] theorem Controller.loseMember_frame (address : Nat) (c : Controller) :
    (Controller.loseMember address c).settings = c.settings ∧ (Controller.loseMember address c).air = c.air
      ∧ (Controller.loseMember address c).command = c.command ∧ (Controller.loseMember address c).motion = c.motion
      ∧ (Controller.loseMember address c).beat = c.beat ∧ (Controller.loseMember address c).sound = c.sound
      ∧ (Controller.loseMember address c).smoke = c.smoke ∧ (Controller.loseMember address c).light = c.light
      ∧ (Controller.loseMember address c).supply = c.supply ∧ (Controller.loseMember address c).counters = c.counters
      ∧ (Controller.loseMember address c).latches = c.latches
      ∧ (Controller.loseMember address c).consist.state = c.consist.state
      ∧ (Controller.loseMember address c).consist.common = c.consist.common := by
  refine ⟨?_, ?_, ?_, ?_, ?_, ?_, ?_, ?_, ?_, ?_, ?_, ?_, ?_⟩ <;> rfl

@[simp] theorem Controller.rehearMember_frame (address : Nat) (c : Controller) :
    (Controller.rehearMember address c).settings = c.settings ∧ (Controller.rehearMember address c).motion = c.motion
      ∧ (Controller.rehearMember address c).beat = c.beat ∧ (Controller.rehearMember address c).sound = c.sound
      ∧ (Controller.rehearMember address c).smoke = c.smoke ∧ (Controller.rehearMember address c).supply = c.supply
      ∧ (Controller.rehearMember address c).counters = c.counters
      ∧ (Controller.rehearMember address c).latches = c.latches
      ∧ (Controller.rehearMember address c).air.rxFifo = c.air.rxFifo
      ∧ (Controller.rehearMember address c).air.peers = c.air.peers
      ∧ (Controller.rehearMember address c).air.outgoing = c.air.outgoing
      ∧ (Controller.rehearMember address c).air.transmitter = c.air.transmitter
      ∧ (Controller.rehearMember address c).command.binding = c.command.binding
      ∧ (Controller.rehearMember address c).command.requestedDirection = c.command.requestedDirection
      ∧ (Controller.rehearMember address c).command.functions = c.command.functions
      ∧ (Controller.rehearMember address c).command.lastHalt = c.command.lastHalt
      ∧ (Controller.rehearMember address c).command.partMode = c.command.partMode := by
  refine ⟨?_, ?_, ?_, ?_, ?_, ?_, ?_, ?_, ?_, ?_, ?_, ?_, ?_, ?_, ?_, ?_, ?_⟩ <;> simp [Controller.rehearMember]

@[simp] theorem Controller.restartMemberTimer_frame (address : Nat) (c : Controller) :
    (Controller.restartMemberTimer address c).settings = c.settings
      ∧ (Controller.restartMemberTimer address c).air = c.air
      ∧ (Controller.restartMemberTimer address c).command = c.command
      ∧ (Controller.restartMemberTimer address c).motion = c.motion
      ∧ (Controller.restartMemberTimer address c).beat = c.beat
      ∧ (Controller.restartMemberTimer address c).sound = c.sound
      ∧ (Controller.restartMemberTimer address c).smoke = c.smoke
      ∧ (Controller.restartMemberTimer address c).light = c.light
      ∧ (Controller.restartMemberTimer address c).supply = c.supply
      ∧ (Controller.restartMemberTimer address c).counters = c.counters
      ∧ (Controller.restartMemberTimer address c).latches = c.latches
      ∧ (Controller.restartMemberTimer address c).consist.state = c.consist.state
      ∧ (Controller.restartMemberTimer address c).consist.common = c.consist.common := by
  refine ⟨?_, ?_, ?_, ?_, ?_, ?_, ?_, ?_, ?_, ?_, ?_, ?_, ?_⟩ <;> rfl

@[simp] theorem Controller.statusInAcknowledge_frame (o : MemberRecord) (f : StatusFields) (c : Controller) :
    (Controller.statusInAcknowledge o f c).settings = c.settings
      ∧ (Controller.statusInAcknowledge o f c).motion = c.motion ∧ (Controller.statusInAcknowledge o f c).beat = c.beat
      ∧ (Controller.statusInAcknowledge o f c).sound = c.sound ∧ (Controller.statusInAcknowledge o f c).smoke = c.smoke
      ∧ (Controller.statusInAcknowledge o f c).supply = c.supply
      ∧ (Controller.statusInAcknowledge o f c).counters = c.counters
      ∧ (Controller.statusInAcknowledge o f c).latches = c.latches
      ∧ (Controller.statusInAcknowledge o f c).air.rxFifo = c.air.rxFifo
      ∧ (Controller.statusInAcknowledge o f c).air.peers = c.air.peers
      ∧ (Controller.statusInAcknowledge o f c).air.outgoing = c.air.outgoing
      ∧ (Controller.statusInAcknowledge o f c).air.transmitter = c.air.transmitter
      ∧ (Controller.statusInAcknowledge o f c).command.binding = c.command.binding
      ∧ (Controller.statusInAcknowledge o f c).command.requestedDirection = c.command.requestedDirection
      ∧ (Controller.statusInAcknowledge o f c).command.functions = c.command.functions
      ∧ (Controller.statusInAcknowledge o f c).command.lastHalt = c.command.lastHalt
      ∧ (Controller.statusInAcknowledge o f c).command.partMode = c.command.partMode := by
  unfold Controller.statusInAcknowledge
  split <;> simp

@[simp] theorem Controller.statusInFormed_frame (o : MemberRecord) (f : StatusFields) (c : Controller) :
    (Controller.statusInFormed o f c).settings = c.settings ∧ (Controller.statusInFormed o f c).motion = c.motion
      ∧ (Controller.statusInFormed o f c).beat = c.beat ∧ (Controller.statusInFormed o f c).sound = c.sound
      ∧ (Controller.statusInFormed o f c).smoke = c.smoke ∧ (Controller.statusInFormed o f c).supply = c.supply
      ∧ (Controller.statusInFormed o f c).counters = c.counters
      ∧ (Controller.statusInFormed o f c).air.rxFifo = c.air.rxFifo
      ∧ (Controller.statusInFormed o f c).air.peers = c.air.peers
      ∧ (Controller.statusInFormed o f c).air.outgoing = c.air.outgoing
      ∧ (Controller.statusInFormed o f c).air.transmitter = c.air.transmitter
      ∧ (Controller.statusInFormed o f c).command.binding = c.command.binding
      ∧ (Controller.statusInFormed o f c).command.commandedStep = c.command.commandedStep
      ∧ (Controller.statusInFormed o f c).command.requestedDirection = c.command.requestedDirection
      ∧ (Controller.statusInFormed o f c).command.functions = c.command.functions
      ∧ (Controller.statusInFormed o f c).command.lastHalt = c.command.lastHalt
      ∧ (Controller.statusInFormed o f c).command.partMode = c.command.partMode
      ∧ (Controller.statusInFormed o f c).consist.common = c.consist.common := by
  refine ⟨?_, ?_, ?_, ?_, ?_, ?_, ?_, ?_, ?_, ?_, ?_, ?_, ?_, ?_, ?_, ?_, ?_, ?_⟩ <;>
    (unfold Controller.statusInFormed; (repeat' split) <;> simp)

@[simp] theorem Controller.statusInBroken_frame (o : MemberRecord) (f : StatusFields) (c : Controller) :
    (Controller.statusInBroken o f c).settings = c.settings ∧ (Controller.statusInBroken o f c).motion = c.motion
      ∧ (Controller.statusInBroken o f c).beat = c.beat ∧ (Controller.statusInBroken o f c).sound = c.sound
      ∧ (Controller.statusInBroken o f c).smoke = c.smoke ∧ (Controller.statusInBroken o f c).supply = c.supply
      ∧ (Controller.statusInBroken o f c).counters = c.counters ∧ (Controller.statusInBroken o f c).latches = c.latches
      ∧ (Controller.statusInBroken o f c).air.rxFifo = c.air.rxFifo
      ∧ (Controller.statusInBroken o f c).air.peers = c.air.peers
      ∧ (Controller.statusInBroken o f c).air.outgoing = c.air.outgoing
      ∧ (Controller.statusInBroken o f c).air.transmitter = c.air.transmitter
      ∧ (Controller.statusInBroken o f c).command.binding = c.command.binding
      ∧ (Controller.statusInBroken o f c).command.requestedDirection = c.command.requestedDirection
      ∧ (Controller.statusInBroken o f c).command.functions = c.command.functions
      ∧ (Controller.statusInBroken o f c).command.lastHalt = c.command.lastHalt
      ∧ (Controller.statusInBroken o f c).command.partMode = c.command.partMode := by
  refine ⟨?_, ?_, ?_, ?_, ?_, ?_, ?_, ?_, ?_, ?_, ?_, ?_, ?_, ?_, ?_, ?_, ?_⟩ <;>
    (unfold Controller.statusInBroken; (repeat' split) <;> simp)

@[simp] theorem Controller.superviseStatus_frame (o : MemberRecord) (f : StatusFields) (c : Controller) :
    (Controller.superviseStatus o f c).settings = c.settings ∧ (Controller.superviseStatus o f c).motion = c.motion
      ∧ (Controller.superviseStatus o f c).beat = c.beat ∧ (Controller.superviseStatus o f c).sound = c.sound
      ∧ (Controller.superviseStatus o f c).smoke = c.smoke ∧ (Controller.superviseStatus o f c).supply = c.supply
      ∧ (Controller.superviseStatus o f c).counters = c.counters
      ∧ (Controller.superviseStatus o f c).air.rxFifo = c.air.rxFifo
      ∧ (Controller.superviseStatus o f c).air.peers = c.air.peers
      ∧ (Controller.superviseStatus o f c).air.outgoing = c.air.outgoing
      ∧ (Controller.superviseStatus o f c).air.transmitter = c.air.transmitter
      ∧ (Controller.superviseStatus o f c).command.binding = c.command.binding
      ∧ (Controller.superviseStatus o f c).command.requestedDirection = c.command.requestedDirection
      ∧ (Controller.superviseStatus o f c).command.functions = c.command.functions
      ∧ (Controller.superviseStatus o f c).command.lastHalt = c.command.lastHalt
      ∧ (Controller.superviseStatus o f c).command.partMode = c.command.partMode := by
  unfold Controller.superviseStatus
  split <;> simp

@[simp] theorem Controller.shareFault_frame (f : StatusFields) (c : Controller) :
    (Controller.shareFault f c).settings = c.settings ∧ (Controller.shareFault f c).command = c.command
      ∧ (Controller.shareFault f c).motion = c.motion ∧ (Controller.shareFault f c).beat = c.beat
      ∧ (Controller.shareFault f c).sound = c.sound ∧ (Controller.shareFault f c).smoke = c.smoke
      ∧ (Controller.shareFault f c).light = c.light ∧ (Controller.shareFault f c).supply = c.supply
      ∧ (Controller.shareFault f c).counters = c.counters ∧ (Controller.shareFault f c).latches = c.latches
      ∧ (Controller.shareFault f c).air.rxFifo = c.air.rxFifo ∧ (Controller.shareFault f c).air.peers = c.air.peers
      ∧ (Controller.shareFault f c).air.outgoing = c.air.outgoing
      ∧ (Controller.shareFault f c).air.transmitter = c.air.transmitter
      ∧ (Controller.shareFault f c).consist.state = c.consist.state
      ∧ (Controller.shareFault f c).consist.membership = c.consist.membership
      ∧ (Controller.shareFault f c).consist.common = c.consist.common := by
  refine ⟨?_, ?_, ?_, ?_, ?_, ?_, ?_, ?_, ?_, ?_, ?_, ?_, ?_, ?_, ?_, ?_, ?_⟩ <;>
    (unfold Controller.shareFault; (repeat' split) <;> simp)

@[simp] theorem Controller.shareStop_frame (f : StatusFields) (previous : Option Bool) (c : Controller) :
    (Controller.shareStop f previous c).settings = c.settings ∧ (Controller.shareStop f previous c).beat = c.beat
      ∧ (Controller.shareStop f previous c).consist = c.consist ∧ (Controller.shareStop f previous c).smoke = c.smoke
      ∧ (Controller.shareStop f previous c).light = c.light ∧ (Controller.shareStop f previous c).supply = c.supply
      ∧ (Controller.shareStop f previous c).counters = c.counters
      ∧ (Controller.shareStop f previous c).latches = c.latches
      ∧ (Controller.shareStop f previous c).air.rxFifo = c.air.rxFifo
      ∧ (Controller.shareStop f previous c).air.peers = c.air.peers
      ∧ (Controller.shareStop f previous c).air.outgoing = c.air.outgoing
      ∧ (Controller.shareStop f previous c).air.transmitter = c.air.transmitter
      ∧ (Controller.shareStop f previous c).command.binding = c.command.binding
      ∧ (Controller.shareStop f previous c).command.commandedStep = c.command.commandedStep
      ∧ (Controller.shareStop f previous c).command.requestedDirection = c.command.requestedDirection
      ∧ (Controller.shareStop f previous c).command.functions = c.command.functions
      ∧ (Controller.shareStop f previous c).command.lastHalt = c.command.lastHalt
      ∧ (Controller.shareStop f previous c).command.partMode = c.command.partMode
      ∧ (Controller.shareStop f previous c).motion.travel = c.motion.travel
      ∧ (Controller.shareStop f previous c).motion.setpoint = c.motion.setpoint
      ∧ (Controller.shareStop f previous c).motion.inForce = c.motion.inForce
      ∧ (Controller.shareStop f previous c).motion.block = c.motion.block
      ∧ (Controller.shareStop f previous c).motion.write = c.motion.write
      ∧ (Controller.shareStop f previous c).sound.programs = c.sound.programs := by
  unfold Controller.shareStop
  split <;> simp

@[simp] theorem Controller.statusNotice_frame (source : Nat) (f : StatusFields) (previous : Option Bool) (c : Controller) :
    (Controller.statusNotice source f previous c).settings = c.settings
      ∧ (Controller.statusNotice source f previous c).beat = c.beat
      ∧ (Controller.statusNotice source f previous c).smoke = c.smoke
      ∧ (Controller.statusNotice source f previous c).supply = c.supply
      ∧ (Controller.statusNotice source f previous c).counters = c.counters
      ∧ (Controller.statusNotice source f previous c).air.rxFifo = c.air.rxFifo
      ∧ (Controller.statusNotice source f previous c).air.peers = c.air.peers
      ∧ (Controller.statusNotice source f previous c).air.outgoing = c.air.outgoing
      ∧ (Controller.statusNotice source f previous c).air.transmitter = c.air.transmitter
      ∧ (Controller.statusNotice source f previous c).command.binding = c.command.binding
      ∧ (Controller.statusNotice source f previous c).command.requestedDirection = c.command.requestedDirection
      ∧ (Controller.statusNotice source f previous c).command.functions = c.command.functions
      ∧ (Controller.statusNotice source f previous c).command.lastHalt = c.command.lastHalt
      ∧ (Controller.statusNotice source f previous c).command.partMode = c.command.partMode
      ∧ (Controller.statusNotice source f previous c).motion.travel = c.motion.travel
      ∧ (Controller.statusNotice source f previous c).motion.setpoint = c.motion.setpoint
      ∧ (Controller.statusNotice source f previous c).motion.inForce = c.motion.inForce
      ∧ (Controller.statusNotice source f previous c).motion.block = c.motion.block
      ∧ (Controller.statusNotice source f previous c).motion.write = c.motion.write
      ∧ (Controller.statusNotice source f previous c).sound.programs = c.sound.programs := by
  refine ⟨?_, ?_, ?_, ?_, ?_, ?_, ?_, ?_, ?_, ?_, ?_, ?_, ?_, ?_, ?_, ?_, ?_, ?_, ?_, ?_⟩ <;>
    (unfold Controller.statusNotice; (repeat' split) <;> simp)

@[simp] theorem Controller.hearAbility_frame (source : Nat) (j : JoinFields) (c : Controller) :
    (Controller.hearAbility source j c).settings = c.settings ∧ (Controller.hearAbility source j c).motion = c.motion
      ∧ (Controller.hearAbility source j c).beat = c.beat ∧ (Controller.hearAbility source j c).sound = c.sound
      ∧ (Controller.hearAbility source j c).smoke = c.smoke ∧ (Controller.hearAbility source j c).supply = c.supply
      ∧ (Controller.hearAbility source j c).counters = c.counters
      ∧ (Controller.hearAbility source j c).latches = c.latches
      ∧ (Controller.hearAbility source j c).air.rxFifo = c.air.rxFifo
      ∧ (Controller.hearAbility source j c).air.peers = c.air.peers
      ∧ (Controller.hearAbility source j c).air.outgoing = c.air.outgoing
      ∧ (Controller.hearAbility source j c).air.transmitter = c.air.transmitter
      ∧ (Controller.hearAbility source j c).command.binding = c.command.binding
      ∧ (Controller.hearAbility source j c).command.requestedDirection = c.command.requestedDirection
      ∧ (Controller.hearAbility source j c).command.functions = c.command.functions
      ∧ (Controller.hearAbility source j c).command.lastHalt = c.command.lastHalt
      ∧ (Controller.hearAbility source j c).command.partMode = c.command.partMode := by
  refine ⟨?_, ?_, ?_, ?_, ?_, ?_, ?_, ?_, ?_, ?_, ?_, ?_, ?_, ?_, ?_, ?_, ?_⟩ <;> simp [Controller.hearAbility]

@[simp] theorem Controller.joinNotice_frame (source : Nat) (j : JoinFields) (c : Controller) :
    (Controller.joinNotice source j c).settings = c.settings ∧ (Controller.joinNotice source j c).motion = c.motion
      ∧ (Controller.joinNotice source j c).beat = c.beat ∧ (Controller.joinNotice source j c).sound = c.sound
      ∧ (Controller.joinNotice source j c).smoke = c.smoke ∧ (Controller.joinNotice source j c).supply = c.supply
      ∧ (Controller.joinNotice source j c).counters = c.counters
      ∧ (Controller.joinNotice source j c).latches = c.latches
      ∧ (Controller.joinNotice source j c).air.rxFifo = c.air.rxFifo
      ∧ (Controller.joinNotice source j c).air.peers = c.air.peers
      ∧ (Controller.joinNotice source j c).air.outgoing = c.air.outgoing
      ∧ (Controller.joinNotice source j c).air.transmitter = c.air.transmitter
      ∧ (Controller.joinNotice source j c).command.binding = c.command.binding
      ∧ (Controller.joinNotice source j c).command.requestedDirection = c.command.requestedDirection
      ∧ (Controller.joinNotice source j c).command.functions = c.command.functions
      ∧ (Controller.joinNotice source j c).command.lastHalt = c.command.lastHalt
      ∧ (Controller.joinNotice source j c).command.partMode = c.command.partMode := by
  refine ⟨?_, ?_, ?_, ?_, ?_, ?_, ?_, ?_, ?_, ?_, ?_, ?_, ?_, ?_, ?_, ?_, ?_⟩ <;>
    (unfold Controller.joinNotice; (repeat' split) <;> simp)

@[simp] theorem Controller.expireMember_frame (address : Nat) (c : Controller) :
    (Controller.expireMember address c).settings = c.settings ∧ (Controller.expireMember address c).motion = c.motion
      ∧ (Controller.expireMember address c).beat = c.beat ∧ (Controller.expireMember address c).sound = c.sound
      ∧ (Controller.expireMember address c).smoke = c.smoke ∧ (Controller.expireMember address c).supply = c.supply
      ∧ (Controller.expireMember address c).counters = c.counters
      ∧ (Controller.expireMember address c).air.rxFifo = c.air.rxFifo
      ∧ (Controller.expireMember address c).air.peers = c.air.peers
      ∧ (Controller.expireMember address c).air.outgoing = c.air.outgoing
      ∧ (Controller.expireMember address c).air.transmitter = c.air.transmitter
      ∧ (Controller.expireMember address c).command.binding = c.command.binding
      ∧ (Controller.expireMember address c).command.commandedStep = c.command.commandedStep
      ∧ (Controller.expireMember address c).command.requestedDirection = c.command.requestedDirection
      ∧ (Controller.expireMember address c).command.functions = c.command.functions
      ∧ (Controller.expireMember address c).command.lastHalt = c.command.lastHalt
      ∧ (Controller.expireMember address c).command.partMode = c.command.partMode
      ∧ (Controller.expireMember address c).consist.common = c.consist.common := by
  unfold Controller.expireMember
  split <;> simp

@[simp] theorem Controller.warmConsist_frame (c : Controller) :
    (Controller.warmConsist c).settings = c.settings ∧ (Controller.warmConsist c).motion = c.motion
      ∧ (Controller.warmConsist c).beat = c.beat ∧ (Controller.warmConsist c).sound = c.sound
      ∧ (Controller.warmConsist c).smoke = c.smoke ∧ (Controller.warmConsist c).supply = c.supply
      ∧ (Controller.warmConsist c).counters = c.counters ∧ (Controller.warmConsist c).latches = c.latches
      ∧ (Controller.warmConsist c).air.rxFifo = c.air.rxFifo ∧ (Controller.warmConsist c).air.peers = c.air.peers
      ∧ (Controller.warmConsist c).air.outgoing = c.air.outgoing
      ∧ (Controller.warmConsist c).air.transmitter = c.air.transmitter
      ∧ (Controller.warmConsist c).command.binding = c.command.binding
      ∧ (Controller.warmConsist c).command.requestedDirection = c.command.requestedDirection
      ∧ (Controller.warmConsist c).command.functions = c.command.functions
      ∧ (Controller.warmConsist c).command.lastHalt = c.command.lastHalt
      ∧ (Controller.warmConsist c).command.partMode = c.command.partMode := by
  unfold Controller.warmConsist
  split <;> simp

@[simp] theorem Controller.offerFrame_frame (frame : RxFrame) (c : Controller) :
    (Controller.offerFrame frame c).settings = c.settings ∧ (Controller.offerFrame frame c).command = c.command
      ∧ (Controller.offerFrame frame c).motion = c.motion ∧ (Controller.offerFrame frame c).beat = c.beat
      ∧ (Controller.offerFrame frame c).consist = c.consist ∧ (Controller.offerFrame frame c).sound = c.sound
      ∧ (Controller.offerFrame frame c).smoke = c.smoke ∧ (Controller.offerFrame frame c).light = c.light
      ∧ (Controller.offerFrame frame c).supply = c.supply ∧ (Controller.offerFrame frame c).latches = c.latches
      ∧ (Controller.offerFrame frame c).air.peers = c.air.peers
      ∧ (Controller.offerFrame frame c).air.outgoing = c.air.outgoing
      ∧ (Controller.offerFrame frame c).air.transmitter = c.air.transmitter := by
  unfold Controller.offerFrame
  split <;> simp

@[simp] theorem Controller.latchConflict_frame (c : Controller) :
    (Controller.latchConflict c).settings = c.settings ∧ (Controller.latchConflict c).air = c.air
      ∧ (Controller.latchConflict c).command = c.command ∧ (Controller.latchConflict c).motion = c.motion
      ∧ (Controller.latchConflict c).beat = c.beat ∧ (Controller.latchConflict c).consist = c.consist
      ∧ (Controller.latchConflict c).sound = c.sound ∧ (Controller.latchConflict c).smoke = c.smoke
      ∧ (Controller.latchConflict c).light = c.light ∧ (Controller.latchConflict c).supply = c.supply
      ∧ (Controller.latchConflict c).counters = c.counters := by
  refine ⟨?_, ?_, ?_, ?_, ?_, ?_, ?_, ?_, ?_, ?_, ?_⟩ <;> rfl

@[simp] theorem Controller.receiveFrame_frame (frame : RxFrame) (c : Controller) :
    (Controller.receiveFrame frame c).settings = c.settings ∧ (Controller.receiveFrame frame c).command = c.command
      ∧ (Controller.receiveFrame frame c).motion = c.motion ∧ (Controller.receiveFrame frame c).beat = c.beat
      ∧ (Controller.receiveFrame frame c).consist = c.consist ∧ (Controller.receiveFrame frame c).sound = c.sound
      ∧ (Controller.receiveFrame frame c).smoke = c.smoke ∧ (Controller.receiveFrame frame c).light = c.light
      ∧ (Controller.receiveFrame frame c).supply = c.supply ∧ (Controller.receiveFrame frame c).air.peers = c.air.peers
      ∧ (Controller.receiveFrame frame c).air.outgoing = c.air.outgoing
      ∧ (Controller.receiveFrame frame c).air.transmitter = c.air.transmitter := by
  refine ⟨?_, ?_, ?_, ?_, ?_, ?_, ?_, ?_, ?_, ?_, ?_, ?_⟩ <;>
    (unfold Controller.receiveFrame; (repeat' split) <;> simp)

@[simp] theorem Controller.dispatchJoin_frame (frame : RxFrame) (cls : DestinationClass) (c : Controller) :
    (Controller.dispatchJoin frame cls c).settings = c.settings
      ∧ (Controller.dispatchJoin frame cls c).motion = c.motion ∧ (Controller.dispatchJoin frame cls c).beat = c.beat
      ∧ (Controller.dispatchJoin frame cls c).sound = c.sound ∧ (Controller.dispatchJoin frame cls c).smoke = c.smoke
      ∧ (Controller.dispatchJoin frame cls c).supply = c.supply
      ∧ (Controller.dispatchJoin frame cls c).counters = c.counters
      ∧ (Controller.dispatchJoin frame cls c).latches = c.latches
      ∧ (Controller.dispatchJoin frame cls c).air.rxFifo = c.air.rxFifo
      ∧ (Controller.dispatchJoin frame cls c).air.outgoing = c.air.outgoing
      ∧ (Controller.dispatchJoin frame cls c).air.transmitter = c.air.transmitter
      ∧ (Controller.dispatchJoin frame cls c).command.binding = c.command.binding
      ∧ (Controller.dispatchJoin frame cls c).command.requestedDirection = c.command.requestedDirection
      ∧ (Controller.dispatchJoin frame cls c).command.functions = c.command.functions
      ∧ (Controller.dispatchJoin frame cls c).command.lastHalt = c.command.lastHalt
      ∧ (Controller.dispatchJoin frame cls c).command.partMode = c.command.partMode := by
  unfold Controller.dispatchJoin
  split <;> simp

@[simp] theorem Controller.dispatchStatus_frame (frame : RxFrame) (c : Controller) :
    (Controller.dispatchStatus frame c).settings = c.settings ∧ (Controller.dispatchStatus frame c).beat = c.beat
      ∧ (Controller.dispatchStatus frame c).smoke = c.smoke ∧ (Controller.dispatchStatus frame c).supply = c.supply
      ∧ (Controller.dispatchStatus frame c).counters = c.counters
      ∧ (Controller.dispatchStatus frame c).air.rxFifo = c.air.rxFifo
      ∧ (Controller.dispatchStatus frame c).air.outgoing = c.air.outgoing
      ∧ (Controller.dispatchStatus frame c).air.transmitter = c.air.transmitter
      ∧ (Controller.dispatchStatus frame c).command.binding = c.command.binding
      ∧ (Controller.dispatchStatus frame c).command.requestedDirection = c.command.requestedDirection
      ∧ (Controller.dispatchStatus frame c).command.functions = c.command.functions
      ∧ (Controller.dispatchStatus frame c).command.lastHalt = c.command.lastHalt
      ∧ (Controller.dispatchStatus frame c).command.partMode = c.command.partMode
      ∧ (Controller.dispatchStatus frame c).motion.travel = c.motion.travel
      ∧ (Controller.dispatchStatus frame c).motion.setpoint = c.motion.setpoint
      ∧ (Controller.dispatchStatus frame c).motion.inForce = c.motion.inForce
      ∧ (Controller.dispatchStatus frame c).motion.block = c.motion.block
      ∧ (Controller.dispatchStatus frame c).motion.write = c.motion.write
      ∧ (Controller.dispatchStatus frame c).sound.programs = c.sound.programs := by
  refine ⟨?_, ?_, ?_, ?_, ?_, ?_, ?_, ?_, ?_, ?_, ?_, ?_, ?_, ?_, ?_, ?_, ?_, ?_, ?_⟩ <;> simp [Controller.dispatchStatus]

@[simp] theorem Controller.dispatchMarker_frame (frame : RxFrame) (c : Controller) :
    (Controller.dispatchMarker frame c).settings = c.settings ∧ (Controller.dispatchMarker frame c).command = c.command
      ∧ (Controller.dispatchMarker frame c).beat = c.beat ∧ (Controller.dispatchMarker frame c).consist = c.consist
      ∧ (Controller.dispatchMarker frame c).sound = c.sound ∧ (Controller.dispatchMarker frame c).smoke = c.smoke
      ∧ (Controller.dispatchMarker frame c).light = c.light ∧ (Controller.dispatchMarker frame c).supply = c.supply
      ∧ (Controller.dispatchMarker frame c).counters = c.counters
      ∧ (Controller.dispatchMarker frame c).latches = c.latches
      ∧ (Controller.dispatchMarker frame c).air.rxFifo = c.air.rxFifo
      ∧ (Controller.dispatchMarker frame c).air.outgoing = c.air.outgoing
      ∧ (Controller.dispatchMarker frame c).air.transmitter = c.air.transmitter
      ∧ (Controller.dispatchMarker frame c).motion.state = c.motion.state
      ∧ (Controller.dispatchMarker frame c).motion.travel = c.motion.travel
      ∧ (Controller.dispatchMarker frame c).motion.ramp = c.motion.ramp
      ∧ (Controller.dispatchMarker frame c).motion.duty = c.motion.duty
      ∧ (Controller.dispatchMarker frame c).motion.setpoint = c.motion.setpoint
      ∧ (Controller.dispatchMarker frame c).motion.inForce = c.motion.inForce
      ∧ (Controller.dispatchMarker frame c).motion.write = c.motion.write := by
  refine ⟨?_, ?_, ?_, ?_, ?_, ?_, ?_, ?_, ?_, ?_, ?_, ?_, ?_, ?_, ?_, ?_, ?_, ?_, ?_, ?_⟩ <;>
    (unfold Controller.dispatchMarker; dsimp only; (repeat' split) <;> simp)

@[simp] theorem Controller.deliverBeat_frame (labour : LabourLevel) (phase : Nat) (c : Controller) :
    (Controller.deliverBeat labour phase c).settings = c.settings ∧ (Controller.deliverBeat labour phase c).air = c.air
      ∧ (Controller.deliverBeat labour phase c).command = c.command
      ∧ (Controller.deliverBeat labour phase c).motion = c.motion
      ∧ (Controller.deliverBeat labour phase c).beat = c.beat
      ∧ (Controller.deliverBeat labour phase c).consist = c.consist
      ∧ (Controller.deliverBeat labour phase c).supply = c.supply
      ∧ (Controller.deliverBeat labour phase c).counters = c.counters
      ∧ (Controller.deliverBeat labour phase c).latches = c.latches
      ∧ (Controller.deliverBeat labour phase c).sound.programs = c.sound.programs := by
  refine ⟨?_, ?_, ?_, ?_, ?_, ?_, ?_, ?_, ?_, ?_⟩ <;> simp [Controller.deliverBeat]

@[simp] theorem Controller.emitBeat_frame (c : Controller) :
    (Controller.emitBeat c).settings = c.settings ∧ (Controller.emitBeat c).air = c.air
      ∧ (Controller.emitBeat c).command = c.command ∧ (Controller.emitBeat c).motion = c.motion
      ∧ (Controller.emitBeat c).consist = c.consist ∧ (Controller.emitBeat c).supply = c.supply
      ∧ (Controller.emitBeat c).counters = c.counters ∧ (Controller.emitBeat c).latches = c.latches
      ∧ (Controller.emitBeat c).sound.programs = c.sound.programs := by
  refine ⟨?_, ?_, ?_, ?_, ?_, ?_, ?_, ?_, ?_⟩ <;> simp [Controller.emitBeat]

@[simp] theorem Controller.countPulse_frame (c : Controller) :
    (Controller.countPulse c).settings = c.settings ∧ (Controller.countPulse c).air = c.air
      ∧ (Controller.countPulse c).command = c.command ∧ (Controller.countPulse c).motion = c.motion
      ∧ (Controller.countPulse c).consist = c.consist ∧ (Controller.countPulse c).supply = c.supply
      ∧ (Controller.countPulse c).counters = c.counters ∧ (Controller.countPulse c).latches = c.latches
      ∧ (Controller.countPulse c).sound.programs = c.sound.programs := by
  unfold Controller.countPulse
  split <;> simp

@[simp] theorem Controller.acceptPulse_frame (c : Controller) :
    (Controller.acceptPulse c).settings = c.settings ∧ (Controller.acceptPulse c).air = c.air
      ∧ (Controller.acceptPulse c).command = c.command ∧ (Controller.acceptPulse c).motion = c.motion
      ∧ (Controller.acceptPulse c).consist = c.consist ∧ (Controller.acceptPulse c).supply = c.supply
      ∧ (Controller.acceptPulse c).counters = c.counters ∧ (Controller.acceptPulse c).latches = c.latches
      ∧ (Controller.acceptPulse c).sound.programs = c.sound.programs := by
  refine ⟨?_, ?_, ?_, ?_, ?_, ?_, ?_, ?_, ?_⟩ <;>
    (unfold Controller.acceptPulse; (repeat' split) <;> simp)

@[simp] theorem Controller.beatTick_frame (c : Controller) :
    (Controller.beatTick c).settings = c.settings ∧ (Controller.beatTick c).air = c.air
      ∧ (Controller.beatTick c).command = c.command ∧ (Controller.beatTick c).motion = c.motion
      ∧ (Controller.beatTick c).consist = c.consist ∧ (Controller.beatTick c).sound = c.sound
      ∧ (Controller.beatTick c).smoke = c.smoke ∧ (Controller.beatTick c).light = c.light
      ∧ (Controller.beatTick c).supply = c.supply ∧ (Controller.beatTick c).counters = c.counters
      ∧ (Controller.beatTick c).latches = c.latches := by
  unfold Controller.beatTick
  split <;> simp

@[simp] theorem Controller.failSensor_frame (c : Controller) :
    (Controller.failSensor c).settings = c.settings ∧ (Controller.failSensor c).consist = c.consist
      ∧ (Controller.failSensor c).sound = c.sound ∧ (Controller.failSensor c).smoke = c.smoke
      ∧ (Controller.failSensor c).light = c.light ∧ (Controller.failSensor c).supply = c.supply
      ∧ (Controller.failSensor c).counters = c.counters ∧ (Controller.failSensor c).air.rxFifo = c.air.rxFifo
      ∧ (Controller.failSensor c).air.peers = c.air.peers ∧ (Controller.failSensor c).air.outgoing = c.air.outgoing
      ∧ (Controller.failSensor c).air.transmitter = c.air.transmitter
      ∧ (Controller.failSensor c).command.binding = c.command.binding
      ∧ (Controller.failSensor c).command.commandedStep = c.command.commandedStep
      ∧ (Controller.failSensor c).command.requestedDirection = c.command.requestedDirection
      ∧ (Controller.failSensor c).command.functions = c.command.functions
      ∧ (Controller.failSensor c).command.lastHalt = c.command.lastHalt
      ∧ (Controller.failSensor c).command.partMode = c.command.partMode
      ∧ (Controller.failSensor c).motion.travel = c.motion.travel
      ∧ (Controller.failSensor c).motion.setpoint = c.motion.setpoint
      ∧ (Controller.failSensor c).motion.inForce = c.motion.inForce
      ∧ (Controller.failSensor c).motion.block = c.motion.block
      ∧ (Controller.failSensor c).motion.write = c.motion.write := by
  refine ⟨?_, ?_, ?_, ?_, ?_, ?_, ?_, ?_, ?_, ?_, ?_, ?_, ?_, ?_, ?_, ?_, ?_, ?_, ?_, ?_, ?_, ?_⟩ <;> simp [Controller.failSensor]

@[simp] theorem Controller.recoverSensor_frame (c : Controller) :
    (Controller.recoverSensor c).settings = c.settings ∧ (Controller.recoverSensor c).command = c.command
      ∧ (Controller.recoverSensor c).motion = c.motion ∧ (Controller.recoverSensor c).consist = c.consist
      ∧ (Controller.recoverSensor c).sound = c.sound ∧ (Controller.recoverSensor c).smoke = c.smoke
      ∧ (Controller.recoverSensor c).light = c.light ∧ (Controller.recoverSensor c).supply = c.supply
      ∧ (Controller.recoverSensor c).counters = c.counters ∧ (Controller.recoverSensor c).latches = c.latches
      ∧ (Controller.recoverSensor c).air.rxFifo = c.air.rxFifo ∧ (Controller.recoverSensor c).air.peers = c.air.peers
      ∧ (Controller.recoverSensor c).air.outgoing = c.air.outgoing
      ∧ (Controller.recoverSensor c).air.transmitter = c.air.transmitter := by
  refine ⟨?_, ?_, ?_, ?_, ?_, ?_, ?_, ?_, ?_, ?_, ?_, ?_, ?_, ?_⟩ <;> rfl

@[simp] theorem Controller.timedBeat_frame (c : Controller) :
    (Controller.timedBeat c).settings = c.settings ∧ (Controller.timedBeat c).air = c.air
      ∧ (Controller.timedBeat c).command = c.command ∧ (Controller.timedBeat c).motion = c.motion
      ∧ (Controller.timedBeat c).consist = c.consist ∧ (Controller.timedBeat c).supply = c.supply
      ∧ (Controller.timedBeat c).counters = c.counters ∧ (Controller.timedBeat c).latches = c.latches
      ∧ (Controller.timedBeat c).sound.programs = c.sound.programs := by
  refine ⟨?_, ?_, ?_, ?_, ?_, ?_, ?_, ?_, ?_⟩ <;> simp [Controller.timedBeat]

@[simp] theorem Controller.settleBeats_frame (c : Controller) :
    (Controller.settleBeats c).settings = c.settings
      ∧ (Controller.settleBeats c).consist = c.consist
      ∧ (Controller.settleBeats c).supply = c.supply
      ∧ (Controller.settleBeats c).counters = c.counters
      ∧ (Controller.settleBeats c).air.rxFifo = c.air.rxFifo
      ∧ (Controller.settleBeats c).air.peers = c.air.peers
      ∧ (Controller.settleBeats c).air.outgoing = c.air.outgoing
      ∧ (Controller.settleBeats c).air.transmitter = c.air.transmitter
      ∧ (Controller.settleBeats c).command.binding = c.command.binding
      ∧ (Controller.settleBeats c).command.commandedStep = c.command.commandedStep
      ∧ (Controller.settleBeats c).command.requestedDirection = c.command.requestedDirection
      ∧ (Controller.settleBeats c).command.functions = c.command.functions
      ∧ (Controller.settleBeats c).command.lastHalt = c.command.lastHalt
      ∧ (Controller.settleBeats c).command.partMode = c.command.partMode
      ∧ (Controller.settleBeats c).motion.travel = c.motion.travel
      ∧ (Controller.settleBeats c).motion.setpoint = c.motion.setpoint
      ∧ (Controller.settleBeats c).motion.inForce = c.motion.inForce
      ∧ (Controller.settleBeats c).motion.block = c.motion.block
      ∧ (Controller.settleBeats c).motion.write = c.motion.write
      ∧ (Controller.settleBeats c).sound.programs = c.sound.programs := by
  refine ⟨?_, ?_, ?_, ?_, ?_, ?_, ?_, ?_, ?_, ?_, ?_, ?_, ?_, ?_, ?_, ?_, ?_, ?_, ?_, ?_⟩ <;> simp only [Controller.settleBeats] <;> split_ifs <;> simp

@[simp] theorem Controller.setShedLevel_frame (level : Nat) (c : Controller) :
    (Controller.setShedLevel level c).settings = c.settings ∧ (Controller.setShedLevel level c).command = c.command
      ∧ (Controller.setShedLevel level c).motion = c.motion ∧ (Controller.setShedLevel level c).beat = c.beat
      ∧ (Controller.setShedLevel level c).consist = c.consist ∧ (Controller.setShedLevel level c).sound = c.sound
      ∧ (Controller.setShedLevel level c).counters = c.counters ∧ (Controller.setShedLevel level c).latches = c.latches
      ∧ (Controller.setShedLevel level c).air.rxFifo = c.air.rxFifo
      ∧ (Controller.setShedLevel level c).air.peers = c.air.peers
      ∧ (Controller.setShedLevel level c).air.outgoing = c.air.outgoing
      ∧ (Controller.setShedLevel level c).air.transmitter = c.air.transmitter
      ∧ (Controller.setShedLevel level c).supply.state = c.supply.state := by
  unfold Controller.setShedLevel
  split <;> simp

@[simp] theorem Controller.setSupplyState_frame (state : SupplyState) (c : Controller) :
    (Controller.setSupplyState state c).settings = c.settings ∧ (Controller.setSupplyState state c).beat = c.beat
      ∧ (Controller.setSupplyState state c).sound = c.sound ∧ (Controller.setSupplyState state c).smoke = c.smoke
      ∧ (Controller.setSupplyState state c).counters = c.counters
      ∧ (Controller.setSupplyState state c).latches = c.latches
      ∧ (Controller.setSupplyState state c).air.rxFifo = c.air.rxFifo
      ∧ (Controller.setSupplyState state c).air.peers = c.air.peers
      ∧ (Controller.setSupplyState state c).air.outgoing = c.air.outgoing
      ∧ (Controller.setSupplyState state c).air.transmitter = c.air.transmitter
      ∧ (Controller.setSupplyState state c).command.binding = c.command.binding
      ∧ (Controller.setSupplyState state c).command.requestedDirection = c.command.requestedDirection
      ∧ (Controller.setSupplyState state c).command.functions = c.command.functions
      ∧ (Controller.setSupplyState state c).command.lastHalt = c.command.lastHalt
      ∧ (Controller.setSupplyState state c).command.partMode = c.command.partMode
      ∧ (Controller.setSupplyState state c).motion.travel = c.motion.travel
      ∧ (Controller.setSupplyState state c).motion.setpoint = c.motion.setpoint
      ∧ (Controller.setSupplyState state c).motion.inForce = c.motion.inForce
      ∧ (Controller.setSupplyState state c).motion.block = c.motion.block
      ∧ (Controller.setSupplyState state c).motion.write = c.motion.write
      ∧ (Controller.setSupplyState state c).supply.shedLevel = c.supply.shedLevel := by
  unfold Controller.setSupplyState
  split <;> simp

@[simp] theorem Controller.enterHold_frame (c : Controller) :
    (Controller.enterHold c).settings = c.settings ∧ (Controller.enterHold c).beat = c.beat
      ∧ (Controller.enterHold c).sound = c.sound ∧ (Controller.enterHold c).counters = c.counters
      ∧ (Controller.enterHold c).latches = c.latches ∧ (Controller.enterHold c).air.rxFifo = c.air.rxFifo
      ∧ (Controller.enterHold c).air.peers = c.air.peers ∧ (Controller.enterHold c).air.outgoing = c.air.outgoing
      ∧ (Controller.enterHold c).air.transmitter = c.air.transmitter
      ∧ (Controller.enterHold c).command.binding = c.command.binding
      ∧ (Controller.enterHold c).command.requestedDirection = c.command.requestedDirection
      ∧ (Controller.enterHold c).command.functions = c.command.functions
      ∧ (Controller.enterHold c).command.lastHalt = c.command.lastHalt
      ∧ (Controller.enterHold c).command.partMode = c.command.partMode
      ∧ (Controller.enterHold c).motion.travel = c.motion.travel
      ∧ (Controller.enterHold c).motion.setpoint = c.motion.setpoint
      ∧ (Controller.enterHold c).motion.inForce = c.motion.inForce
      ∧ (Controller.enterHold c).motion.block = c.motion.block ∧ (Controller.enterHold c).motion.write = c.motion.write := by
  refine ⟨?_, ?_, ?_, ?_, ?_, ?_, ?_, ?_, ?_, ?_, ?_, ?_, ?_, ?_, ?_, ?_, ?_, ?_, ?_⟩ <;> simp [Controller.enterHold]

@[simp] theorem Controller.judgeLadder_frame (c : Controller) :
    (Controller.judgeLadder c).settings = c.settings ∧ (Controller.judgeLadder c).beat = c.beat
      ∧ (Controller.judgeLadder c).sound = c.sound ∧ (Controller.judgeLadder c).counters = c.counters
      ∧ (Controller.judgeLadder c).latches = c.latches ∧ (Controller.judgeLadder c).air.rxFifo = c.air.rxFifo
      ∧ (Controller.judgeLadder c).air.peers = c.air.peers ∧ (Controller.judgeLadder c).air.outgoing = c.air.outgoing
      ∧ (Controller.judgeLadder c).air.transmitter = c.air.transmitter
      ∧ (Controller.judgeLadder c).command.binding = c.command.binding
      ∧ (Controller.judgeLadder c).command.requestedDirection = c.command.requestedDirection
      ∧ (Controller.judgeLadder c).command.functions = c.command.functions
      ∧ (Controller.judgeLadder c).command.lastHalt = c.command.lastHalt
      ∧ (Controller.judgeLadder c).command.partMode = c.command.partMode
      ∧ (Controller.judgeLadder c).motion.travel = c.motion.travel
      ∧ (Controller.judgeLadder c).motion.setpoint = c.motion.setpoint
      ∧ (Controller.judgeLadder c).motion.inForce = c.motion.inForce
      ∧ (Controller.judgeLadder c).motion.block = c.motion.block
      ∧ (Controller.judgeLadder c).motion.write = c.motion.write := by
  refine ⟨?_, ?_, ?_, ?_, ?_, ?_, ?_, ?_, ?_, ?_, ?_, ?_, ?_, ?_, ?_, ?_, ?_, ?_, ?_⟩ <;>
    (unfold Controller.judgeLadder; dsimp only; (repeat' split) <;> simp)

@[simp] theorem Controller.supplyTick_frame (vin vres : Nat) (c : Controller) :
    (Controller.supplyTick vin vres c).settings = c.settings ∧ (Controller.supplyTick vin vres c).beat = c.beat
      ∧ (Controller.supplyTick vin vres c).sound = c.sound ∧ (Controller.supplyTick vin vres c).counters = c.counters
      ∧ (Controller.supplyTick vin vres c).latches = c.latches
      ∧ (Controller.supplyTick vin vres c).air.rxFifo = c.air.rxFifo
      ∧ (Controller.supplyTick vin vres c).air.peers = c.air.peers
      ∧ (Controller.supplyTick vin vres c).air.outgoing = c.air.outgoing
      ∧ (Controller.supplyTick vin vres c).air.transmitter = c.air.transmitter
      ∧ (Controller.supplyTick vin vres c).command.binding = c.command.binding
      ∧ (Controller.supplyTick vin vres c).command.requestedDirection = c.command.requestedDirection
      ∧ (Controller.supplyTick vin vres c).command.functions = c.command.functions
      ∧ (Controller.supplyTick vin vres c).command.lastHalt = c.command.lastHalt
      ∧ (Controller.supplyTick vin vres c).command.partMode = c.command.partMode
      ∧ (Controller.supplyTick vin vres c).motion.travel = c.motion.travel
      ∧ (Controller.supplyTick vin vres c).motion.setpoint = c.motion.setpoint
      ∧ (Controller.supplyTick vin vres c).motion.inForce = c.motion.inForce
      ∧ (Controller.supplyTick vin vres c).motion.block = c.motion.block
      ∧ (Controller.supplyTick vin vres c).motion.write = c.motion.write := by
  refine ⟨?_, ?_, ?_, ?_, ?_, ?_, ?_, ?_, ?_, ?_, ?_, ?_, ?_, ?_, ?_, ?_, ?_, ?_, ?_⟩ <;>
    (unfold Controller.supplyTick; (repeat' split) <;> simp)

@[simp] theorem Controller.detectDropout_frame (c : Controller) :
    (Controller.detectDropout c).settings = c.settings ∧ (Controller.detectDropout c).beat = c.beat
      ∧ (Controller.detectDropout c).sound = c.sound ∧ (Controller.detectDropout c).latches = c.latches
      ∧ (Controller.detectDropout c).air.rxFifo = c.air.rxFifo ∧ (Controller.detectDropout c).air.peers = c.air.peers
      ∧ (Controller.detectDropout c).air.outgoing = c.air.outgoing
      ∧ (Controller.detectDropout c).air.transmitter = c.air.transmitter
      ∧ (Controller.detectDropout c).command.binding = c.command.binding
      ∧ (Controller.detectDropout c).command.requestedDirection = c.command.requestedDirection
      ∧ (Controller.detectDropout c).command.functions = c.command.functions
      ∧ (Controller.detectDropout c).command.lastHalt = c.command.lastHalt
      ∧ (Controller.detectDropout c).command.partMode = c.command.partMode
      ∧ (Controller.detectDropout c).motion.travel = c.motion.travel
      ∧ (Controller.detectDropout c).motion.setpoint = c.motion.setpoint
      ∧ (Controller.detectDropout c).motion.inForce = c.motion.inForce
      ∧ (Controller.detectDropout c).motion.block = c.motion.block
      ∧ (Controller.detectDropout c).motion.write = c.motion.write := by
  refine ⟨?_, ?_, ?_, ?_, ?_, ?_, ?_, ?_, ?_, ?_, ?_, ?_, ?_, ?_, ?_, ?_, ?_, ?_⟩ <;> simp [Controller.detectDropout]

@[simp] theorem Controller.supplyNormal_frame (c : Controller) :
    (Controller.supplyNormal c).settings = c.settings ∧ (Controller.supplyNormal c).beat = c.beat
      ∧ (Controller.supplyNormal c).sound = c.sound ∧ (Controller.supplyNormal c).smoke = c.smoke
      ∧ (Controller.supplyNormal c).counters = c.counters ∧ (Controller.supplyNormal c).latches = c.latches
      ∧ (Controller.supplyNormal c).air.rxFifo = c.air.rxFifo ∧ (Controller.supplyNormal c).air.peers = c.air.peers
      ∧ (Controller.supplyNormal c).air.outgoing = c.air.outgoing
      ∧ (Controller.supplyNormal c).air.transmitter = c.air.transmitter
      ∧ (Controller.supplyNormal c).command.binding = c.command.binding
      ∧ (Controller.supplyNormal c).command.requestedDirection = c.command.requestedDirection
      ∧ (Controller.supplyNormal c).command.functions = c.command.functions
      ∧ (Controller.supplyNormal c).command.lastHalt = c.command.lastHalt
      ∧ (Controller.supplyNormal c).command.partMode = c.command.partMode
      ∧ (Controller.supplyNormal c).motion.travel = c.motion.travel
      ∧ (Controller.supplyNormal c).motion.setpoint = c.motion.setpoint
      ∧ (Controller.supplyNormal c).motion.inForce = c.motion.inForce
      ∧ (Controller.supplyNormal c).motion.block = c.motion.block
      ∧ (Controller.supplyNormal c).motion.write = c.motion.write
      ∧ (Controller.supplyNormal c).supply.shedLevel = c.supply.shedLevel := by
  refine ⟨?_, ?_, ?_, ?_, ?_, ?_, ?_, ?_, ?_, ?_, ?_, ?_, ?_, ?_, ?_, ?_, ?_, ?_, ?_, ?_, ?_⟩ <;> simp [Controller.supplyNormal]

@[simp] theorem Controller.endHold_frame (c : Controller) :
    (Controller.endHold c).settings = c.settings ∧ (Controller.endHold c).beat = c.beat
      ∧ (Controller.endHold c).sound = c.sound ∧ (Controller.endHold c).counters = c.counters
      ∧ (Controller.endHold c).latches = c.latches ∧ (Controller.endHold c).air.rxFifo = c.air.rxFifo
      ∧ (Controller.endHold c).air.peers = c.air.peers ∧ (Controller.endHold c).air.outgoing = c.air.outgoing
      ∧ (Controller.endHold c).air.transmitter = c.air.transmitter
      ∧ (Controller.endHold c).command.binding = c.command.binding
      ∧ (Controller.endHold c).command.requestedDirection = c.command.requestedDirection
      ∧ (Controller.endHold c).command.functions = c.command.functions
      ∧ (Controller.endHold c).command.lastHalt = c.command.lastHalt
      ∧ (Controller.endHold c).command.partMode = c.command.partMode
      ∧ (Controller.endHold c).motion.travel = c.motion.travel
      ∧ (Controller.endHold c).motion.setpoint = c.motion.setpoint
      ∧ (Controller.endHold c).motion.inForce = c.motion.inForce ∧ (Controller.endHold c).motion.block = c.motion.block
      ∧ (Controller.endHold c).motion.write = c.motion.write := by
  refine ⟨?_, ?_, ?_, ?_, ?_, ?_, ?_, ?_, ?_, ?_, ?_, ?_, ?_, ?_, ?_, ?_, ?_, ?_, ?_⟩ <;> simp [Controller.endHold]

@[simp] theorem Controller.stepDown_frame (c : Controller) :
    (Controller.stepDown c).settings = c.settings ∧ (Controller.stepDown c).command = c.command
      ∧ (Controller.stepDown c).motion = c.motion ∧ (Controller.stepDown c).beat = c.beat
      ∧ (Controller.stepDown c).consist = c.consist ∧ (Controller.stepDown c).sound = c.sound
      ∧ (Controller.stepDown c).counters = c.counters ∧ (Controller.stepDown c).latches = c.latches
      ∧ (Controller.stepDown c).air.rxFifo = c.air.rxFifo ∧ (Controller.stepDown c).air.peers = c.air.peers
      ∧ (Controller.stepDown c).air.outgoing = c.air.outgoing
      ∧ (Controller.stepDown c).air.transmitter = c.air.transmitter
      ∧ (Controller.stepDown c).supply.state = c.supply.state := by
  refine ⟨?_, ?_, ?_, ?_, ?_, ?_, ?_, ?_, ?_, ?_, ?_, ?_, ?_⟩ <;> simp [Controller.stepDown]

@[simp] theorem Controller.qualifySupply_frame (c : Controller) :
    (Controller.qualifySupply c).settings = c.settings ∧ (Controller.qualifySupply c).air = c.air
      ∧ (Controller.qualifySupply c).command = c.command ∧ (Controller.qualifySupply c).motion = c.motion
      ∧ (Controller.qualifySupply c).beat = c.beat ∧ (Controller.qualifySupply c).consist = c.consist
      ∧ (Controller.qualifySupply c).sound = c.sound ∧ (Controller.qualifySupply c).smoke = c.smoke
      ∧ (Controller.qualifySupply c).counters = c.counters ∧ (Controller.qualifySupply c).latches = c.latches := by
  refine ⟨?_, ?_, ?_, ?_, ?_, ?_, ?_, ?_, ?_, ?_⟩ <;> rfl

@[simp] theorem Controller.enterRun_frame (c : Controller) :
    (Controller.enterRun c).settings = c.settings ∧ (Controller.enterRun c).motion = c.motion
      ∧ (Controller.enterRun c).beat = c.beat ∧ (Controller.enterRun c).consist = c.consist
      ∧ (Controller.enterRun c).smoke = c.smoke ∧ (Controller.enterRun c).supply = c.supply
      ∧ (Controller.enterRun c).counters = c.counters ∧ (Controller.enterRun c).latches = c.latches
      ∧ (Controller.enterRun c).air.rxFifo = c.air.rxFifo ∧ (Controller.enterRun c).air.peers = c.air.peers
      ∧ (Controller.enterRun c).air.outgoing = c.air.outgoing
      ∧ (Controller.enterRun c).air.transmitter = c.air.transmitter
      ∧ (Controller.enterRun c).command.binding = c.command.binding
      ∧ (Controller.enterRun c).command.commandedStep = c.command.commandedStep
      ∧ (Controller.enterRun c).command.requestedDirection = c.command.requestedDirection
      ∧ (Controller.enterRun c).command.functions = c.command.functions
      ∧ (Controller.enterRun c).command.lastHalt = c.command.lastHalt
      ∧ (Controller.enterRun c).sound.programs = c.sound.programs := by
  refine ⟨?_, ?_, ?_, ?_, ?_, ?_, ?_, ?_, ?_, ?_, ?_, ?_, ?_, ?_, ?_, ?_, ?_, ?_⟩ <;> simp [Controller.enterRun]

@[simp] theorem Controller.warmRestart_frame (c : Controller) :
    (Controller.warmRestart c).settings = c.settings ∧ (Controller.warmRestart c).counters = c.counters
      ∧ (Controller.warmRestart c).latches = c.latches ∧ (Controller.warmRestart c).sound.programs = c.sound.programs := by
  refine ⟨?_, ?_, ?_, ?_⟩ <;> simp [Controller.warmRestart]

@[simp] theorem Controller.controlPeriod_frame (bemf current : Nat) (c : Controller) :
    (Controller.controlPeriod bemf current c).settings = c.settings
      ∧ (Controller.controlPeriod bemf current c).beat = c.beat
      ∧ (Controller.controlPeriod bemf current c).smoke = c.smoke
      ∧ (Controller.controlPeriod bemf current c).supply = c.supply
      ∧ (Controller.controlPeriod bemf current c).counters = c.counters
      ∧ (Controller.controlPeriod bemf current c).latches = c.latches
      ∧ (Controller.controlPeriod bemf current c).air.rxFifo = c.air.rxFifo
      ∧ (Controller.controlPeriod bemf current c).air.peers = c.air.peers
      ∧ (Controller.controlPeriod bemf current c).air.outgoing = c.air.outgoing
      ∧ (Controller.controlPeriod bemf current c).air.transmitter = c.air.transmitter
      ∧ (Controller.controlPeriod bemf current c).command.binding = c.command.binding
      ∧ (Controller.controlPeriod bemf current c).command.requestedDirection = c.command.requestedDirection
      ∧ (Controller.controlPeriod bemf current c).command.functions = c.command.functions
      ∧ (Controller.controlPeriod bemf current c).command.lastHalt = c.command.lastHalt
      ∧ (Controller.controlPeriod bemf current c).command.partMode = c.command.partMode
      ∧ (Controller.controlPeriod bemf current c).motion.inForce = c.motion.inForce
      ∧ (Controller.controlPeriod bemf current c).motion.write = c.motion.write
      ∧ (Controller.controlPeriod bemf current c).sound.programs = c.sound.programs := by
  refine ⟨?_, ?_, ?_, ?_, ?_, ?_, ?_, ?_, ?_, ?_, ?_, ?_, ?_, ?_, ?_, ?_, ?_, ?_⟩ <;> simp [Controller.controlPeriod]

@[simp] theorem Controller.staleBlock_frame (c : Controller) :
    (Controller.staleBlock c).settings = c.settings ∧ (Controller.staleBlock c).command = c.command
      ∧ (Controller.staleBlock c).beat = c.beat ∧ (Controller.staleBlock c).consist = c.consist
      ∧ (Controller.staleBlock c).sound = c.sound ∧ (Controller.staleBlock c).smoke = c.smoke
      ∧ (Controller.staleBlock c).light = c.light ∧ (Controller.staleBlock c).supply = c.supply
      ∧ (Controller.staleBlock c).counters = c.counters ∧ (Controller.staleBlock c).latches = c.latches
      ∧ (Controller.staleBlock c).air.rxFifo = c.air.rxFifo ∧ (Controller.staleBlock c).air.peers = c.air.peers
      ∧ (Controller.staleBlock c).air.outgoing = c.air.outgoing
      ∧ (Controller.staleBlock c).air.transmitter = c.air.transmitter
      ∧ (Controller.staleBlock c).motion.state = c.motion.state
      ∧ (Controller.staleBlock c).motion.travel = c.motion.travel
      ∧ (Controller.staleBlock c).motion.ramp = c.motion.ramp ∧ (Controller.staleBlock c).motion.duty = c.motion.duty
      ∧ (Controller.staleBlock c).motion.setpoint = c.motion.setpoint
      ∧ (Controller.staleBlock c).motion.inForce = c.motion.inForce
      ∧ (Controller.staleBlock c).motion.write = c.motion.write := by
  refine ⟨?_, ?_, ?_, ?_, ?_, ?_, ?_, ?_, ?_, ?_, ?_, ?_, ?_, ?_, ?_, ?_, ?_, ?_, ?_, ?_, ?_⟩ <;> rfl

@[simp] theorem Controller.latchStall_frame (c : Controller) :
    (Controller.latchStall c).settings = c.settings ∧ (Controller.latchStall c).beat = c.beat
      ∧ (Controller.latchStall c).consist = c.consist ∧ (Controller.latchStall c).sound = c.sound
      ∧ (Controller.latchStall c).smoke = c.smoke ∧ (Controller.latchStall c).light = c.light
      ∧ (Controller.latchStall c).supply = c.supply ∧ (Controller.latchStall c).counters = c.counters
      ∧ (Controller.latchStall c).latches = c.latches ∧ (Controller.latchStall c).air.rxFifo = c.air.rxFifo
      ∧ (Controller.latchStall c).air.peers = c.air.peers ∧ (Controller.latchStall c).air.outgoing = c.air.outgoing
      ∧ (Controller.latchStall c).air.transmitter = c.air.transmitter
      ∧ (Controller.latchStall c).command.binding = c.command.binding
      ∧ (Controller.latchStall c).command.commandedStep = c.command.commandedStep
      ∧ (Controller.latchStall c).command.requestedDirection = c.command.requestedDirection
      ∧ (Controller.latchStall c).command.functions = c.command.functions
      ∧ (Controller.latchStall c).command.lastHalt = c.command.lastHalt
      ∧ (Controller.latchStall c).command.partMode = c.command.partMode
      ∧ (Controller.latchStall c).motion.travel = c.motion.travel
      ∧ (Controller.latchStall c).motion.setpoint = c.motion.setpoint
      ∧ (Controller.latchStall c).motion.inForce = c.motion.inForce
      ∧ (Controller.latchStall c).motion.block = c.motion.block
      ∧ (Controller.latchStall c).motion.write = c.motion.write := by
  refine ⟨?_, ?_, ?_, ?_, ?_, ?_, ?_, ?_, ?_, ?_, ?_, ?_, ?_, ?_, ?_, ?_, ?_, ?_, ?_, ?_, ?_, ?_, ?_, ?_⟩ <;> simp [Controller.latchStall]

@[simp] theorem Controller.setCalibration_frame (phase : CalPhase) (record : CalRecord) (c : Controller) :
    (Controller.setCalibration phase record c).settings = c.settings
      ∧ (Controller.setCalibration phase record c).air = c.air
      ∧ (Controller.setCalibration phase record c).command = c.command
      ∧ (Controller.setCalibration phase record c).beat = c.beat
      ∧ (Controller.setCalibration phase record c).consist = c.consist
      ∧ (Controller.setCalibration phase record c).sound = c.sound
      ∧ (Controller.setCalibration phase record c).smoke = c.smoke
      ∧ (Controller.setCalibration phase record c).light = c.light
      ∧ (Controller.setCalibration phase record c).supply = c.supply
      ∧ (Controller.setCalibration phase record c).counters = c.counters
      ∧ (Controller.setCalibration phase record c).latches = c.latches
      ∧ (Controller.setCalibration phase record c).motion.travel = c.motion.travel
      ∧ (Controller.setCalibration phase record c).motion.ramp = c.motion.ramp
      ∧ (Controller.setCalibration phase record c).motion.duty = c.motion.duty
      ∧ (Controller.setCalibration phase record c).motion.setpoint = c.motion.setpoint
      ∧ (Controller.setCalibration phase record c).motion.inForce = c.motion.inForce
      ∧ (Controller.setCalibration phase record c).motion.block = c.motion.block
      ∧ (Controller.setCalibration phase record c).motion.write = c.motion.write := by
  refine ⟨?_, ?_, ?_, ?_, ?_, ?_, ?_, ?_, ?_, ?_, ?_, ?_, ?_, ?_, ?_, ?_, ?_, ?_⟩ <;> rfl

@[simp] theorem Controller.beginStore_frame (r : CalRecord) (c : Controller) :
    (Controller.beginStore r c).settings = c.settings ∧ (Controller.beginStore r c).air = c.air
      ∧ (Controller.beginStore r c).command = c.command ∧ (Controller.beginStore r c).beat = c.beat
      ∧ (Controller.beginStore r c).consist = c.consist ∧ (Controller.beginStore r c).sound = c.sound
      ∧ (Controller.beginStore r c).smoke = c.smoke ∧ (Controller.beginStore r c).light = c.light
      ∧ (Controller.beginStore r c).supply = c.supply ∧ (Controller.beginStore r c).counters = c.counters
      ∧ (Controller.beginStore r c).latches = c.latches ∧ (Controller.beginStore r c).motion.travel = c.motion.travel
      ∧ (Controller.beginStore r c).motion.ramp = c.motion.ramp
      ∧ (Controller.beginStore r c).motion.setpoint = c.motion.setpoint
      ∧ (Controller.beginStore r c).motion.inForce = c.motion.inForce
      ∧ (Controller.beginStore r c).motion.block = c.motion.block := by
  refine ⟨?_, ?_, ?_, ?_, ?_, ?_, ?_, ?_, ?_, ?_, ?_, ?_, ?_, ?_, ?_, ?_⟩ <;> rfl

@[simp] theorem Controller.refuseCalibration_frame (c : Controller) :
    (Controller.refuseCalibration c).settings = c.settings ∧ (Controller.refuseCalibration c).beat = c.beat
      ∧ (Controller.refuseCalibration c).consist = c.consist ∧ (Controller.refuseCalibration c).sound = c.sound
      ∧ (Controller.refuseCalibration c).smoke = c.smoke ∧ (Controller.refuseCalibration c).light = c.light
      ∧ (Controller.refuseCalibration c).supply = c.supply ∧ (Controller.refuseCalibration c).counters = c.counters
      ∧ (Controller.refuseCalibration c).air.rxFifo = c.air.rxFifo
      ∧ (Controller.refuseCalibration c).air.peers = c.air.peers
      ∧ (Controller.refuseCalibration c).air.outgoing = c.air.outgoing
      ∧ (Controller.refuseCalibration c).air.transmitter = c.air.transmitter
      ∧ (Controller.refuseCalibration c).command.binding = c.command.binding
      ∧ (Controller.refuseCalibration c).command.commandedStep = c.command.commandedStep
      ∧ (Controller.refuseCalibration c).command.requestedDirection = c.command.requestedDirection
      ∧ (Controller.refuseCalibration c).command.functions = c.command.functions
      ∧ (Controller.refuseCalibration c).command.lastHalt = c.command.lastHalt
      ∧ (Controller.refuseCalibration c).command.partMode = c.command.partMode
      ∧ (Controller.refuseCalibration c).motion.travel = c.motion.travel
      ∧ (Controller.refuseCalibration c).motion.setpoint = c.motion.setpoint
      ∧ (Controller.refuseCalibration c).motion.inForce = c.motion.inForce
      ∧ (Controller.refuseCalibration c).motion.block = c.motion.block
      ∧ (Controller.refuseCalibration c).motion.write = c.motion.write := by
  refine ⟨?_, ?_, ?_, ?_, ?_, ?_, ?_, ?_, ?_, ?_, ?_, ?_, ?_, ?_, ?_, ?_, ?_, ?_, ?_, ?_, ?_, ?_, ?_⟩ <;> simp [Controller.refuseCalibration]

@[simp] theorem Controller.restoreRecord_frame (c : Controller) :
    (Controller.restoreRecord c).settings = c.settings ∧ (Controller.restoreRecord c).air = c.air
      ∧ (Controller.restoreRecord c).command = c.command ∧ (Controller.restoreRecord c).beat = c.beat
      ∧ (Controller.restoreRecord c).consist = c.consist ∧ (Controller.restoreRecord c).sound = c.sound
      ∧ (Controller.restoreRecord c).smoke = c.smoke ∧ (Controller.restoreRecord c).light = c.light
      ∧ (Controller.restoreRecord c).supply = c.supply ∧ (Controller.restoreRecord c).counters = c.counters
      ∧ (Controller.restoreRecord c).latches = c.latches ∧ (Controller.restoreRecord c).motion.state = c.motion.state
      ∧ (Controller.restoreRecord c).motion.travel = c.motion.travel
      ∧ (Controller.restoreRecord c).motion.ramp = c.motion.ramp
      ∧ (Controller.restoreRecord c).motion.duty = c.motion.duty
      ∧ (Controller.restoreRecord c).motion.setpoint = c.motion.setpoint
      ∧ (Controller.restoreRecord c).motion.inForce = c.motion.inForce
      ∧ (Controller.restoreRecord c).motion.block = c.motion.block := by
  refine ⟨?_, ?_, ?_, ?_, ?_, ?_, ?_, ?_, ?_, ?_, ?_, ?_, ?_, ?_, ?_, ?_, ?_, ?_⟩ <;> rfl

@[simp] theorem Controller.endWrite_frame (c : Controller) :
    (Controller.endWrite c).settings = c.settings ∧ (Controller.endWrite c).air = c.air
      ∧ (Controller.endWrite c).command = c.command ∧ (Controller.endWrite c).beat = c.beat
      ∧ (Controller.endWrite c).consist = c.consist ∧ (Controller.endWrite c).sound = c.sound
      ∧ (Controller.endWrite c).smoke = c.smoke ∧ (Controller.endWrite c).light = c.light
      ∧ (Controller.endWrite c).supply = c.supply ∧ (Controller.endWrite c).counters = c.counters
      ∧ (Controller.endWrite c).latches = c.latches ∧ (Controller.endWrite c).motion.state = c.motion.state
      ∧ (Controller.endWrite c).motion.travel = c.motion.travel ∧ (Controller.endWrite c).motion.ramp = c.motion.ramp
      ∧ (Controller.endWrite c).motion.duty = c.motion.duty
      ∧ (Controller.endWrite c).motion.setpoint = c.motion.setpoint
      ∧ (Controller.endWrite c).motion.inForce = c.motion.inForce
      ∧ (Controller.endWrite c).motion.block = c.motion.block := by
  refine ⟨?_, ?_, ?_, ?_, ?_, ?_, ?_, ?_, ?_, ?_, ?_, ?_, ?_, ?_, ?_, ?_, ?_, ?_⟩ <;> rfl

@[simp] theorem Controller.adopt_frame (v : CalValues) (c : Controller) :
    (Controller.adopt v c).settings = c.settings ∧ (Controller.adopt v c).air = c.air
      ∧ (Controller.adopt v c).command = c.command ∧ (Controller.adopt v c).beat = c.beat
      ∧ (Controller.adopt v c).consist = c.consist ∧ (Controller.adopt v c).sound = c.sound
      ∧ (Controller.adopt v c).smoke = c.smoke ∧ (Controller.adopt v c).light = c.light
      ∧ (Controller.adopt v c).supply = c.supply ∧ (Controller.adopt v c).counters = c.counters
      ∧ (Controller.adopt v c).latches = c.latches ∧ (Controller.adopt v c).motion.state = c.motion.state
      ∧ (Controller.adopt v c).motion.travel = c.motion.travel ∧ (Controller.adopt v c).motion.ramp = c.motion.ramp
      ∧ (Controller.adopt v c).motion.duty = c.motion.duty ∧ (Controller.adopt v c).motion.setpoint = c.motion.setpoint
      ∧ (Controller.adopt v c).motion.block = c.motion.block ∧ (Controller.adopt v c).motion.write = c.motion.write := by
  refine ⟨?_, ?_, ?_, ?_, ?_, ?_, ?_, ?_, ?_, ?_, ?_, ?_, ?_, ?_, ?_, ?_, ?_, ?_⟩ <;> rfl

@[simp] theorem Controller.writeComplete_frame (c : Controller) :
    (Controller.writeComplete c).settings = c.settings ∧ (Controller.writeComplete c).beat = c.beat
      ∧ (Controller.writeComplete c).consist = c.consist ∧ (Controller.writeComplete c).sound = c.sound
      ∧ (Controller.writeComplete c).smoke = c.smoke ∧ (Controller.writeComplete c).light = c.light
      ∧ (Controller.writeComplete c).supply = c.supply ∧ (Controller.writeComplete c).counters = c.counters
      ∧ (Controller.writeComplete c).latches = c.latches ∧ (Controller.writeComplete c).air.rxFifo = c.air.rxFifo
      ∧ (Controller.writeComplete c).air.peers = c.air.peers
      ∧ (Controller.writeComplete c).air.outgoing = c.air.outgoing
      ∧ (Controller.writeComplete c).air.transmitter = c.air.transmitter
      ∧ (Controller.writeComplete c).command.binding = c.command.binding
      ∧ (Controller.writeComplete c).command.commandedStep = c.command.commandedStep
      ∧ (Controller.writeComplete c).command.requestedDirection = c.command.requestedDirection
      ∧ (Controller.writeComplete c).command.functions = c.command.functions
      ∧ (Controller.writeComplete c).command.lastHalt = c.command.lastHalt
      ∧ (Controller.writeComplete c).command.partMode = c.command.partMode
      ∧ (Controller.writeComplete c).motion.travel = c.motion.travel
      ∧ (Controller.writeComplete c).motion.setpoint = c.motion.setpoint
      ∧ (Controller.writeComplete c).motion.block = c.motion.block := by
  refine ⟨?_, ?_, ?_, ?_, ?_, ?_, ?_, ?_, ?_, ?_, ?_, ?_, ?_, ?_, ?_, ?_, ?_, ?_, ?_, ?_, ?_, ?_⟩ <;>
    (unfold Controller.writeComplete; (repeat' split) <;> simp)

@[simp] theorem Controller.writeTimeout_frame (c : Controller) :
    (Controller.writeTimeout c).settings = c.settings ∧ (Controller.writeTimeout c).beat = c.beat
      ∧ (Controller.writeTimeout c).consist = c.consist ∧ (Controller.writeTimeout c).sound = c.sound
      ∧ (Controller.writeTimeout c).smoke = c.smoke ∧ (Controller.writeTimeout c).light = c.light
      ∧ (Controller.writeTimeout c).supply = c.supply ∧ (Controller.writeTimeout c).counters = c.counters
      ∧ (Controller.writeTimeout c).air.rxFifo = c.air.rxFifo ∧ (Controller.writeTimeout c).air.peers = c.air.peers
      ∧ (Controller.writeTimeout c).air.outgoing = c.air.outgoing
      ∧ (Controller.writeTimeout c).air.transmitter = c.air.transmitter
      ∧ (Controller.writeTimeout c).command.binding = c.command.binding
      ∧ (Controller.writeTimeout c).command.commandedStep = c.command.commandedStep
      ∧ (Controller.writeTimeout c).command.requestedDirection = c.command.requestedDirection
      ∧ (Controller.writeTimeout c).command.functions = c.command.functions
      ∧ (Controller.writeTimeout c).command.lastHalt = c.command.lastHalt
      ∧ (Controller.writeTimeout c).command.partMode = c.command.partMode
      ∧ (Controller.writeTimeout c).motion.travel = c.motion.travel
      ∧ (Controller.writeTimeout c).motion.setpoint = c.motion.setpoint
      ∧ (Controller.writeTimeout c).motion.inForce = c.motion.inForce
      ∧ (Controller.writeTimeout c).motion.block = c.motion.block := by
  refine ⟨?_, ?_, ?_, ?_, ?_, ?_, ?_, ?_, ?_, ?_, ?_, ?_, ?_, ?_, ?_, ?_, ?_, ?_, ?_, ?_, ?_, ?_⟩ <;>
    (unfold Controller.writeTimeout; (repeat' split) <;> simp)

@[simp] theorem Controller.millisecond_frame (c : Controller) :
    (Controller.millisecond c).settings = c.settings ∧ (Controller.millisecond c).beat = c.beat
      ∧ (Controller.millisecond c).sound = c.sound ∧ (Controller.millisecond c).light = c.light
      ∧ (Controller.millisecond c).counters = c.counters ∧ (Controller.millisecond c).latches = c.latches
      ∧ (Controller.millisecond c).air.rxFifo = c.air.rxFifo ∧ (Controller.millisecond c).air.peers = c.air.peers
      ∧ (Controller.millisecond c).air.outgoing = c.air.outgoing
      ∧ (Controller.millisecond c).command.commandedStep = c.command.commandedStep
      ∧ (Controller.millisecond c).command.requestedDirection = c.command.requestedDirection
      ∧ (Controller.millisecond c).command.functions = c.command.functions
      ∧ (Controller.millisecond c).command.lastHalt = c.command.lastHalt
      ∧ (Controller.millisecond c).command.partMode = c.command.partMode
      ∧ (Controller.millisecond c).motion.state = c.motion.state
      ∧ (Controller.millisecond c).motion.travel = c.motion.travel
      ∧ (Controller.millisecond c).motion.ramp = c.motion.ramp ∧ (Controller.millisecond c).motion.duty = c.motion.duty
      ∧ (Controller.millisecond c).motion.setpoint = c.motion.setpoint
      ∧ (Controller.millisecond c).motion.inForce = c.motion.inForce
      ∧ (Controller.millisecond c).motion.block = c.motion.block
      ∧ (Controller.millisecond c).consist.state = c.consist.state
      ∧ (Controller.millisecond c).consist.common = c.consist.common
      ∧ (Controller.millisecond c).supply.state = c.supply.state
      ∧ (Controller.millisecond c).supply.shedLevel = c.supply.shedLevel := by
  refine ⟨?_, ?_, ?_, ?_, ?_, ?_, ?_, ?_, ?_, ?_, ?_, ?_, ?_, ?_, ?_, ?_, ?_, ?_, ?_, ?_, ?_, ?_, ?_, ?_, ?_⟩ <;> rfl

end Sys2Proof.Machine
end

