-- ==== Sys2Proof/Laws/Operations.lean ====
section
/-! SUPPORT. What a shared operation does, said once: the cases of the operations that change a motion state, a consist state,
a shed level or a transmit slot, and the arithmetic that the invariants rest on. -/

namespace Sys2Proof.Machine

/-! ### Arithmetic -/

theorem clampInt_le {low high : Int} (h : low ≤ high) (x : Int) : low ≤ clampInt low high x ∧ clampInt low high x ≤ high := by
  unfold clampInt; omega

theorem clampNat_le {low high : Nat} (h : low ≤ high) (x : Nat) : low ≤ clampNat low high x ∧ clampNat low high x ≤ high := by
  unfold clampNat; omega

theorem saturatingSucc_le (limit n : Nat) : saturatingSucc limit n ≤ limit := Nat.min_le_left ..

/-- Moving toward a target never passes it. -/
theorem rampToward_le (a d target r : Nat) :
    rampToward a d target r ≤ max r target ∧ min r target ≤ rampToward a d target r := by
  unfold rampToward; split_ifs <;> omega

theorem rampToward_step (a d target r : Nat) :
    rampToward a d target r ≤ r + a ∧ r ≤ rampToward a d target r + d := by
  unfold rampToward; split_ifs <;> omega

theorem limitDuty_le (cap previous : Nat) (folding : Bool) (raw : Option Int) : limitDuty cap previous folding raw ≤ cap := by
  unfold limitDuty foldback clampInt
  cases raw with
  | none => exact Nat.zero_le _
  | some raw => simp only; split_ifs <;> omega

theorem limitDuty_foldback (cap previous : Nat) (raw : Option Int) : limitDuty cap previous true raw ≤ previous - 16 := by
  unfold limitDuty foldback
  cases raw with
  | none => exact Nat.zero_le _
  | some raw => exact Nat.min_le_right ..

/-- The register of R17 and R162 stays in 1 to 65536: 65537 is prime. -/
theorem nextRandom_range {n : Nat} (low : 1 ≤ n) (high : n ≤ 65536) : 1 ≤ nextRandom n ∧ nextRandom n ≤ 65536 := by
  unfold nextRandom
  refine ⟨?_, by omega⟩
  by_contra h
  have h0 : n * 75 % 65537 = 0 := by omega
  have := Nat.dvd_of_mod_eq_zero h0
  have hp : Nat.Coprime 65537 75 := by decide
  have := Nat.le_of_dvd (by omega) (hp.dvd_of_dvd_mul_right this)
  omega

theorem flickerDraw_range (base register : Nat) : base - base / 4 ≤ flickerDraw base register ∧ flickerDraw base register ≤ base := by
  unfold flickerDraw
  have : register % (base / 4 + 1) < base / 4 + 1 := Nat.mod_lt _ (Nat.succ_pos _)
  omega

/-! ### Slots -/

@[simp] theorem TxSlot.file_requested (slot : TxSlot) : slot.file.requested = true := by
  unfold TxSlot.file; split
  · assumption
  · rfl

theorem TxSlot.file_attempts (slot : TxSlot) : slot.file.attempts ≤ slot.attempts := by
  unfold TxSlot.file; split
  · exact Nat.le_refl _
  · exact Nat.zero_le _

@[simp] theorem AirInterface.slot_setSlot (a : AirInterface) (kind : TxKind) (slot : TxSlot) :
    (a.setSlot kind slot).slot kind = slot := by
  cases kind <;> rfl

/-! ### Motion state -/

@[simp] theorem Controller.setMotionState_motion (state : MotionState) (c : Controller) :
    (c.setMotionState state).motion = { c.motion with state := state } := by
  unfold Controller.setMotionState; split <;> rfl

/-- A change of one of the four flags files a STATUS request. -/
theorem Controller.setMotionState_status {state : MotionState} {c : Controller} (h : c.motion.state.flags ≠ state.flags) :
    (c.setMotionState state).air.statusSlot.requested = true := by
  unfold Controller.setMotionState
  rw [if_neg h]
  exact TxSlot.file_requested _

@[simp] theorem Controller.leaveCalibration_motion (state : MotionState) (c : Controller) :
    (c.leaveCalibration state).motion
      = { c.motion with state := state, duty := 0, ramp := 0, integrator := 0, calibration := none, labour := .coast } := by
  simp [Controller.leaveCalibration, Controller.onMotion]

/-- The drive is off, I is 0, R stands at 0 and the labour level is COAST. -/
@[simp] theorem Controller.standStill_motion (c : Controller) :
    c.standStill.motion = { c.motion with duty := 0, integrator := 0, ramp := 0, labour := .coast } := rfl

/-- An emergency stop ends in a stopped state with R, I and the duty at 0, or leaves a state that is already stopped. -/
theorem Controller.emergencyStop_motion (c : Controller) :
    (c.motion.state.stopped = true ∧ c.emergencyStop = c) ∨
      ((c.motion.state = .idle ∨ c.motion.state = .moving) ∧
        c.emergencyStop.motion
          = { c.motion with state := .eStopped, ramp := 0, duty := 0, integrator := 0, labour := .coast }) ∨
      (c.motion.state.isCalibrating = true ∧
        c.emergencyStop.motion
          = { c.motion with
              state := .eStopped, duty := 0, ramp := 0, integrator := 0, calibration := none, labour := .coast }) := by
  cases h : c.motion.state with
  | idle => exact .inr (.inl ⟨.inl rfl, by simp [Controller.emergencyStop, h, Controller.raise]⟩)
  | moving => exact .inr (.inl ⟨.inr rfl, by simp [Controller.emergencyStop, h, Controller.raise]⟩)
  | eStopped => exact .inl ⟨rfl, by simp [Controller.emergencyStop, h]⟩
  | faulted cause => exact .inl ⟨rfl, by simp [Controller.emergencyStop, h]⟩
  | calibrating phase => exact .inr (.inr ⟨rfl, by simp [Controller.emergencyStop, h, Controller.raise]⟩)

@[simp] theorem Controller.latchFault_motion (cause : FaultCause) (c : Controller) :
    (c.latchFault cause).motion
      = { c.motion with
          state := .faulted cause, duty := 0, ramp := 0, integrator := 0, stallCount := 0, calibration := none
          labour := .coast } := by
  simp [Controller.latchFault, Controller.onMotion]

/-- A calibration ends idle; nothing else is touched. -/
theorem Controller.abortCalibration_cases (c : Controller) :
    (c.motion.state.isCalibrating = false ∧ c.abortCalibration = c) ∨
      (c.motion.state.isCalibrating = true ∧
        c.abortCalibration.motion
          = { c.motion with
              state := .idle, duty := 0, ramp := 0, integrator := 0, calibration := none, labour := .coast }) := by
  unfold Controller.abortCalibration
  cases h : c.motion.state.isCalibrating
  · exact .inl ⟨rfl, by simp⟩
  · exact .inr ⟨rfl, by simp⟩

/-! ### Consist state, shed level, lights -/

@[simp] theorem Controller.setConsistState_consist (state : ConsistState) (c : Controller) :
    (c.setConsistState state).consist = { c.consist with state := state } := by
  unfold Controller.setConsistState; split <;> rfl

theorem Controller.setConsistState_status (state : ConsistState) (c : Controller) :
    (c.setConsistState state).air.statusSlot.requested = true := by
  unfold Controller.setConsistState
  split <;> exact TxSlot.file_requested _

@[simp] theorem Controller.setShedLevel_supply (level : Nat) (c : Controller) :
    (c.setShedLevel level).supply = { c.supply with shedLevel := level } := by
  unfold Controller.setShedLevel
  split
  · rename_i h; rw [h]
  · simp [Controller.judgeLights, Controller.onLight, Controller.onSupply]

theorem LightOutput.judge_lit (lit : Bool) (o : LightOutput) : (o.judge lit).lit = lit := by
  unfold LightOutput.judge
  cases lit <;> cases h : o.lit <;> simp [h]

theorem LightOutput.judge_sound (lit : Bool) (o : LightOutput) (h : o.Sound) : (o.judge lit).Sound := by
  unfold LightOutput.judge LightOutput.Sound at *
  cases lit <;> cases hl : o.lit <;> simp_all

/-- After a judgement every output is lit exactly as its inputs call for. -/
theorem Controller.judgeLights_judged (c : Controller) : c.judgeLights.LightsJudged := by
  intro k o h
  simp only [Controller.judgeLights, Controller.onLight, List.getElem?_mapIdx, Option.map_eq_some_iff] at h
  obtain ⟨o', -, rfl⟩ := h
  exact LightOutput.judge_lit ..

/-- The lights after a judgement follow from the lights before it. -/
theorem Controller.judgeLights_follow (c : Controller) : c.judgeLights.LightsFollow c.light := by
  have h : ∀ k, c.judgeLights.isLit k = c.isLit k := fun _ => rfl
  unfold Controller.LightsFollow
  simp only [h]
  simp only [Controller.judgeLights, Controller.onLight, LightOutput.judge, Controller.pairDitching, Bool.or_eq_true,
    Bool.and_eq_true, beq_iff_eq]
  rfl

/-! ### Voices -/

theorem Voice.hold_sound (v : Voice) (t : Trigger) (h : v.Sound) (hs : v.current.isSome = true) : (v.hold t).Sound := by
  unfold Voice.hold
  split
  · exact ⟨h.1, fun _ => hs⟩
  · split
    · exact ⟨h.1, fun _ => hs⟩
    · exact h

/-- A trigger keeps the resume stack within two entries and a pending trigger on a SOUNDING voice. -/
theorem Voice.judge_sound (p : Program) (v : Voice) (t : Trigger) (h : v.Sound) : (v.judge p t).Sound := by
  have started : ∀ w : Voice, w.stack.length ≤ 2 → (w.startProgram p t).Sound := fun w hw => ⟨hw, fun _ => rfl⟩
  unfold Voice.judge
  cases hc : v.current with
  | none => exact started v h.1
  | some cur =>
    simp only
    split
    · split
      · refine started _ ?_
        simp only [Voice.push, hc, List.length_cons]
        omega
      · exact Voice.hold_sound v t h (by rw [hc]; rfl)
    · split
      · exact h
      · split
        · exact started v h.1
        · exact Voice.hold_sound v t h (by rw [hc]; rfl)

/-! ### The end of a program -/

/-- A READY or PLAYING half becomes EMPTY. -/
theorem HalfBuffer.drop_eq(h : HalfBuffer) :
    h.drop = if h.state = .ready ∨ h.state = .playing then HalfBuffer.empty else h := by
  unfold HalfBuffer.drop; cases h' : h.state <;> simp

theorem Voice.renew_renewed (v : Voice) : v.Renewed v.renew := by
  simp only [Voice.Renewed, Voice.renew, HalfBuffer.drop_eq, and_self]

theorem Voice.startProgram_ends {table : ProgramTable} {v : Voice} {t : Trigger} (first : v.PendingFirst t) :
    Voice.Ends table v (Voice.start table { v with pending := none } t) := by
  unfold Voice.start
  split
  · rename_i p hp
    exact .starts v _ t p first hp v.renew_renewed rfl rfl rfl rfl
      (by
        have : t.origin.holds = true ↔ t.origin = .function ∨ t.origin = .ambient := by
          cases t.origin <;> simp [TriggerOrigin.holds]
        simp [Voice.startProgram, this])
  · rename_i hp
    exact .silent v t first hp

/-- The end of a program is what R131 and R132 make of it. -/
theorem Voice.endProgram_ends (table : ProgramTable) : ∀ (stack : List ResumeEntry) (v : Voice), v.stack = stack →
    Voice.Ends table v (Voice.endProgram table stack v) := by
  intro stack
  induction stack with
  | nil =>
    intro v hs
    unfold Voice.endProgram
    split
    · rename_i t hp
      have : ({ v with stack := [], pending := none } : Voice) = { v with pending := none } := by rw [← hs]
      rw [this]
      exact Voice.startProgram_ends ⟨hp, by simp [hs]⟩
    · rename_i hp
      have : ({ v.becomeIdle with stack := [] } : Voice) = v.becomeIdle := by rw [← hs]; rfl
      rw [this]
      exact .idles v hs hp
  | cons e rest ih =>
    intro v hs
    unfold Voice.endProgram
    split_ifs with hb
    · split
      · rename_i t hp
        have : ({ v with stack := e :: rest, pending := none } : Voice) = { v with pending := none } := by rw [← hs]
        rw [this]
        refine Voice.startProgram_ends ⟨hp, ?_⟩
        rw [hs]; rintro e' he; cases he
        simpa [pendingBefore, hp] using hb
      · rename_i hp; simp [pendingBefore, hp] at hb
    · have waits : ∀ t, v.pending = some t → t.priority ≤ e.mask := by
        intro t ht; simpa [pendingBefore, ht] using hb
      split
      · rename_i hp
        exact .skips v _ e rest hs waits hp (ih _ rfl)
      · rename_i p hp
        dsimp only
        split_ifs with hr
        · simp only [Bool.and_eq_true, Option.isNone_iff_eq_none] at hr
          refine .passes v (Voice.resume p { v with stack := rest } e) _ e rest p hs waits hp hr.1 hr.2 ?_ ?_ ?_ (ih _ ?_)
          all_goals simp only [Voice.resume, hr.1, if_true]
          · exact v.renew_renewed
          all_goals rfl
        · cases hd : e.releaseDue with
          | false =>
            refine .resumes v _ e rest p hs waits hp hd ?_ ?_ ?_ ?_ ?_ ?_ <;>
              simp only [Voice.resume, hd, Bool.false_eq_true, if_false]
            · exact v.renew_renewed
            all_goals rfl
          | true =>
            have hrel : p.release.isSome = true := by
              cases h : p.release <;> simp_all
            refine .releases v _ e rest p hs waits hp hd hrel ?_ ?_ ?_ ?_ ?_ ?_ <;>
              simp only [Voice.resume, hd, if_true, Program.releaseCursor, hrel]
            · exact v.renew_renewed
            all_goals rfl

/-! ### Jabber (R19) -/

/-- A high found to be jabber is a high in QUIET. -/
theorem AirInterface.jabbering_iff (a : AirInterface) :
    a.jabbering = true ↔ (∃ left, a.transmitter = .quiet left) ∧ a.transmitActive = true := by
  cases h : a.transmitter <;> simp [AirInterface.jabbering, h]

/-- The detection has been made as QUIET begins. -/
@[simp] theorem AirInterface.enterQuiet_jabbering (a : AirInterface) : a.enterQuiet.jabbering = true := rfl

theorem AirInterface.quietOver_iff (a : AirInterface) :
    a.quietOver = true ↔ a.transmitter = .quiet 0 ∧ a.transmitActive = false := by
  simp [AirInterface.quietOver]

end Sys2Proof.Machine
end

