-- ==== Sys2Proof/Laws/Edges.lean ====
section
/-! SUPPORT. The function edges of one DRIVE (R30 to R32): what one edge does, and all edges of a frame in their order. What
smoke does as it is asked for and as the shed level moves (R148, R153). -/

namespace Sys2Proof.Machine

/-- Smoke follows the shed level, and its change is never one of the SMOKE_FAULT flag (R153, R155). -/
theorem Controller.smokeShed_under (level : Nat) (c : Controller) :
    c.smokeShed level = { c with smoke := c.smoke.underShed c.settings.fanIdle level } := by
  have fan : ∀ l : Nat, ¬l = 0 → shedFan c.settings.fanIdle l = if l = 1 then c.settings.fanIdle else 0 := by
    intro l h
    unfold shedFan
    by_cases h1 : l = 1
    · rw [if_pos h1, if_pos (by omega)]
    · rw [if_neg h1, if_neg (by omega)]
  unfold Controller.smokeShed SmokeController.underShed
  cases h : c.smoke.state <;> by_cases h0 : level = 0 <;>
    simp [h, h0, fan level, Controller.changeSmoke, Controller.announceSmoke, Controller.onSmoke, SmokeController.enterShed,
      SmokeController.enterHeating, SmokeState.faulty]

theorem Controller.startSmoke_asked (c : Controller) (h : c.smoke.state = .off ∨ c.smoke.state = .fault) :
    c.startSmoke.smoke = c.smokeAsked ∧
      c.startSmoke
        = { c with
            air := { c.air with statusSlot := if c.smoke.state = .fault then c.air.statusSlot.file else c.air.statusSlot }
            smoke := c.smokeAsked } := by
  have hs : (if c.supply.shedLevel = 0 then c.smoke.enterHeating else c.smoke.enterShed c.settings.fanIdle c.supply.shedLevel)
      = c.smokeAsked := by
    unfold Controller.smokeAsked SmokeController.enterHeating SmokeController.enterShed shedFan
    split_ifs <;> first | rfl | omega
  have hf : c.smokeAsked.state.faulty = false := by
    unfold Controller.smokeAsked; split_ifs <;> rfl
  have he : c.startSmoke = ({ c with smoke := c.smokeAsked } : Controller).announceSmoke c.smoke.state := by
    rw [← hs]; rfl
  unfold Controller.announceSmoke at he
  rw [show ({ c with smoke := c.smokeAsked } : Controller).smoke.state.faulty = false from hf] at he
  rcases h with h | h <;> rw [h] at he <;> simp only [SmokeState.faulty, if_true, Bool.true_eq_false, if_false] at he <;>
    exact ⟨congrArg Controller.smoke he, he.trans (by simp [h, Controller.fileStatus, Controller.onAir])⟩

/-- What the delivery of one edge does once function `i` has changed over from `c` to `d`. -/
theorem Controller.deliverEdge_done {c d : Controller} {i : Nat} (hi : i < 24)
    (hd : d = { c with command := { c.command with functions := d.command.functions } })
    (hx : ∀ j < 24, d.command.functions.getLsbD j
      = if j = i then !c.command.functions.getLsbD j else c.command.functions.getLsbD j) :
    c.EdgeDone i
      (d.deliverEdge (c.settings.functionMap.getD i .none) (!c.command.functions.getLsbD i)
        (c.levelOf (c.settings.functionMap.getD i .none))) := by
  have hair : d.air = c.air := by rw [hd]
  have hsound : d.sound = c.sound := by rw [hd]
  have hs : d.smoke = c.smoke := by rw [hd]
  have hlight : d.light = c.light := by rw [hd]
  have hp : d.command.partMode = c.command.partMode := by rw [hd]
  have hset : d.settings = c.settings := by rw [hd]
  have hsup : d.supply = c.supply := by rw [hd]
  have hi' := hx i hi
  simp only [if_true] at hi'
  -- an outcome that differs from `d` in the four parts that an edge may change
  have out : ∀ x : Controller,
      x = { d with
            air := { d.air with statusSlot := x.air.statusSlot }, sound := x.sound, smoke := x.smoke, light := x.light } →
      x = { c with
            air := { c.air with statusSlot := x.air.statusSlot }
            command := { c.command with functions := x.command.functions }
            sound := x.sound, smoke := x.smoke, light := x.light } ∧
        ∀ j < 24, x.command.functions.getLsbD j
          = if j = i then !c.command.functions.getLsbD j else c.command.functions.getLsbD j := by
    intro x h
    have hf : x.command.functions = d.command.functions := by rw [h]
    refine ⟨?_, by rw [hf]; exact hx⟩
    rw [hf]
    rw [hd] at h
    exact h
  unfold Controller.EdgeDone
  refine and_assoc.mp ⟨out _ ?_, ?_⟩
  · cases ha : c.settings.functionMap.getD i .none with
    | none => rfl
    | lights m => rfl
    | shunt => rfl
    | sound n => unfold Controller.deliverEdge; cases c.command.functions.getLsbD i <;> rfl
    | dim => unfold Controller.deliverEdge; simp only; split <;> rfl
    | soundOn => unfold Controller.deliverEdge Controller.triggerAmbient; simp only; split <;> (try split) <;> rfl
    | smokeEnable =>
      unfold Controller.deliverEdge Controller.smokeEdge Controller.startSmoke Controller.changeSmoke Controller.announceSmoke
      simp only
      repeat' split
      all_goals rfl
  · cases ha : c.settings.functionMap.getD i .none with
    | none => exact ⟨by rw [hd]; rfl, hsound, hs, hlight⟩
    | shunt => exact ⟨by rw [hd]; rfl, hsound, hs, hlight⟩
    | lights m =>
      refine ⟨by rw [hd]; rfl, hsound, hs, ?_⟩
      rw [← hlight]
      exact Controller.judgeLights_follow d
    | sound n =>
      simp only [Controller.deliverEdge]
      cases hf : c.command.functions.getLsbD i <;> rw [hf] at hi' <;>
        simp [Controller.onSound, hi', hair, hs, hlight, hsound]
    | dim =>
      by_cases h : c.dimLevel = d.dimLevel
      · rw [show d.deliverEdge .dim (!c.command.functions.getLsbD i) (c.levelOf .dim) = d from if_pos h]
        exact ⟨by rw [hair], hsound, hs, fun _ => hlight, fun h' => absurd h.symm h'⟩
      · rw [show d.deliverEdge .dim (!c.command.functions.getLsbD i) (c.levelOf .dim) = d.judgeLights from if_neg h]
        refine ⟨by rw [← hair]; rfl, hsound, hs, fun h' => absurd (show d.dimLevel = c.dimLevel from h').symm h, fun _ => ?_⟩
        rw [← hlight]
        exact Controller.judgeLights_follow d
    | soundOn =>
      have hl : ∀ e : Controller, e.triggerAmbient.soundOnLevel = e.soundOnLevel := by
        intro e; unfold Controller.triggerAmbient; split <;> rfl
      have ht : d.soundOnLevel = true → d.triggerAmbient = d.onSound fun e => e.trigger e.ambient .ambient := by
        intro h; unfold Controller.triggerAmbient; rw [if_pos h]
      simp only [Controller.deliverEdge, Controller.levelOf, Bool.and_eq_true, Bool.not_eq_true', beq_iff_eq, hp]
      split
      · rename_i h
        rw [if_pos (by simpa [hl, and_assoc] using h), ht h.1.2]
        exact ⟨by rw [← hair]; rfl, hs, hlight, by rw [← hsound]; rfl⟩
      · rename_i h
        refine ⟨by rw [hair], hs, hlight, ?_⟩
        rw [if_neg (by simpa [and_assoc] using h), hsound]
    | smokeEnable =>
      have hask : d.smokeAsked = c.smokeAsked := by unfold Controller.smokeAsked; rw [hs, hset, hsup]
      have level : ∀ x : Controller, x.settings = d.settings → x.command = d.command →
          x.smokeEnableLevel = d.smokeEnableLevel := by
        intro x h1 h2; unfold Controller.smokeEnableLevel; rw [h1, h2]
      generalize hy : d.deliverEdge .smokeEnable (!c.command.functions.getLsbD i) (c.levelOf .smokeEnable) = x
      have hx' : x = if c.smokeEnableLevel = d.smokeEnableLevel then d else d.smokeEdge d.smokeEnableLevel := hy.symm
      by_cases h : c.smokeEnableLevel = d.smokeEnableLevel
      · rw [if_pos h] at hx'
        rw [hx']
        refine ⟨hsound, hlight, fun _ => ⟨hs, by rw [hair]⟩, fun h0 h1 => ?_, fun h0 h1 => ?_⟩ <;>
          rw [h0, h1] at h <;> exact absurd h (by decide)
      · rw [if_neg h] at hx'
        cases h1 : d.smokeEnableLevel with
        | true =>
          have h0 : c.smokeEnableLevel = false := by rw [h1] at h; simpa using h
          rw [h1] at hx'
          unfold Controller.smokeEdge at hx'
          rw [if_pos rfl] at hx'
          by_cases h2 : d.command.partMode = .run ∧ (d.smoke.state = .off ∨ d.smoke.state = .fault)
          · rw [if_pos h2, (d.startSmoke_asked h2.2).2] at hx'
            have hlev : x.smokeEnableLevel = true := by rw [level x (by rw [hx']) (by rw [hx'])]; exact h1
            rw [hp, hs] at h2
            refine ⟨by rw [hx', ← hsound], by rw [hx', ← hlight], fun h' => ?_, fun _ _ => ⟨fun h' => ?_, fun _ _ => ?_⟩,
              fun h' => ?_⟩
            · rw [hlev, h0] at h'; exact absurd h' (by decide)
            · tauto
            · refine ⟨by rw [hx', ← hask], ?_⟩
              rw [hx']
              simp only [hs, hair]
              rfl
            · rw [h0] at h'; exact absurd h' (by decide)
          · rw [if_neg h2] at hx'
            rw [hp, hs] at h2
            rw [hx']
            refine ⟨hsound, hlight, fun _ => ⟨hs, by rw [hair]⟩, fun _ _ => ⟨fun _ => ⟨hs, by rw [hair]⟩, fun a b => absurd ⟨a, b⟩ h2⟩,
              fun h' => ?_⟩
            rw [h0] at h'; exact absurd h' (by decide)
        | false =>
          have h0 : c.smokeEnableLevel = true := by rw [h1] at h; simpa using h
          rw [h1] at hx'
          unfold Controller.smokeEdge at hx'
          rw [if_neg (by decide)] at hx'
          have hoff : x = { d with
                smoke :=
                  if d.smoke.state = .heating ∨ d.smoke.state = .ready ∨ d.smoke.state = .shed then d.smoke.enterOff
                  else d.smoke } := by
            rw [hx']
            cases hq : d.smoke.state <;> simp [Controller.changeSmoke, Controller.announceSmoke, Controller.onSmoke,
              SmokeController.enterOff, SmokeState.faulty, hq]
          have hlev : x.smokeEnableLevel = false := by rw [level x (by rw [hoff]) (by rw [hoff])]; exact h1
          refine ⟨by rw [hoff, ← hsound], by rw [hoff, ← hlight], fun h' => ?_, fun h' => ?_, fun _ _ => ⟨by rw [hoff, ← hair], ?_⟩⟩
          · rw [hlev, h0] at h'; exact absurd h' (by decide)
          · rw [h0] at h'; exact absurd h' (by decide)
          · rw [hoff]
            simp only [hs]
            rfl

/-- A change over of function `i` followed by the delivery of its edge is what `EdgeDone` says. -/
theorem Controller.applyFunction_edgeDone {bits mask : BitVec 24} {c : Controller} {i : Nat} (hi : i < 24)
    (named : mask.getLsbD i = true) (differs : bits.getLsbD i ≠ c.command.functions.getLsbD i) :
    c.EdgeDone i (c.applyFunction bits mask i) := by
  have hbits : bits.getLsbD i = !c.command.functions.getLsbD i := by
    cases h : bits.getLsbD i <;> cases h' : c.command.functions.getLsbD i <;> simp_all
  unfold Controller.applyFunction
  rw [if_pos (by simp [named, differs]), hbits]
  refine deliverEdge_done hi rfl fun j hj => ?_
  have : (1#24 <<< i).getLsbD j = decide (j = i) := by
    rw [BitVec.getLsbD_shiftLeft]
    simp only [BitVec.getLsbD_one, hj]
    by_cases h : j = i
    · subst h; simp
    · have : j < i ∨ 0 < j - i := by omega
      rcases this with h' | h' <;> simp [h, h'] <;> omega
  show (c.command.functions ^^^ (1#24 <<< i)).getLsbD j = _
  rw [BitVec.getLsbD_xor, this]
  by_cases h : j = i <;> simp [h]

/-- The function bits of a frame are applied function by function, in ascending number (R30). -/
theorem Controller.foldl_applyFunction_edgesDone (bits mask : BitVec 24) (functions : List Nat) (h : ∀ i ∈ functions, i < 24)
    (c : Controller) : Controller.EdgesDone bits mask functions c (functions.foldl (Controller.applyFunction bits mask) c) := by
  induction functions generalizing c with
  | nil => exact .done c
  | cons i rest ih =>
    have later := ih (fun j hj => h j (.tail _ hj)) (c.applyFunction bits mask i)
    by_cases hs : mask.getLsbD i = false ∨ bits.getLsbD i = c.command.functions.getLsbD i
    · have : c.applyFunction bits mask i = c := by
        unfold Controller.applyFunction
        rw [if_neg (by rcases hs with h | h <;> simp [h])]
      rw [List.foldl_cons, this]
      rw [this] at later
      exact .passed i rest c _ hs later
    · push Not at hs
      exact .edge i rest c _ _ (by simpa using hs.1) hs.2 (applyFunction_edgeDone (h i (.head _)) (by simpa using hs.1) hs.2) later

theorem Controller.applyFunctions_edgesDone (bits mask : BitVec 24) (c : Controller) :
    Controller.EdgesDone bits mask (List.range 24) c (c.applyFunctions bits mask) :=
  foldl_applyFunction_edgesDone bits mask _ (fun _ h => List.mem_range.mp h) c

end Sys2Proof.Machine
end

