-- ==== Sys2Proof/Laws/Peers.lean ====
section
/-! SUPPORT. What the operations on the peer table do, said once each: where a record goes (R9 to R12), what pinning and
unpinning leave (R14). -/

namespace Sys2Proof.Machine

/-- The entry that `findPeer` finds is the one at which the address is held. -/
theorem findPeer_of_heldAt {table : PeerTable} {address i : Nat} (h : HeldAt table address i) : findPeer address table = some i := by
  obtain ⟨⟨e, he, ha⟩, hlow⟩ := h
  obtain ⟨hi, hget⟩ := List.getElem?_eq_some_iff.mp he
  rw [findPeer, List.findIdx?_eq_some_iff_getElem]
  refine ⟨hi, by simp [hget, ha], fun j hj => ?_⟩
  rcases hj' : table[j]'(hj.trans hi) with _ | e'
  · simp
  · simpa using hlow j e' hj (List.getElem?_eq_some_iff.mpr ⟨hj.trans hi, hj'⟩)

theorem findPeer_eq_none {table : PeerTable} {address : Nat} (h : ∀ e, some e ∈ table → e.address ≠ address) :
    findPeer address table = none := by
  rw [findPeer, List.findIdx?_eq_none_iff]
  rintro (_ | e) hx
  · rfl
  · simpa using h e hx

/-- What the victim search answers: the first of the greatest ranks, or nothing where every entry is free or pinned. -/
theorem chooseVictim_spec (table : PeerTable) (k : Nat) :
    match chooseVictim k table with
    | none => ∀ e ∈ table, victimRank e = none
    | some (j, n) => ∃ i e, j = k + i ∧ table[i]? = some e ∧ victimRank e = some n ∧
        ∀ i' e' n', table[i']? = some e' → victimRank e' = some n' → n' < n ∨ (n' = n ∧ i ≤ i') := by
  induction table generalizing k with
  | nil => simp [chooseVictim]
  | cons e rest ih =>
    have ih := ih (k + 1)
    simp only [chooseVictim]
    rcases hr : victimRank e with _ | n <;> rcases hv : chooseVictim (k + 1) rest with _ | ⟨j, m⟩ <;> rw [hv] at ih <;> dsimp only at ih ⊢
    · simpa [hr] using ih
    · obtain ⟨i, e0, rfl, hi, hrank, hall⟩ := ih
      refine ⟨i + 1, e0, by omega, by simpa using hi, hrank, fun i' e' n' h1 h2 => ?_⟩
      rcases i' with _ | i'
      · simp only [List.getElem?_cons_zero, Option.some.injEq] at h1
        subst h1; rw [hr] at h2; cases h2
      · have := hall i' e' n' (by simpa using h1) h2; omega
    · refine ⟨0, e, rfl, rfl, hr, fun i' e' n' h1 h2 => ?_⟩
      rcases i' with _ | i'
      · simp only [List.getElem?_cons_zero, Option.some.injEq] at h1
        subst h1; rw [hr] at h2; cases h2; omega
      · rw [ih e' (List.mem_of_getElem? (by simpa using h1))] at h2; cases h2
    · obtain ⟨i, e0, rfl, hi, hrank, hall⟩ := ih
      split_ifs with hlt
      · refine ⟨i + 1, e0, by omega, by simpa using hi, hrank, fun i' e' n' h1 h2 => ?_⟩
        rcases i' with _ | i'
        · simp only [List.getElem?_cons_zero, Option.some.injEq] at h1
          subst h1; rw [hr] at h2; cases h2; omega
        · have := hall i' e' n' (by simpa using h1) h2; omega
      · refine ⟨0, e, rfl, rfl, hr, fun i' e' n' h1 h2 => ?_⟩
        rcases i' with _ | i'
        · simp only [List.getElem?_cons_zero, Option.some.injEq] at h1
          subst h1; rw [hr] at h2; cases h2; omega
        · have := hall i' e' n' (by simpa using h1) h2; omega

theorem placementIndex_of_placedAt {table : PeerTable} {i : Nat} (h : PlacedAt table i) : placementIndex table = some i := by
  unfold placementIndex
  rcases h with ⟨hi, hlow⟩ | ⟨hfull, e, he, hp, hall⟩
  · obtain ⟨hlt, hget⟩ := List.getElem?_eq_some_iff.mp hi
    have : table.findIdx? (·.isNone) = some i := by
      rw [List.findIdx?_eq_some_iff_getElem]
      refine ⟨hlt, by simp [hget], fun j hj => ?_⟩
      have := hlow j hj
      rw [List.getElem?_eq_getElem (hj.trans hlt)] at this
      rcases hj' : table[j]'(hj.trans hlt) with _ | e'
      · exact absurd (by rw [hj']) this
      · simp
    rw [this]
  · have : table.findIdx? (·.isNone) = none := by
      rw [List.findIdx?_eq_none_iff]
      intro x hx
      obtain ⟨j, hj⟩ := List.mem_iff_getElem?.mp hx
      rcases x with _ | x
      · exact absurd hj (hfull j)
      · rfl
    rw [this]
    have spec := chooseVictim_spec table 0
    rcases hv : chooseVictim 0 table with _ | ⟨j, n⟩ <;> rw [hv] at spec <;> dsimp only at spec ⊢
    · have := spec _ (List.mem_of_getElem? he)
      simp [victimRank, hp] at this
    · obtain ⟨i', e', rfl, hi', hr', hall'⟩ := spec
      rcases e' with _ | e'
      · simp [victimRank] at hr'
      · by_cases hp' : e'.pinned = true
        · simp [victimRank, hp'] at hr'
        · have hp' : e'.pinned = false := by simpa using hp'
          simp only [victimRank, hp', Bool.false_eq_true, if_false, Option.some.injEq] at hr'
          have h1 := hall i' e' hi' hp'
          have h2 := hall' i (some e) _ he (show _ = some (e.age.getD 0 + 1) by simp [victimRank, hp])
          simp only [Nat.zero_add, Option.map_some, Option.some.injEq]
          omega

/-- A station's record goes to its own entry or to the one it takes, and every other entry stands. -/
theorem recordLoco_of_entryAt {table : PeerTable} {address i : Nat} (record : LocoEntry → LocoEntry) (h : EntryAt table address i) :
    recordLoco address record table = table.set i (some (.loco (record (entryBefore table address i)))) := by
  unfold recordLoco entryBefore
  rcases h with h | ⟨hu, hp⟩
  · rw [findPeer_of_heldAt h]
    obtain ⟨⟨e, he, ha⟩, -⟩ := h
    cases e with
    | loco e => simp only [PeerEntry.address] at ha; simp [he, ha]
    | marker a n => simp [he]
  · rw [findPeer_eq_none hu]
    simp only [placePeer, placementIndex_of_placedAt hp]
    split
    · rename_i e he
      have hne := hu _ (List.mem_of_getElem? he)
      simp only [PeerEntry.address] at hne
      simp [hne]
    · rfl

theorem pinPeer_of_entryAt {table : PeerTable} {address i : Nat} (h : EntryAt table address i) :
    pinPeer address table = table.set i (some (.loco { entryBefore table address i with pinned := true })) :=
  recordLoco_of_entryAt _ h

theorem recordMarker_of_entryAt {table : PeerTable} {address i : Nat} (h : EntryAt table address i) :
    recordMarker address table = table.set i (some (.marker address 0)) := by
  unfold recordMarker
  rcases h with h | ⟨hu, hp⟩
  · rw [findPeer_of_heldAt h]
  · rw [findPeer_eq_none hu]
    simp only [placePeer, placementIndex_of_placedAt hp]

/-- Placement succeeds while some entry is free or unpinned (R12). -/
theorem exists_entryAt {table : PeerTable} (address : Nat) (h : ∃ e ∈ table, ∀ x, e = some x → x.pinned = false) :
    ∃ i, EntryAt table address i := by
  by_cases hu : ∀ e, some e ∈ table → e.address ≠ address
  · obtain ⟨e0, h0, hp0⟩ := h
    suffices ∃ i, PlacedAt table i from this.imp fun i hi => .inr ⟨hu, hi⟩
    rcases hf : table.findIdx? (·.isNone) with _ | i
    · rw [List.findIdx?_eq_none_iff] at hf
      have hfull : ∀ j : Nat, table[j]? ≠ some none := fun j hj => by
        have := hf _ (List.mem_of_getElem? hj); simp at this
      have spec := chooseVictim_spec table 0
      rcases hv : chooseVictim 0 table with _ | ⟨j, n⟩ <;> rw [hv] at spec <;> dsimp only at spec
      · rcases e0 with _ | x
        · obtain ⟨j, hj⟩ := List.mem_iff_getElem?.mp h0
          exact absurd hj (hfull j)
        · have := spec _ h0
          simp [victimRank, hp0 x rfl] at this
      · obtain ⟨i, e, -, hi, hr, hall⟩ := spec
        rcases e with _ | e
        · simp [victimRank] at hr
        · by_cases hp : e.pinned = true
          · simp [victimRank, hp] at hr
          · have hp : e.pinned = false := by simpa using hp
            simp only [victimRank, hp, Bool.false_eq_true, if_false, Option.some.injEq] at hr
            refine ⟨i, .inr ⟨hfull, e, hi, hp, fun j e' hj hp' => ?_⟩⟩
            have := hall j _ _ hj (show _ = some (e'.age.getD 0 + 1) by simp [victimRank, hp'])
            omega
    · rw [List.findIdx?_eq_some_iff_getElem] at hf
      obtain ⟨hi, hnone, hlow⟩ := hf
      refine ⟨i, .inl ⟨?_, fun j hj hj' => ?_⟩⟩
      · rw [List.getElem?_eq_getElem hi]; simpa using hnone
      · have := hlow j hj
        rw [List.getElem?_eq_getElem (hj.trans hi)] at hj'
        rw [Option.some.inj hj'] at this
        simp at this
  · push Not at hu
    obtain ⟨e, he, ha⟩ := hu
    have : ∃ i : Nat, ∃ e, table[i]? = some (some e) ∧ e.address = address := by
      obtain ⟨i, hi⟩ := List.mem_iff_getElem?.mp he
      exact ⟨i, e, hi, ha⟩
    classical
    refine ⟨Nat.find this, .inl ⟨Nat.find_spec this, fun j e hj hje ha => ?_⟩⟩
    exact Nat.find_min this hj ⟨e, hje, ha⟩

/-- Unpinning a list of addresses, entry by entry (R14). -/
theorem unpinAll_peers (addresses : List Nat) (c : Controller) :
    (c.unpinAll addresses).air.peers
      = c.air.peers.map fun entry =>
          match entry with
          | some (.loco e) =>
            if e.pinned = true ∧ e.address ∈ addresses then
              (if e.age.isSome = true then some (.loco { e with pinned := false }) else none)
            else some (.loco e)
          | other => other := by
  induction addresses generalizing c with
  | nil =>
    simp only [Controller.unpinAll, List.foldl_nil, List.not_mem_nil, and_false, if_false]
    refine (List.map_id'' ?_ _).symm
    rintro (_ | _ | _) <;> rfl
  | cons a rest ih =>
    have : c.unpinAll (a :: rest) = (c.onPeers (unpinPeer a)).unpinAll rest := rfl
    rw [this, ih]
    simp only [Controller.onPeers, Controller.onAir, unpinPeer, List.map_map]
    refine List.map_congr_left fun entry _ => ?_
    rcases entry with _ | e | ⟨_, _⟩
    · rfl
    · simp only [Function.comp, unpinEntry, List.mem_cons]
      by_cases h1 : e.address = a <;> by_cases h2 : e.pinned = true <;> by_cases h3 : e.age.isSome = true <;> simp [h1, h2, h3]
    · rfl

/-- Pinning a list of addresses touches nothing but the table. -/
theorem pinAll_peers (addresses : List Nat) (c : Controller) :
    (c.pinAll addresses).air.peers = addresses.foldl (fun table a => pinPeer a table) c.air.peers := by
  induction addresses generalizing c with
  | nil => rfl
  | cons a rest ih =>
    have : c.pinAll (a :: rest) = (c.onPeers (pinPeer a)).pinAll rest := rfl
    rw [this, ih]
    rfl

end Sys2Proof.Machine
end

