-- ==== Sys2Proof/Laws/Outcomes.lean ====
section
/-! SUPPORT. What the operations over lists and records can answer: the least present cap, the draws of a light tick, a good
stored record, non-decreasing curve points, and the return to SOLO. -/

namespace Sys2Proof.Machine

/-! ### The least of the terms present (R50) -/

theorem leastPresent_eq_none {l : List (Option Nat)} (h : ∀ n, some n ∉ l) : leastPresent l = none := by
  induction l with
  | nil => rfl
  | cons a rest ih =>
    cases a with
    | none => exact ih fun n hn => h n (.tail _ hn)
    | some n => exact absurd (.head _) (h n)

/-- With a term present the answer is one of the terms, and none is less. -/
theorem leastPresent_least {l : List (Option Nat)} (hl : ∃ n, some n ∈ l) :
    ∃ m, leastPresent l = some m ∧ some m ∈ l ∧ ∀ n, some n ∈ l → m ≤ n := by
  induction l with
  | nil => obtain ⟨n, hn⟩ := hl; cases hn
  | cons a rest ih =>
    by_cases hr : ∃ n, some n ∈ rest
    · obtain ⟨m, h1, h2, h3⟩ := ih hr
      cases a with
      | none => exact ⟨m, h1, .tail _ h2, fun n hn => by cases hn with | tail _ h => exact h3 n h⟩
      | some n =>
        refine ⟨min n m, by simp [leastPresent, h1], ?_, fun k hk => ?_⟩
        · rcases Nat.le_total n m with h | h
          · simp [Nat.min_eq_left h]
          · simp [Nat.min_eq_right h, h2]
        · rcases List.mem_cons.mp hk with h | h
          · cases h; omega
          · have := h3 k h; omega
    · have hn := leastPresent_eq_none fun n h => hr ⟨n, h⟩
      cases a with
      | none => obtain ⟨n, h⟩ := hl; cases h with | tail _ h => exact absurd ⟨n, h⟩ hr
      | some n =>
        refine ⟨n, by simp [leastPresent, hn], .head _, fun k hk => ?_⟩
        rcases List.mem_cons.mp hk with h | h
        · cases h; omega
        · exact absurd ⟨k, h⟩ hr

/-! ### The draws of one light tick (R162) -/

theorem repeat_succ_inner {α : Type} (f : α → α) (n : Nat) (a : α) : Nat.repeat f (n + 1) a = Nat.repeat f n (f a) := by
  induction n with
  | zero => rfl
  | succ n ih => exact congrArg f ih

/-- Output `k` draws in this tick. -/
def draws (c : Controller) (k : Nat) (o : LightOutput) : Bool := (c.outputRecord k).effect == .flicker && o.effectTimer == some 0

theorem lightOutputTick_register (c : Controller) (k register : Nat) (o : LightOutput) :
    (lightOutputTick c k register o).2 = if draws c k o then nextRandom register else register := by
  unfold lightOutputTick draws
  cases h : o.effectTimer <;> simp
  split_ifs <;> simp_all

/-- How many outputs of the list, the first of them number `k`, draw in this tick. -/
def drawCount (c : Controller) : Nat → List LightOutput → Nat
  | _, [] => 0
  | k, o :: rest => (if draws c k o then 1 else 0) + drawCount c (k + 1) rest

/-- The register moves on once for each output that draws, and each output ticks with the register as the outputs before it
leave it. -/
theorem lightOutputsTick_outcome (c : Controller) (k register : Nat) (outputs : List LightOutput) :
    (lightOutputsTick c k register outputs).2 = Nat.repeat nextRandom (drawCount c k outputs) register ∧
      (lightOutputsTick c k register outputs).1.length = outputs.length ∧
      ∀ i o, outputs[i]? = some o →
        (lightOutputsTick c k register outputs).1[i]?
          = some (lightOutputTick c (k + i) (Nat.repeat nextRandom (drawCount c k (outputs.take i)) register) o).1 := by
  induction outputs generalizing k register with
  | nil => simp [lightOutputsTick, drawCount, Nat.repeat]
  | cons o rest ih =>
    obtain ⟨h1, h2, h3⟩ := ih (k + 1) (lightOutputTick c k register o).2
    have hr : ∀ n, Nat.repeat nextRandom n (lightOutputTick c k register o).2
        = Nat.repeat nextRandom ((if draws c k o then 1 else 0) + n) register := by
      intro n
      rw [lightOutputTick_register]
      split_ifs
      · rw [Nat.add_comm, repeat_succ_inner]
      · simp
    refine ⟨by simp [lightOutputsTick, h1, drawCount, hr], by simp [lightOutputsTick, h2], fun i p hi => ?_⟩
    cases i with
    | zero => simp at hi; subst hi; simp [lightOutputsTick, drawCount, Nat.repeat]
    | succ i =>
      simp at hi
      simp [lightOutputsTick, drawCount, h3 i p hi, hr]
      congr 2; omega

/-! ### Stored records (R174 to R176) -/

theorem byteSum_eq (bs : List Byte) : byteSum bs = (bs.map (·.toNat)).sum := by
  have : ∀ n, bs.foldl (fun n b => n + b.toNat) n = n + (bs.map (·.toNat)).sum := by
    induction bs with
    | nil => simp
    | cons b l ih => intro n; simp [ih]; omega
  simpa [byteSum] using this 0

theorem goodRecord_eq_some {n : Nat} {record : Option (List Byte)} {bs : List Byte} :
    goodRecord n record = some bs ↔
      record = some bs ∧ bs.length = n ∧ wordAt bs (n - 2) = ((bs.take (n - 2)).map (·.toNat)).sum % 65536 := by
  unfold goodRecord
  cases record with
  | none => simp
  | some x =>
    simp only [byteSum_eq]
    split_ifs with h
    · simp only [Option.some.injEq]
      exact ⟨fun e => e ▸ ⟨rfl, h⟩, fun e => e.1⟩
    · simp only [Option.some.injEq, false_iff]
      rintro ⟨rfl, h1, h2⟩
      exact h ⟨h1, h2⟩

/-- Each point is raised to the point before it, the first to `last`. -/
theorem nonDecreasing_outcome (points : List Nat) (last : Nat) :
    (nonDecreasing last points).length = points.length ∧
      ∀ k < points.length,
        (nonDecreasing last points).getD k 0
          = max (if k = 0 then last else (nonDecreasing last points).getD (k - 1) 0) (points.getD k 0) := by
  induction points generalizing last with
  | nil => simp [nonDecreasing]
  | cons p rest ih =>
    obtain ⟨h1, h2⟩ := ih (max last p)
    refine ⟨by simp [nonDecreasing, h1], fun k hk => ?_⟩
    cases k with
    | zero => simp [nonDecreasing]
    | succ k =>
      simp only [nonDecreasing, List.getD_cons_succ]
      rw [h2 k (by simpa using hk)]
      cases k <;> simp

/-! ### The return to SOLO (R102) -/

/-- A return to SOLO unpins the other members, drops a binding via CONSIST and the step, empties the consist record, and lets
the STATUS slot and timer, the park timer and the lights follow. -/
theorem Controller.dissolve_outcome (c : Controller) :
    (∃ l : LightController,
      c.dissolve
        = { c with
            air :=
              { c.air with
                peers := (c.unpinAll (c.consist.others.map (·.address))).air.peers
                statusSlot := c.air.statusSlot.file
                statusTimer :=
                  c.air.statusTimer.map fun n =>
                    min n
                      (if c.command.partMode = .parked then 5000
                      else if c.motion.state = .moving ∨ c.motion.state.isCalibrating = true then 200
                      else 1000) }
            command :=
              { c.command with
                binding := c.command.binding.filter (fun b => b.via = .own)
                commandedStep := 0
                parkTimer :=
                  if c.command.partMode = .run ∧ c.motion.state = .idle ∧ c.settings.parkDelay ≠ 0 then
                    some (c.command.parkTimer.getD 0)
                  else none }
            consist := ConsistUnit.cold
            light := { c.light with outputs := l.outputs, ditchTimers := l.ditchTimers } }) ∧
      c.dissolve.LightsJudged := by
  have hu : ∀ l c, Controller.unpinAll l c = { c with air := { c.air with peers := (Controller.unpinAll l c).air.peers } } := by
    intro l
    induction l with
    | nil => intro c; rfl
    | cons a r ih =>
      intro c
      have : c.unpinAll (a :: r) = (c.onPeers (unpinPeer a)).unpinAll r := rfl
      rw [this, ih]
      rfl
  refine ⟨⟨c.dissolve.light, ?_⟩, ?_⟩
  · simp only [Controller.dissolve, Controller.returnToSolo]
    rw [hu]
    simp [Controller.setConsistState, Controller.afterStateChange, Controller.cutStatusTimer, Controller.judgePark,
      Controller.fileStatus, Controller.judgeLights, Controller.clearBinding, Controller.statusInterval,
      Controller.parkConditions, ConsistUnit.cold, Controller.onAir, Controller.onConsist, Controller.onCommand,
      Controller.onLight]
    constructor
    · cases c.command.binding with
      | none => rfl
      | some b => obtain ⟨_, v, _⟩ := b; cases v <;> rfl
    · simp [and_assoc]
  · have : ∀ c : Controller, (c.judgeLights.clearBinding .consist).LightsJudged := fun c => Controller.judgeLights_judged c
    simp only [Controller.dissolve, Controller.returnToSolo, Controller.setConsistState]
    exact this _

end Sys2Proof.Machine
end

