-- ==== Sys2Proof/WellFormed.lean ====
section
/-! DEFINITION. Which commands the outside world can send. The operands' types hold most ranges (a reading is below 1024);
this file checks the rest. Every command has a next state, well-formed or not. -/

namespace Sys2Proof

/-- A stored record is absent or has exactly its bytes (section 11.5). -/
def recordSized (n : Nat) : Option (List Byte) → Bool
  | none => true
  | some bs => bs.length == n

/-- A command that the outside world can send: a fill returns at most 64 samples (R136), a member has a station address
(R95), and the records have the lengths of section 11.5. -/
def Instr.WellFormed : Instr → Bool
  | .fillComplete samples => samples.length ≤ 64
  | .memberTimerExpiry address => 1 ≤ address && address ≤ 0xFFF
  | .coldStart config calibration directory _ =>
      recordSized Config.configLength config && recordSized Config.calibrationLength calibration
        && recordSized Config.directoryLength directory
  | _ => true

end Sys2Proof
end

