-- ==== Sys2Proof/Tests/Slice0.lean ====
section
/-! SUPPORT. Tests: the checks of WellFormed, the manual's worked examples, and a witness for the hypotheses of every
statement. Expected values come from the manual's tables unless a comment says otherwise. -/

namespace Sys2Proof.Tests

open Sys2Proof.Machine

/-! ### Small states -/

/-- RUN with the supply NORMAL, otherwise as reset leaves it; the own address is 3. -/
def run : State :=
  { State.reset with
    command := { State.reset.command with partMode := .run }
    supply := { State.reset.supply with state := .normal, loaded := true } }

def frame (kind destination source : Nat) (payload : List Byte) : RxFrame :=
  { bytes := composeFrame kind destination source payload, strength := 180 }

/-- `f` is the only frame of the FIFO. -/
def holding (f : RxFrame) (s : State) : State := { s with air := { s.air with rxFifo := [f] } }

def bound (throttle : Nat) (via : BoundVia) (s : State) : State :=
  { s with command := { s.command with binding := some { throttle := throttle, via := via, supervision := 1500 } } }

def moving (state : MotionState) (ramp : Nat) (s : State) : State := { s with motion := { s.motion with state := state, ramp := ramp } }

def supplied (state : SupplyState) (s : State) : State := { s with supply := { s.supply with state := state } }

def ability : Ability := { p0 := 50, p16 := 3400, accel := 30, decel := 28, loadShare := true, capShare := true }

/-- Consist 7 of the own locomotive and 0x0005. -/
def membership : Membership :=
  { consistId := 7, members := [(3, .normal), (5, .reversed)], position := 0, role := .lead, orientation := .normal,
    others := [{ address := 5, ability := some ability, ackHeard := false, timer := some 1000, mark := .watched }] }

def consisted (state : ConsistState) (s : State) : State :=
  { s with
    consist :=
      { ConsistUnit.cold with
        state := state, membership := some membership
        common := some { vmin := 60, vtop := 3000, accel := 20, decel := 28, loadShare := true, capShare := true }
        negotiationTimer := some 1, joinTimer := some 1 } }

def sending (kind : TxKind) (attempts : Nat) (handedOver : Bool) : State :=
  { run with
    air :=
      { run.air with
        transmitter := .sending
        outgoing :=
          some
            { kind := kind, attempts := attempts, querier := 0x0301, frame := [], carried := Latches.clear,
              handedOver := handedOver } } }

def listening (kind : TxKind) (attempts : Nat) : State :=
  { run with
    air :=
      { run.air.setSlot kind { requested := true, attempts := attempts } with
        transmitter := .listen kind, backoffRegister := 4123 } }

/-- What a command leaves. -/
def after (i : Instr) (s : State) : State :=
  match exec i s with
  | .next t => t
  | .fault _ => s
  | .refused _ => s

/-! ### WellFormed: a well-formed command, and an ill-formed one for each check -/

theorem test_wellFormed_fill : (Instr.fillComplete (List.replicate 64 0#8)).WellFormed = true := by decide
theorem test_illFormed_fill : (Instr.fillComplete (List.replicate 65 0#8)).WellFormed = false := by decide
theorem test_wellFormed_member : (Instr.memberTimerExpiry 0xFFF).WellFormed = true := by decide
theorem test_illFormed_member_zero : (Instr.memberTimerExpiry 0).WellFormed = false := by decide
theorem test_illFormed_member_consist : (Instr.memberTimerExpiry 0x1000).WellFormed = false := by decide
theorem test_illFormed_config : (Instr.coldStart (some []) none none false).WellFormed = false := by decide
theorem test_illFormed_calibration : (Instr.coldStart none (some [0#8]) none false).WellFormed = false := by decide
theorem test_illFormed_directory : (Instr.coldStart none none (some []) true).WellFormed = false := by decide
theorem test_wellFormed_absent : (Instr.coldStart none none none true).WellFormed = true := by decide

/-! ### Queue, decoder, reset -/

theorem test_step_front : step { run with pending := [.jabber, .quietEnd] } = exec .jabber { run with pending := [.quietEnd] } := rfl
theorem test_no_word_spells_a_command : decodeTableWord 8 1 = none := by decide
/-- Power-up to RUN (R173): the 100th good sample, then the idle steps of log 1. -/
theorem test_start : (after (.supplySample 120 120) { State.reset with supply := { State.reset.supply with startCount := 99 } }).dueEvent
    = some .startupQualified := by decide

/-! ### Air Interface -/

/-- The published check value of this CRC-16 over the nine digits "123456789" (from outside the manual). -/
theorem test_crc : crc16 [0x31#8, 0x32#8, 0x33#8, 0x34#8, 0x35#8, 0x36#8, 0x37#8, 0x38#8, 0x39#8] = 0x29B1 := by decide +kernel
theorem test_frameDelivered_damaged :
    (after (.frameDelivered [0x01#8] 200) run).counters.checkFail = 1 := by decide
theorem test_frameDelivered_queued :
    (after (.frameDelivered (frame 0x2 3 0x0301 []).bytes 200) run).air.rxFifo.length = 1 := by decide +kernel
/-- Section 1.7: the draw from 4123 gives 47077 and a backoff of 12 ms. -/
theorem test_listenWindowEnd_busy :
    (after (.listenWindowEnd true) (listening .diagReport 0)).air.transmitter = .backoff 12
      ∧ (after (.listenWindowEnd true) (listening .diagReport 0)).air.backoffRegister = 47077 := by decide
theorem test_listenWindowEnd_giveUp :
    (after (.listenWindowEnd true) (listening .diagReport 7)).counters.txGiveup = 1 := by decide
theorem test_listenWindowEnd_clear :
    frameCheck (((after (.listenWindowEnd false) (listening .status 0)).air.outgoing.map (·.frame)).getD []) = true := by decide +kernel
theorem test_listenStart_joinFirst :
    (after .listenStart { run with air := { run.air with joinSlot := ⟨true, 0⟩, statusSlot := ⟨true, 3⟩ } }).air.transmitter
      = .listen .join := by decide
theorem test_backoffEnd_nothing_left :
    (after .backoffEnd { run with air := { run.air with transmitter := .backoff 1 } }).air.transmitter = .idle := by decide
theorem test_frameHandover_report_clears :
    (after .frameHandover { sending .diagReport 0 false with counters := { Counters.zero with jabber := 9 } }).counters
      = Counters.zero := by decide
theorem test_transmissionEnd : (after .transmissionEnd (sending .status 0 true)).air.transmitter = .idle := by decide
theorem test_txActiveTimeout_putBack : (after .txActiveTimeout (sending .status 2 false)).air.statusSlot = ⟨true, 3⟩ := by decide
theorem test_txCutOff_querier : (after .txCutOff (sending .diagReport 0 false)).air.querier = 0x0301 := by decide
/-- R19: one detection counts once, and a rise after a fall is a new one. -/
theorem test_jabber :
    (after .jabber run).air.transmitter = .quiet 2000 ∧ (after .jabber (after .jabber run)).counters.jabber = 1
      ∧ (after .jabber (after .transmitActiveFallInQuiet (after .jabber run))).counters.jabber = 2 := by decide
/-- R19: at the end of the 2 s QUIET lasts while the line is high. -/
theorem test_quietEnd :
    let s := fun (left : Nat) (high : Bool) => { run with air := { run.air with transmitter := .quiet left, transmitActive := high } }
    (after .quietEnd (s 0 false)).air.transmitter = .idle ∧ after .quietEnd (s 0 true) = s 0 true
      ∧ after .quietEnd (s 1 false) = s 1 false ∧ (after .transmitActiveFallInQuiet (s 0 true)).air.transmitter = .idle := by decide
theorem test_transmitActiveFallInQuiet : (after .transmitActiveFallInQuiet (after .jabber run)).air.transmitActive = false := by decide
/-- R19: QUIET lasts its 2 s whatever the line does. -/
theorem test_transmitActiveFallInQuiet_early : (after .transmitActiveFallInQuiet (after .jabber run)).air.transmitter = .quiet 2000 := by decide
theorem test_statusIntervalExpiry :
    (after .statusIntervalExpiry { run with air := { run.air with statusTimer := some 1 } }).air.statusTimer = some 1000 := by decide
theorem test_join_recorded :
    (locoEntry 5 (after .join (holding (frame 0x8 0x1009 5 [0x00#8, 0x05#8, 0x00#8, 0x32#8, 0x0D#8, 0x48#8, 30#8, 28#8, 3#8, 1#8])
      run)).air.peers).map (·.joined) = some (some { ability := ability, ack := true }) := by decide +kernel
theorem test_marker_strong :
    (after .marker (holding (frame 0xA 0 0x0900 [0x00#8, 0x0C#8, 1#8, 24#8]) run)).motion.block
      = { blockId := some 12, aspect := .caution, capStep := 24, markerAddress := some 0x0900, age := 0 } := by decide
theorem test_peerAgeTick_marker_gone :
    (after .peerAgeTick { run with air := { run.air with peers := [some (.marker 0x0900 99)] } }).air.peers = [none] := by decide
theorem test_diagReportDiscarded : (after .diagReportDiscarded (holding (frame 0xB 0x0301 5 []) run)).air.rxFifo = [] := by decide

/-! ### Command Unit -/

/-- DRIVE of step 40, forward, function F0, to the own address. -/
def driveTo (destination source step : Nat) : RxFrame := frame 0x1 destination source [byteOf step, 0#8, 0#8, 0#8, 1#8]

theorem test_drive_binds :
    ((after .drive (holding (driveTo 3 0x0301 40) run)).command.binding).map (·.throttle) = some 0x0301
      ∧ (after .drive (holding (driveTo 3 0x0301 40) run)).command.functions = 1#24 := by decide +kernel
/-- Section 2.3, worked sequence: the foreign throttle's step 0 is counted and clears nothing. -/
theorem test_drive_foreign :
    (after .drive (holding (driveTo 3 0x0302 0) (bound 0x0301 .own (moving .eStopped 0 run)))).counters.foreignDrive = 1
      ∧ (after .drive (holding (driveTo 3 0x0302 0) (bound 0x0301 .own (moving .eStopped 0 run)))).motion.state
        = .eStopped := by decide
theorem test_release : (after .release (holding (frame 0x2 3 0x0301 []) (bound 0x0301 .own run))).command.binding = none := by decide
/-- R56, R65: a regulator that starts again after the stop starts with I at 0. -/
theorem test_halt_stops :
    (after .halt (holding (frame 0x3 0 0x0520 [3#8]) (moving .moving 6000 { run with motion := { run.motion with integrator := 900, labour := .heavy } }))).motion
      = { run.motion with state := .eStopped, ramp := 0, integrator := 0 } := by decide
theorem test_halt_repeat :
    (after .halt (holding (frame 0x3 0 0x0520 [3#8])
      { run with command := { run.command with lastHalt := some (0x0520, 3) } })).motion.state = .idle := by decide
theorem test_calibrate_starts :
    (after .calibrate (holding (frame 0x4 3 0x0301 []) (bound 0x0301 .own run))).motion.state = .calibrating .spinup := by decide
theorem test_calibrate_unbound :
    (after .calibrate (holding (frame 0x4 3 0x0301 []) run)).latches.calRefused = true := by decide
theorem test_diagQuery : (after .diagQuery (holding (frame 0x5 3 0x0A07 []) run)).air.querier = 0x0A07 := by decide
theorem test_supervisionExpiry_stop :
    (after .supervisionExpiry (bound 0x0301 .own { run with command := { run.command with commandedStep := 40 } })).command.commandedStep
      = 0 := by decide
theorem test_parkDelayExpiry :
    (after .parkDelayExpiry { run with command := { run.command with parkTimer := some 600000 } }).command.partMode = .parked := by decide
/-- R38: a timer started again does not park. -/
theorem test_parkDelayExpiry_early :
    (after .parkDelayExpiry { run with command := { run.command with parkTimer := some 0 } }).command.partMode = .run := by decide

/-! ### Consist Unit -/

/-- Section 6.4: the three members of the example. -/
theorem test_common_parameters :
    commonOf { p0 := 60, p16 := 3000, accel := 24, decel := 32, loadShare := true, capShare := true }
        [{ p0 := 50, p16 := 3400, accel := 30, decel := 28, loadShare := true, capShare := true },
          { p0 := 40, p16 := 3200, accel := 20, decel := 40, loadShare := true, capShare := true }]
      = { vmin := 60, vtop := 3000, accel := 20, decel := 28, loadShare := true, capShare := true } := by decide
/-- R106: the four steps of the table. -/
theorem test_consist_curve :
    let c : CommonParameters := { vmin := 60, vtop := 3000, accel := 20, decel := 28, loadShare := true, capShare := true }
    (consistCurve c 1, consistCurve c 24, consistCurve c 48, consistCurve c 96) = (60, 771, 1514, 3000) := by decide
/-- Section 6.7: the three worked cases. -/
theorem test_trim :
    (trimOf 8 40 120 [90, 150], trimOf 8 40 90 [120, 150], trimOf 8 40 150 [120, 90]) = (0, 15, -15)
      ∧ (trimOf 8 40 120 [0, 150], trimOf 8 40 150 [120, 0], trimOf 8 40 0 [120, 150]) = (-15, -30, 40)
      ∧ (trimOf 8 40 100 [97], trimOf 8 40 97 [100]) = (-1, 0) := by decide

/-- COUPLE of consist 7: the own locomotive, then 0x0005 reversed. -/
def couple (count : Nat) : RxFrame :=
  frame 0x6 0x1007 0x0301 [7#8, byteOf count, 0#8, 3#8, 0#8, 0#8, 5#8, 1#8]

theorem test_couple_taken :
    (after .couple (holding (couple 2) run)).consist.state = .ability
      ∧ peerPinned 5 (after .couple (holding (couple 2) run)).air.peers = true := by decide +kernel
theorem test_couple_malformed : (after .couple (holding (couple 1) run)).counters.malformed = 1 := by decide
theorem test_uncouple :
    (after .uncouple (holding (frame 0x7 0x1007 0x0301 []) (bound 0x0301 .consist (consisted .formed run)))).consist
        = ConsistUnit.cold
      ∧ (after .uncouple (holding (frame 0x7 0x1007 0x0301 []) (bound 0x0301 .consist (consisted .formed run)))).command.binding
        = none := by decide
theorem test_negotiationTimeout : (after .negotiationTimeout (consisted .ability run)).latches.negotiationFailed = true := by decide
theorem test_joinTimerExpiry : (after .joinTimerExpiry (consisted .ability run)).consist.joinTimer = some 100 := by decide
theorem test_memberTimerExpiry : (after (.memberTimerExpiry 5) (consisted .formed run)).consist.state = .broken := by decide
/-- R101: a STATUS showing this consist id and FORMED is an ack. -/
theorem test_status_forms :
    (after .status (holding (frame 0x9 0 5 ([1#8, 7#8, 2#8, 1#8, 1#8, 3#8] ++ List.replicate 13 0#8 ++ [4#8, 0#8]))
      (consisted .acknowledge run))).consist.state = .formed := by decide +kernel

/-! ### Motion Unit -/

/-- R44: the steps of the table. -/
theorem test_own_curve :
    let p := [40, 120, 300, 450, 600]
    (ownCurve p 0, ownCurve p 1, ownCurve p 12, ownCurve p 15, ownCurve p 24) = (0, 53, 300, 375, 600) := by decide
/-- Section 4.3: the worked period, and the two periods at a cap of 700. -/
theorem test_regulator :
    regulator Settings.builtIn 1200 600 2000 1920 1200 = { integrator := 1280, rawDuty := some 825 } := by decide
/-- Section 4.4: the current of the first and the fifth period of the foldback table. -/
theorem test_filter : (filterCurrent 296 340, filterCurrent 301 330, filterCurrent 304 290, filterCurrent 303 270) = (301, 304, 303, 299) := by
  decide
theorem test_foldback : limitDuty 1000 700 true (some 750) = 684 ∧ limitDuty 1000 636 false (some 750) = 750 := by decide
/-- R53: a ramp from rest by the default rate 24, under the built-in defaults with a curve point raised. -/
theorem test_controlPeriod_ramps :
    (after (.controlPeriod 0 0)
      { run with
        settings := { run.settings with curve := List.replicate 17 375, markerUse := false }
        command := { run.command with commandedStep := 40 } }).motion.ramp = 24 := by decide
theorem test_controlPeriod_start : (after (.controlPeriod 300 92) State.reset).motion.bemf = 0 := by decide
theorem test_blockStale :
    (after .blockStale { run with motion := { run.motion with block := ⟨some 1, .clear, 96, some 2, 2000⟩ } }).motion.block.aspect
      = .unknown := by decide
theorem test_stallLatch :
    (after .stallLatch { run with motion := { run.motion with state := .moving, ramp := 6000, duty := 900, stallCount := 400 } }).motion.state
      = .faulted .stall := by decide
theorem test_hardCurrentSample :
    (after (.hardCurrentSample 599) run).motion.state = .idle
      ∧ (after (.hardCurrentSample 600) (moving (.faulted .stall) 0 run)).motion.state = .faulted .driveFault := by decide
/-- R62: sampling runs in START too. -/
theorem test_hardCurrentSample_start : (after (.hardCurrentSample 600) State.reset).motion.state = .faulted .driveFault := by decide

/-- The calibration of section 4.6: sums 120000 and 402000 over 400 periods at a duty of 400. -/
def measured : CalRecord :=
  { phaseTimer := 0, dcal := 400, bemfSum := 120000, wheelSum := 402000, foldbackSeen := false, newValues := none }

def calibrating (phase : CalPhase) (r : CalRecord) (write : WriteState) : State :=
  { run with motion := { run.motion with state := .calibrating phase, calibration := some r, duty := 400, write := write } }

theorem test_spinupEnd : (after .spinupEnd (calibrating .spinup measured .none)).motion.state = .calibrating .measure := by decide
theorem test_measureEnd :
    ((after .measureEnd (calibrating .measure measured .none)).motion.calibration).map (·.newValues)
      = some (some { kbs := 857, kff := 1630 }) := by decide +kernel
theorem test_measureEnd_foldback :
    (after .measureEnd (calibrating .measure { measured with foldbackSeen := true } .none)).latches.calRefused = true := by decide
theorem test_writeComplete :
    (after .writeComplete (calibrating .store { measured with newValues := some ⟨857, 1630⟩ } (.writing [] 20))).motion.inForce
      = { kbs := 857, kff := 1630 } := by decide
theorem test_writeTimeout :
    (after .writeTimeout (calibrating .store { measured with newValues := some ⟨857, 1630⟩ } (.writing [] 1))).motion.inForce
      = { kbs := 1024, kff := 1000 } := by decide
/-- Section 4.6: under Kbs 857 the back-EMF 300 gives 1004. -/
theorem test_measured_speed : (measuredSpeed 1024 300, measuredSpeed 857 300) = (1200, 1004) := by decide

/-! ### Beat Counter -/

def pulsing (now last counter : Nat) : State :=
  { run with beat := { run.beat with now := now, lastPulse := some last, counter := counter } }

theorem test_wheelPulse_counts : (after .wheelPulse (pulsing 39 0 2)).beat.counter = 1 := by decide
/-- R85, R87: the pulse at counter 1 reloads it and emits a beat, which advances the phase. -/
theorem test_wheelPulse_beats :
    (after .wheelPulse (pulsing 39 0 1)).beat.counter = 2 ∧ (after .wheelPulse (pulsing 39 0 1)).beat.phase = 1 := by decide
/-- R90: the fault watch ran out in the same millisecond, so the pulse is judged in FAULT. -/
theorem test_wheelPulse_afterFault :
    let s := pulsing 39 0 1
    (after .wheelPulse { s with beat := { s.beat with faultWatch := 2000 } }).beat.sensor = .fault
      ∧ (after .wheelPulse { s with beat := { s.beat with faultWatch := 2000 } }).beat.goodPulses = 1 := by decide
theorem test_sensorFault :
    (after .sensorFault { run with beat := { run.beat with faultWatch := 2000 }, motion := { run.motion with measuredSpeed := 200 } }).beat.intervalTimer
      = some 784 := by decide
theorem test_sensorRecovery :
    (after .sensorRecovery { run with beat := { run.beat with sensor := .fault, mode := .interval, goodPulses := 8 } }).beat.mode
      = .event := by decide
theorem test_beatMsTick : (after .beatMsTick (pulsing 39 0 1)).beat.pulseAge = 1 := by decide
/-- R89: the beat comes at 0, and not with time left. -/
theorem test_intervalTimerExpiry :
    let s := fun left : Nat =>
      { run with
        beat := { run.beat with mode := .interval, intervalTimer := some left, phase := 3 }
        motion := { run.motion with measuredSpeed := 1000 } }
    (after .intervalTimerExpiry (s 0)).beat.phase = 0 ∧ after .intervalTimerExpiry (s 1) = s 1 := by decide
/-- R89, R92: the timed beat of the millisecond comes before the eighth good pulse. -/
theorem test_wheelPulse_afterTimer :
    let s := pulsing 39 0 2
    (after .wheelPulse
        { s with
          beat := { s.beat with mode := .interval, sensor := .fault, goodPulses := 7, intervalTimer := some 0 }
          motion := { s.motion with measuredSpeed := 1000 } }).beat.phase = 1 := by decide

/-! ### Sound Engine -/

/-- A voice playing one sample of a program. -/
def voiced (program : Nat) (sample : Byte) : Voice :=
  { Voice.cold with
    current := some { program := program, mask := 0, segment := .body, offset := 0 }
    half0 := { state := .playing, segment := .body, offset := 0, count := 64, samples := [sample] } }

def program (voice gain : Nat) : Program :=
  { voice := voice, priority := 1, loop := false, attack := none, body := { start := 0, length := 100 }, release := none,
    gain := gain }

/-- Section 7.6: the worked mixer cases. -/
theorem test_mix :
    mix [some (program 0 200), some (program 1 255), some (program 2 128)] 200
        [voiced 0 100#8, voiced 1 (BitVec.ofInt 8 (-50)), voiced 2 20#8, Voice.cold] = 479
      ∧ mix [some (program 0 255), some (program 1 200)] 255 [voiced 0 127#8, voiced 0 127#8, voiced 1 127#8, voiced 0 100#8]
        = 2047
      ∧ mix [some (program 0 100)] 182 [voiced 0 (BitVec.ofInt 8 (-3))] = -13 := by decide

def sounding (e : SoundEngine → SoundEngine) : State := { run with sound := e run.sound }

def oneVoice (v : Voice) : State :=
  sounding fun e => { e with programs := [some (program 0 100)], voices := [v] }

theorem test_outputSample : (after .outputSample (oneVoice (voiced 0 (BitVec.ofInt 8 (-3))))).sound.output = -13 := by decide
def hungry : Voice := { voiced 0 100#8 with cursor := .fetch .body 64, nextFill := .h1 }
theorem test_fillGrant :
    (after .fillGrant (oneVoice hungry)).sound.reader = some { voice := 0, half := .h1, tag := 0 }
      ∧ ((after .fillGrant (oneVoice hungry)).sound.voices.map fun v => v.half1.count) = [36] := by decide
theorem test_fillComplete :
    ((after (.fillComplete (List.replicate 36 9#8)) (after .fillGrant (oneVoice hungry))).sound.voices.map fun v => v.half1.state)
      = [.ready] := by decide

/-! ### Smoke Controller -/

/-- R146: the two worked readings. -/
theorem test_temperature :
    temperatureOf Settings.builtIn.temperatureTable 700 = 233
      ∧ temperatureOf [0, 0, 0, 0, 180, 120, 0, 0, 0] 600 = 139 := by decide
def smoking (state : SmokeState) (heater : Bool) : State :=
  { run with smoke := { run.smoke with state := state, heater := heater, heatUpTimer := some 1, purgeTimer := some 1, puffTimer := some 1 } }
/-- A reading of 700 gives 233, above the target 230: READY with the heater off. A reading of 1020 is an open sensor. -/
theorem test_smokeSample :
    (after (.smokeSample 700) (smoking .heating true)).smoke.state = .ready
      ∧ (after (.smokeSample 700) (smoking .heating true)).smoke.heater = false
      ∧ (after (.smokeSample 1020) (smoking .ready true)).smoke.state = .fault := by decide
/-- R149, R74: at work the target is 255; a drive fault stops the locomotive, and a standing one holds 230. -/
theorem test_smokeSample_standing :
    let s := smoking .ready false
    let working := { s with motion := { (moving .moving 6000 s).motion with labour := .heavy } }
    (after (.smokeSample 700) working).smoke.heater = true
      ∧ (after (.smokeSample 700) (after (.hardCurrentSample 1023) working)).smoke.heater = false := by decide
theorem test_heatUpTimeout : (after .heatUpTimeout (smoking .heating true)).smoke.fanDuty = 600 := by decide
theorem test_purgeEnd : (after .purgeEnd (smoking .purge false)).smoke.state = .off := by decide
theorem test_puffEnd : (after .puffEnd (smoking .ready false)).smoke.fanDuty = 150 := by decide
/-- R151: puff lengths at beat intervals of 156, 78 and 20 ms. -/
theorem test_puff_length : (puffLength (some 156), puffLength (some 78), puffLength (some 20), puffLength none) = (60, 35, 9, 60) := by
  decide

/-! ### Light Controller -/

/-- Section 9.3: the firebox at work, its draws at timer 0 and 40. -/
theorem test_flicker_draws :
    flickerDraw 200 (nextRandom 65245) = 168 ∧ flickerDraw 200 (nextRandom (nextRandom 65245)) = 193
      ∧ flickerLevel true 168 = 232 ∧ flickerLevel true 193 = 255 := by decide
/-- R160: MARS at 250 and at 750. -/
theorem test_mars : (marsLevel 255 40 250, marsLevel 255 40 750) = (147, 147) := by decide
def lit : State :=
  { run with
    command := { run.command with functions := 1#24 }
    light := { run.light with outputs := run.light.outputs.map (LightOutput.judge true), flareTimer := some 0 } }
theorem test_lightMsTick : (after .lightMsTick lit).light.outputs.map (·.applied) = List.replicate 8 255 := by decide
/-- R163: the flare stops at 0, and not before. -/
theorem test_flareEnd :
    (after .flareEnd lit).light.flareTimer = none
      ∧ (after .flareEnd { lit with light := { lit.light with flareTimer := some 1 } }).light.flareTimer = some 1 := by decide
/-- R159, R162: an output turned lit since its last draw has no flicker value yet. -/
theorem test_flareEnd_undrawn :
    let s := { lit with settings := { lit.settings with outputs := List.replicate 8 { dark with effect := .flicker } } }
    let o := LightOutput.judge true { LightOutput.dark with flicker := 200 }
    (after .flareEnd { s with light := { s.light with outputs := [o] } }).light.outputs.map (·.applied) = [0] := by decide

/-! ### Supply Monitor -/

/-- R166: 79 brings level 3, 82 leaves it, 83 lowers it to 2. -/
theorem test_ladder :
    (ladder Settings.builtIn 79 0, ladder Settings.builtIn 82 3, ladder Settings.builtIn 83 3) = (3, 3, 2) := by decide
theorem test_supplySample : (after (.supplySample 40 79) (supplied .dropout run)).supply.shedLevel = 3 := by decide
theorem test_supplySample_hold : (after (.supplySample 40 64) (supplied .dropout run)).supply.state = .hold := by decide
def low : State := { run with supply := { run.supply with lowCount := 2, vres := 120 } }
theorem test_dropoutDetected :
    (after .dropoutDetected low).supply.state = .dropout ∧ (after .dropoutDetected low).counters.dropoutCount = 1 := by decide
def good (state : SupplyState) (level : Nat) : State :=
  { run with
    supply :=
      { run.supply with
        state := state, goodCount := 20, shedLevel := level, holdTimer := some 1, settleTimer := some 1
        stepDownTimer := some 1 } }
theorem test_pickupReturn : (after .pickupReturn (good .dropout 2)).supply.stepDownTimer = some 200 := by decide
theorem test_holdEnd : (after .holdEnd (good .hold 4)).supply.shedLevel = 3 := by decide
/-- R168: the restart first, then the return that fell together with it. -/
theorem test_holdEnd_afterRestart : (after .holdEnd (after .warmRestart (good .hold 4))).supply.state = .settle := by decide
theorem test_settleEnd : (after .settleEnd (moving .moving 6000 (good .settle 3))).motion.state = .idle := by decide
theorem test_stepDownExpiry : (after .stepDownExpiry (good .normal 1)).supply.stepDownTimer = none := by decide
theorem test_warmRestart : (after .warmRestart (consisted .formed (good .hold 4))).consist.state = .ability := by decide
theorem test_brownout : (after .brownout run).supply.brownoutMark = true := by decide
theorem test_coldStart_cause : (after (.coldStart none none none false) (after .brownout run)).supply.resetCause = .brownout := by decide
/-- Section 11.5 and R176: a good calibration record of 857 and 1630 (0x0359, 0x065E; check 0x00C0). -/
theorem test_coldStart_record :
    (after (.coldStart none (some [0x03#8, 0x59#8, 0x06#8, 0x5E#8, 0x00#8, 0xC0#8]) none false) run).motion.inForce
      = { kbs := 857, kff := 1630 } := by decide +kernel
theorem test_startupQualified :
    (after .startupQualified { State.reset with supply := { State.reset.supply with startCount := 100 } }).supply.state = .normal := by decide
theorem test_coldStartEnd :
    (after .coldStartEnd { run with command := CommandUnit.cold }).command.partMode = .run := by decide


/-! ### Witnesses: a state and operands that meet the hypotheses of every statement, clause by clause -/

theorem witness_StepRunsTheFrontCommand : { run with pending := [.jabber, .quietEnd] }.pending = .jabber :: [.quietEnd] := rfl

/-- A due event; and a millisecond in which the binding's, the hold and the STATUS timer run out. -/
theorem witness_IdleStepTakesUpDueEvents :
    (low.pending = [] ∧ low.dueEvent = some .dropoutDetected) ∧ run.pending = [] ∧ run.dueEvent = none
      ∧ (let s := bound 0x0301 .own { run with air := { run.air with statusTimer := some 1 } };
        { s with
          command := { s.command with binding := some ⟨0x0301, .own, 1⟩ }
          supply := { s.supply with holdTimer := some 1, settleTimer := some 2 } }.expiries)
        = [.supervisionExpiry, .warmRestart, .statusIntervalExpiry] := by decide

/-! RUN meets the hypotheses of the invariant statements. -/

theorem witness_EveryStepKeepsTheDriveSafe : run.DriveSafe :=
  ⟨by decide, by decide, by decide, by decide, by decide, fun h => absurd h (by decide)⟩
theorem witness_EveryStepKeepsTheMotionStateTrue : (moving .moving 16 run).MotionSound :=
  ⟨by decide, by decide, by decide, by decide⟩
theorem witness_EveryStepKeepsTheHeaterSafe : (smoking .heating true).HeaterSafe := ⟨by decide, by decide, by decide, by decide⟩
theorem witness_EveryStepKeepsTheBeatCounterInRange : run.BeatSound :=
  ⟨by decide, by decide, by decide, by decide, by decide, by decide⟩
theorem witness_EveryStepKeepsTheConsistRecordWhole :
    { run with consist := { ConsistUnit.cold with state := .ability, membership := some membership, negotiationTimer := some 1 } }.ConsistSound :=
  ⟨by decide, by decide, by decide, by decide, by decide, fun m h => by cases h; exact ⟨by decide, by decide, by decide, by decide⟩⟩
theorem witness_EveryStepKeepsTheAirInterfaceBounded :
    { run with counters := { Counters.zero with jabber := 255 } }.AirSound
      ∧ { Counters.zero with jabber := 255 }.Bounded :=
  ⟨⟨by decide, by decide, by decide, by decide, by decide, by decide, fun t h => by cases h⟩, by unfold Counters.Bounded; decide⟩
theorem witness_EveryStepKeepsTheLightsJudged : run.LightsJudged ∧ ∀ o ∈ run.light.outputs, o.Sound := by
  refine ⟨fun k o h => ?_, by unfold LightOutput.Sound; decide⟩
  have hd : ∀ o ∈ run.light.outputs, o.lit = false := by decide
  have hl : run.isLit k = false := by
    simp [Controller.isLit, Controller.onCondition, Controller.lightsFunctionLevel, anyFunctionOn, run, State.reset,
      Controller.powerOn, CommandUnit.cold]
  rw [hl]
  exact hd o (List.mem_of_getElem? h)
theorem witness_EveryStepKeepsTheVoicesSound : ∀ v ∈ (oneVoice hungry).sound.voices, v.Sound := by unfold Voice.Sound; decide
theorem witness_invariants_step : ∃ t, step { run with pending := [.jabber] } = .next t := ⟨_, rfl⟩

/-- A frame with a payload of 24 bytes whose kind is none of the eleven, with a good check. -/
theorem witness_DeliveredFramesAreCheckedInOrder :
    State.reset.command.partMode = .start ∧ run.command.partMode ≠ .start ∧ frameCheck (List.replicate 33 0#8) = false
      ∧ (frameCheck (frame 0x0 3 5 []).bytes = true ∧ structurallySound (frame 0x0 3 5 []).bytes = false)
      ∧ (frameCheck (frame 0x2 3 3 []).bytes = true ∧ structurallySound (frame 0x2 3 3 []).bytes = true
        ∧ frameSource (frame 0x2 3 3 []).bytes = run.settings.ownAddress)
      ∧ (frameCheck (frame 0x2 3 0xFFF []).bytes = true ∧ structurallySound (frame 0x2 3 0xFFF []).bytes = true
        ∧ frameSource (frame 0x2 3 0xFFF []).bytes ≠ run.settings.ownAddress)
      ∧ (List.replicate 7 (frame 0x2 3 5 [])).length < 8 ∧ 8 ≤ (List.replicate 8 (frame 0x2 3 5 [])).length := by
  decide +kernel

/-- A frame of this kind at the head has the class that its destination gives. -/
theorem headIs (s : State) (f : RxFrame) (kind : FrameKind) (cls : DestinationClass) (hk : frameKind f.bytes = some kind)
    (hc : s.classify (frameDestination f.bytes) = cls) : (holding f s).HeadIs f [] kind cls := ⟨rfl, hk, hc⟩

theorem witness_FramesOfOtherClassesAreDiscarded :
    (∃ s f, State.HeadIs s f [] .diagReport .own) ∧ (∃ s f, State.HeadIs s f [] .drive .otherConsist)
      ∧ (∃ s f, State.HeadIs s f [] .release .other) ∧ (∃ s f, State.HeadIs s f [] .halt .otherConsist)
      ∧ (∃ s f, State.HeadIs s f [] .calibrate .other) ∧ (∃ s f, State.HeadIs s f [] .diagQuery .other)
      ∧ (∃ s f, State.HeadIs s f [] .uncouple .other) ∧ (∃ s f, State.HeadIs s f [] .couple .own)
      ∧ (∃ s f, State.HeadIs s f [] .uncouple .all) ∧ (∃ s f, State.HeadIs s f [] .drive .all)
      ∧ ∃ s f, State.HeadIs s f [] .calibrate .ownConsist :=
  ⟨⟨_, _, headIs run (frame 0xB 3 5 []) _ _ (by decide) (by decide)⟩, ⟨_, _, headIs run (frame 0x1 0x1000 5 []) _ _ (by decide) (by decide)⟩,
    ⟨_, _, headIs run (frame 0x2 0x1100 5 []) _ _ (by decide) (by decide)⟩, ⟨_, _, headIs run (frame 0x3 0x10FF 5 []) _ _ (by decide) (by decide)⟩,
    ⟨_, _, headIs run (frame 0x4 0xFFF 5 []) _ _ (by decide) (by decide)⟩, ⟨_, _, headIs run (frame 0x5 4 5 []) _ _ (by decide) (by decide)⟩,
    ⟨_, _, headIs run (frame 0x7 4 5 []) _ _ (by decide) (by decide)⟩, ⟨_, _, headIs run (frame 0x6 3 5 []) _ _ (by decide) (by decide)⟩,
    ⟨_, _, headIs run (frame 0x7 0 5 []) _ _ (by decide) (by decide)⟩, ⟨_, _, headIs run (frame 0x1 0 5 []) _ _ (by decide) (by decide)⟩,
    ⟨_, _, headIs (consisted .formed run) (frame 0x4 0x1007 5 []) _ _ (by decide) (by decide)⟩⟩

theorem run_peers_empty (e : PeerEntry) : some e ∉ run.air.peers := fun h => Option.some_ne_none e (List.eq_of_mem_replicate h)

theorem entryAt_empty (address : Nat) : EntryAt run.air.peers address 0 :=
  .inr ⟨fun e h => absurd h (run_peers_empty e), .inl ⟨rfl, by omega⟩⟩

/-- An empty table, a station held at index 1, and full tables whose entries can be evicted. -/
theorem witness_PeersAreRecordedAsHeard :
    (EntryAt run.air.peers 5 0 ∧ (∃ s f, State.HeadIs s f [] .join .otherConsist)
        ∧ ∃ s f, State.HeadIs s f [] .status .all ∧ s.consist.state = .solo)
      ∧ EntryAt [none, some (.loco (LocoEntry.bare 5))] 5 1
      ∧ ((∃ i, EntryAt ((List.range 16).map fun k => some (PeerEntry.marker (k + 1) k)) 99 i)
        ∧ placementIndex ((List.range 16).map fun k => some (.marker (k + 1) k)) = some 15) :=
  ⟨⟨entryAt_empty 5, ⟨_, _, headIs run (frame 0x8 0x1000 5 []) _ _ (by decide) (by decide)⟩,
      ⟨_, _, headIs run (frame 0x9 0 5 []) _ _ (by decide) (by decide), rfl⟩⟩,
    .inl ⟨⟨_, rfl, rfl⟩, fun j e h he => by
      obtain rfl : j = 0 := by omega
      cases he⟩,
    ⟨exists_entryAt 99 ⟨_, List.mem_map.mpr ⟨0, by decide, rfl⟩, fun x h => by cases h; rfl⟩, by decide⟩⟩

/-- A pinned sender; a new one at the threshold and one below it; and a block that the notice repeats. -/
theorem witness_MarkerPassesOrRefreshesTheBlock :
    let f := frame 0xA 0 0x0900 [0#8, 12#8, 1#8, 24#8]
    let s := holding f run
    s.air.rxFifo = f :: [] ∧ frameKind f.bytes = some .marker
      ∧ peerPinned (frameSource f.bytes) (pinPeer 0x0900 run.air.peers) = true
      ∧ (peerPinned (frameSource f.bytes) s.air.peers = false ∧ EntryAt s.air.peers (frameSource f.bytes) 0)
      ∧ s.settings.passingThreshold ≤ f.strength
      ∧ ({ f with strength := 179 }.strength < s.settings.passingThreshold
        ∧ s.motion.block.markerAddress ≠ some (frameSource f.bytes))
      ∧ (let t := after .marker s;
        t.motion.block.blockId = some (wordAt (payloadOf f.bytes) 0) ∧ t.motion.block.age < 2000
          ∧ t.motion.block.aspect = aspectOf (byteAt (payloadOf f.bytes) 2)
          ∧ t.motion.block.markerAddress = some (frameSource f.bytes)) :=
  ⟨rfl, by decide, by decide, ⟨by decide, entryAt_empty _⟩, by decide, by decide, by decide⟩

theorem witness_PeersAgeAndAreForgotten : run.command.partMode ≠ .start := by decide

theorem witness_ListenWindowsAreChosenAndCharged :
    run.air.transmitter = .idle
      ∧ { run with air := { run.air with transmitter := .backoff 1 } }.air.transmitter = .backoff 1
      ∧ ((listening .status 6).air.transmitter = .listen .status ∧ ((listening .status 6).air.slot .status).attempts < 7)
      ∧ ((listening .join 7).air.transmitter = .listen .join ∧ 7 ≤ ((listening .join 7).air.slot .join).attempts) := by
  decide

theorem witness_ClearWindowsTransmitFromCurrentState :
    ((listening .status 0).air.transmitter = .listen .status ∧ TxKind.status ≠ .join)
      ∧ ((consisted .formed (listening .join 0)).air.transmitter = .listen .join
        ∧ (consisted .formed (listening .join 0)).consist.membership.isSome = true)
      ∧ (listening .join 0).air.transmitter = .listen .join ∧ (listening .join 0).consist.membership = none := by
  decide

theorem witness_HandoverClearsWhatWasReported :
    ∀ kind ∈ [TxKind.join, .status, .diagReport], ∀ handedOver,
      (sending kind 0 handedOver).air.transmitter = .sending
        ∧ ((sending kind 0 handedOver).air.outgoing.map fun t => (t.kind, t.handedOver)) = some (kind, handedOver) := by
  decide

theorem witness_FailedTransmissionsGoBackIntoTheirSlot :
    ∀ n ∈ [0, 6, 7],
      (sending .diagReport n false).air.transmitter = .sending
        ∧ ((sending .diagReport n false).air.outgoing.map fun t => (t.attempts, t.handedOver)) = some (n, false) := by
  decide

theorem witness_JabberQuietsTheTransmitter :
    (after .jabber run).air.transmitter = .quiet 2000 ∧ (after .jabber run).air.transmitActive = true
      ∧ run.air.transmitter = .idle
      ∧ (let s := { run with air := { run.air with transmitter := .quiet 0 } };
        s.air.transmitter = .quiet 0 ∧ s.air.transmitActive = false) := by decide

theorem witness_StatusIsRequestedAtIntervals :
    { run with air := { run.air with statusTimer := some 1 } }.air.statusTimer = some 1 := by decide

theorem witness_ComposedFramesPassTheChecks :
    isStationAddress run.settings.ownAddress = true ∧ (consisted .formed run).consist.consistId = some 7 ∧ 7 ≤ 255 := by
  decide

/-- In a consist and in none, and a block gone silent; section 11.3: the payload of the worked report (CHECK_FAIL 4,
DROPOUT_COUNT 1, SENSOR_FAULT set), with a trigger of program 12 pending on voice 0. -/
theorem witness_StatusAndJoinFieldsArriveAsSent :
    ((consisted .formed run).consist.membership = some membership ∧ run.consist.membership = none
        ∧ { run.motion.block with age := 2000 }.effectiveAspect = .unknown)
      ∧ (let c := { run with
            counters := { Counters.zero with checkFail := 4, dropoutCount := 1 }
            latches := { Latches.clear with sensorFault := true }
            sound := { run.sound with voices := [{ Voice.cold with pending := some ⟨12, 1, .function⟩ }] } };
        payloadOf (c.composeReport .diagReport 0x0A07)
          = [4#8, 0#8, 0#8, 0#8, 0#8, 0#8, 0#8, 1#8, 0#8, 4#8, 0#8, 12#8, 255#8, 255#8, 255#8, 0#8, 0#8, 0#8])
      ∧ ((consisted .formed run).consist.consistId = some 7 ∧ (consisted .formed run).motion.load ≤ 255
        ∧ (consisted .formed run).markerCap = some 771)
      ∧ (run.settings.ownAbility.p0 ≤ 4095 ∧ run.settings.ownAbility.p16 ≤ 4095 ∧ 1 ≤ run.settings.accel
        ∧ run.settings.accel ≤ 255 ∧ 1 ≤ run.settings.decel ∧ run.settings.decel ≤ 255) := by
  decide

/-! Driving: both paths, unbound, bound to the source, and bound to another. -/

theorem witness_drive_own : (holding (driveTo 3 0x0301 40) run).HeadIs (driveTo 3 0x0301 40) [] .drive .own :=
  headIs _ _ _ _ (by decide) (by decide)
theorem witness_drive_consist :
    (holding (driveTo 0x1007 0x0301 0) (consisted .formed run)).HeadIs (driveTo 0x1007 0x0301 0) [] .drive .ownConsist :=
  headIs _ _ _ _ (by decide) (by decide)

theorem witness_DrivesBindAndForeignOnesAreCounted :
    (run.consist.state = .solo ∧ run.command.binding = none)
      ∧ ((consisted .formed run).consist.state ≠ .solo
        ∧ (bound 0x0301 .consist (consisted .formed run)).command.binding = some ⟨0x0301, .consist, 1500⟩
        ∧ frameSource (driveTo 0x1007 0x0301 0).bytes = 0x0301)
      ∧ ((bound 0x0302 .own run).command.binding = some ⟨0x0302, .own, 1500⟩
        ∧ 0x0302 ≠ frameSource (driveTo 3 0x0301 40).bytes)
      ∧ (let s := { run with command := { run.command with partMode := .parked } };
        s.command.partMode = .parked ∧ s.command.parkTimer = none
          -- woken by the first binding; and not by a step of 0 from the bound throttle with nothing changed
          ∧ (after .drive (holding (driveTo 3 0x0301 0) s)).command.partMode = .run
          ∧ (after .drive (holding (frame 0x1 3 0x0301 [0#8, 0#8, 0#8, 0#8, 0#8]) (bound 0x0301 .own s))).command.partMode
            = .parked)
      -- a running park timer, and a motion state that changes
      ∧ (after .drive (holding (driveTo 3 0x0301 40) { run with command := { run.command with parkTimer := some 5 } })).command.parkTimer
        = some 0
      ∧ (after .drive (holding (driveTo 3 0x0301 0) (moving .eStopped 0 run))).motion.state = .idle
      ∧ (after .drive (holding (driveTo 3 0x0301 0) (moving .eStopped 0 run))).air.statusSlot = ⟨true, 0⟩ := by
  decide +kernel

/-- The entry of station 5 as a STATUS with this stall flag, of this age, leaves it. -/
def heardWith (stall : Bool) (age : Nat) : LocoEntry :=
  { LocoEntry.bare 5 with
    age := some age, statusAge := some age
    status :=
      some
        { consistId := some 7, consistState := .formed, eStop := false, stall := stall, driveFault := false, load := 90,
          cap := some 300 } }

/-- Each motion state, each step; and via CONSIST a member heard 9 ticks ago with a fault, and none heard. -/
theorem witness_DriveNoticesClearStopsAtStepZero :
    (moving .eStopped 0 run).motion.state.stopped = true ∧ (moving (.faulted .stall) 0 run).motion.state.stopped = true
      ∧ (moving (.calibrating .store) 0 run).motion.state.isCalibrating = true
      ∧ byteAt (payloadOf (driveTo 3 0x0301 0).bytes) 0 = 0 ∧ 0 < byteAt (payloadOf (driveTo 3 0x0301 1).bytes) 0
      ∧ (moving .moving 16 run).motion.state = .moving
      ∧ byteAt (payloadOf (driveTo 0x1007 0x0301 0).bytes) 0 = 0
      ∧ (consisted .formed run).consist.others.map (·.address) = [5]
      ∧ locoEntry 5 [some (.loco (heardWith true 9))] = some (heardWith true 9)
      ∧ ((heardWith true 9).status.map (·.stall) = some true ∧ (heardWith true 9).statusAge = some 9)
      ∧ locoEntry 5 (consisted .formed run).air.peers = none := by
  decide

/-- Function 0 outside the consist mask, off, and its edge with every action in turn. -/
theorem witness_FunctionOnlyDrivesWorkTheOwnFunctions :
    let masked := { consisted .formed run with settings := { run.settings with consistMask := 0xFFFFFE#24 } }
    (holding (driveTo 3 0x0301 40) masked).HeadIs (driveTo 3 0x0301 40) [] .drive .own
      ∧ masked.consist.state ≠ .solo
      ∧ (masked.settings.consistMask.getLsbD 0 = false
        ∧ (driveFunctions (payloadOf (driveTo 3 0x0301 40).bytes)).getLsbD 0 ≠ masked.command.functions.getLsbD 0
        ∧ ∀ j < 24, j ≠ 0 → masked.settings.consistMask.getLsbD j = true)
      ∧ (∀ a ∈ [FunctionAction.none, .lights 255#8, .sound 63, .smokeEnable, .dim, .soundOn, .shunt],
        ([a].getD 0 .none) = a)
      ∧ (run.smokeEnableLevel = false
        ∧ { run with
            settings := { run.settings with functionMap := [.smokeEnable] }
            command := { run.command with functions := 1#24 } }.smokeEnableLevel = true) :=
  ⟨headIs _ _ _ _ (by decide) (by decide), by decide, by decide, by decide, by decide⟩

theorem witness_ReleaseUnbindsAndNothingElse :
    (holding (frame 0x2 3 0x0301 []) (bound 0x0301 .own run)).HeadIs (frame 0x2 3 0x0301 []) [] .release .own
      ∧ frameSource (frame 0x2 3 0x0301 []).bytes = 0x0301
      ∧ (holding (frame 0x2 0x1007 0x0301 []) (bound 0x0301 .consist (consisted .formed run))).HeadIs
        (frame 0x2 0x1007 0x0301 []) [] .release .ownConsist
      ∧ (bound 0x0302 .own run).command.binding = some ⟨0x0302, .own, 1500⟩ ∧ run.command.binding = none :=
  ⟨headIs _ _ _ _ (by decide) (by decide), by decide, headIs _ _ _ _ (by decide) (by decide), by decide, by decide⟩

theorem witness_HaltStopsOnceForEachInstance :
    (∃ s f, State.HeadIs s f [] .halt .all ∧ s.command.lastHalt ≠ some (frameSource f.bytes, byteAt (payloadOf f.bytes) 0)
        ∧ s.command.partMode = .run ∧ s.motion.state = .moving)
      ∧ (∃ s f, State.HeadIs s f [] .halt .own ∧ s.command.lastHalt = some (frameSource f.bytes, byteAt (payloadOf f.bytes) 0))
      ∧ (∃ s f, State.HeadIs s f [] .halt .ownConsist ∧ s.command.lastHalt = none ∧ s.motion.state.stopped = true)
      ∧ ∃ s f, State.HeadIs s f [] .halt .all ∧ s.command.lastHalt = none ∧ s.command.partMode = .run
        ∧ s.motion.state.isCalibrating = true :=
  ⟨⟨_, _, headIs (moving .moving 6000 run) (frame 0x3 0 0x0520 [3#8]) _ _ (by decide) (by decide), by decide, rfl, rfl⟩,
    ⟨_, _, headIs { run with command := { run.command with lastHalt := some (0x0520, 255) } } (frame 0x3 3 0x0520 [255#8]) _ _ (by decide) (by decide),
      by decide⟩,
    ⟨_, _, headIs (moving .eStopped 0 (consisted .formed run)) (frame 0x3 0x1007 0x0520 [0#8]) _ _ (by decide) (by decide), rfl, rfl⟩,
    ⟨_, _, headIs (moving (.calibrating .measure) 0 run) (frame 0x3 0 0x0520 [3#8]) _ _ (by decide) (by decide), rfl, rfl, rfl⟩⟩

theorem witness_CalibrateStartsOrIsRefused :
    (holding (frame 0x4 3 0x0301 []) (bound 0x0301 .own run)).HeadIs (frame 0x4 3 0x0301 []) [] .calibrate .own
      ∧ (bound 0x0301 .own run).mayCalibrate 0x0301 = true ∧ run.mayCalibrate 0x0301 = false :=
  ⟨headIs _ _ _ _ (by decide) (by decide), by decide, by decide⟩

theorem witness_DiagQueryFilesAReportRequest :
    (holding (frame 0x5 3 0x0A07 []) run).HeadIs (frame 0x5 3 0x0A07 []) [] .diagQuery .own :=
  headIs _ _ _ _ (by decide) (by decide)

/-- The park timer at the park delay of 10 minutes, and a millisecond below it. -/
theorem witness_TimersUnbindAndPark :
    (bound 0x0301 .own run).command.binding = some ⟨0x0301, .own, 1500⟩
      ∧ ¬600000 < run.settings.parkDelay * 60000 ∧ run.settings.parkDelay * 60000 ≤ 600000
      ∧ 599999 < run.settings.parkDelay * 60000
      ∧ { run with command := { run.command with parkTimer := some 600000 } }.command.parkTimer = some 600000
      ∧ run.command.partMode = .run ∧ (smoking .heating true).smoke.state = .heating := by
  decide

/-! Coupling. -/

theorem witness_couple (s : State) : (holding (couple 2) s).HeadIs (couple 2) [] .couple (s.classify 0x1007) :=
  ⟨rfl, by decide, by rfl⟩

theorem witness_CoupleTakenStartsNegotiation :
    run.classify 0x1007 = .otherConsist ∧ listSound (coupleMembers (payloadOf (couple 2).bytes)) = true
      ∧ run.settings.ownAddress ∈ (coupleMembers (payloadOf (couple 2).bytes)).map (·.1) ∧ run.consist.state = .solo
      ∧ run.motion.state = .idle ∧ run.command.partMode ≠ .start ∧ (∀ e, some e ∉ run.air.peers)
      ∧ EntryAt run.air.peers 5 0 :=
  ⟨by decide, by decide +kernel, by decide +kernel, by decide, by decide, by decide,
    run_peers_empty, entryAt_empty 5⟩

theorem witness_MalformedMemberListsAreCounted :
    (coupleMembers (payloadOf (couple 1).bytes)).length < 2
      ∧ 4 < (coupleMembers (payloadOf (frame 0x6 0x1007 0x0301 (7#8 :: 5#8 :: List.replicate 15 1#8)).bytes)).length
      ∧ (coupleMembers (payloadOf (frame 0x6 0x1007 0x0301 [7#8, 2#8, 0#8, 5#8, 0#8, 0#8, 6#8, 0#8]).bytes)).map (·.1) = [5, 6]
      ∧ run.settings.ownAddress ∉ [5, 6] := by
  decide +kernel

theorem witness_CoupleIsRepeatedRefusedOrTaken :
    (consisted .formed run).consist.isRepeat 7 (coupleMembers (payloadOf (couple 2).bytes)) = true
      ∧ (consisted .formed run).classify 0x1007 = .ownConsist
      ∧ (moving .moving 16 run).consist.state = .solo ∧ (moving .moving 16 run).motion.state ≠ .idle := by
  decide

theorem witness_ConsistsEndInSolo :
    (holding (frame 0x7 0x1007 0x0301 []) (consisted .broken run)).HeadIs (frame 0x7 0x1007 0x0301 []) [] .uncouple .ownConsist
      ∧ (consisted .acknowledge run).consist.state = .acknowledge
      ∧ (consisted .acknowledge run).consist.negotiationTimer.isSome = true :=
  ⟨headIs _ _ _ _ (by decide) (by decide), by decide, by decide⟩

theorem witness_ConsistTimersJoinAndBreak :
    (consisted .ability run).consist.joinTimer.isSome = true ∧ (consisted .formed run).consist.membership = some membership
      ∧ (membership.others.find? (·.address == 5)).isSome = true
      ∧ ((membership.others.find? (·.address == 5)).bind (·.timer)).isSome = true
      ∧ (consisted .broken run).consist.state = .broken := by
  decide

/-- A JOIN of 0x0005 in consist 7, with its ack flag. -/
def joinOf (ack : Byte) : RxFrame :=
  frame 0x8 0x1007 5 [0x00#8, 0x05#8, 0x00#8, 0x32#8, 0x0D#8, 0x48#8, 30#8, 28#8, 3#8, ack]

theorem witness_JoinsCompleteTheNegotiation :
    (holding (joinOf 0#8) (consisted .ability run)).HeadIs (joinOf 0#8) [] .join .ownConsist
      ∧ (holding (joinOf 1#8) (consisted .acknowledge run)).HeadIs (joinOf 1#8) [] .join .ownConsist
      ∧ frameSource (joinOf 0#8).bytes ∈ membership.others.map (·.address)
      ∧ (consisted .ability run).consist.negotiationTimer.isSome = true
      ∧ (after .join (holding (joinOf 0#8) (consisted .ability run))).consist.state = .acknowledge
      ∧ (after .join (holding (joinOf 1#8) (consisted .ability run))).consist.state = .formed :=
  ⟨headIs _ _ _ _ (by decide) (by decide), headIs _ _ _ _ (by decide) (by decide), by decide, by decide,
    by decide +kernel, by decide +kernel⟩

theorem witness_EveryMemberComputesTheSameCommonParameters :
    List.Perm [ability, { ability with p0 := 60 }] [{ ability with p0 := 60 }, ability] := List.Perm.swap ..

/-- A STATUS of 0x0005 in consist 7 with this consist state and these flags. -/
def statusOf (state flags : Byte) : RxFrame :=
  frame 0x9 0 5 ([1#8, 7#8, 2#8, 1#8, 1#8, state, 0#8, flags] ++ List.replicate 11 0#8 ++ [4#8, 0#8])

/-- The member 0x0005 in every consist state and under every mark, with what its STATUS can show. -/
theorem witness_MemberStatusIsSupervisedAndShared :
    (holding (statusOf 3#8 0#8) (consisted .formed run)).HeadIs (statusOf 3#8 0#8) [] .status .all
      ∧ (holding (joinOf 1#8) (consisted .broken run)).HeadIs (joinOf 1#8) [] .join .ownConsist
      ∧ (membership.others.find? (·.address == frameSource (statusOf 3#8 0#8).bytes)).isSome = true
      ∧ (∀ state ∈ [ConsistState.ability, .acknowledge, .formed, .broken],
        state ≠ .solo ∧ (consisted state run).consist.state = state ∧ (consisted state run).consist.membership = some membership)
      ∧ (∀ mark ∈ [WatchMark.watched, .lost, .reheard],
        ((membership.others.map fun o => { o with mark := mark }).find? (·.address == 5)).map (·.mark) = some mark)
      ∧ (statusFields (payloadOf (statusOf 3#8 1#8).bytes)).eStop = true
      ∧ previousEStop 5 run.air.peers ≠ some true ∧ (moving (.faulted .stall) 0 run).motion.state.stopped = true
      ∧ (statusFields (payloadOf (statusOf 3#8 0#8).bytes)).consistState = .formed
      ∧ (statusFields (payloadOf (statusOf 2#8 0#8).bytes)).consistState = .acknowledge
      ∧ (statusFields (payloadOf (statusOf 4#8 0#8).bytes)).consistState = .broken
      ∧ (statusFields (payloadOf (statusOf 3#8 0#8).bytes)).consistId = some membership.consistId
      ∧ { (consisted .ability run).consist with negotiationTimer := none }.negotiationTimer = none :=
  ⟨headIs _ _ _ _ (by decide) (by decide), headIs _ _ _ _ (by decide) (by decide), by decide +kernel, by decide, by decide,
    by decide +kernel, by decide, by decide, by decide +kernel, by decide +kernel, by decide +kernel, by decide +kernel, rfl⟩
/-- R108: a STATUS of another consist breaks this one. R109: with the last LOST member reheard at standstill it negotiates. -/
theorem test_status_breaks_and_rehears :
    let lost := { consisted .broken run with
      consist := { (consisted .broken run).consist with
        membership := some { membership with others := membership.others.map fun o => { o with mark := .lost } } } }
    (after .status (holding (statusOf 4#8 0#8) (consisted .formed run))).consist.state = .broken
      ∧ (after .status (holding (statusOf 3#8 0#8) lost)).consist.state = .ability := by
  decide +kernel

/-- Running, held, stopped and turning; and every term of the target in one FORMED consist. -/
theorem witness_TheRampFollowsTheEffectiveTarget :
    run.command.partMode ≠ .start ∧ (moving .moving 16 run).motion.state = .moving ∧ run.supply.state = .normal
      ∧ (supplied .hold run).supply.state = .hold ∧ (moving .eStopped 0 run).motion.state.stopped = true
      ∧ (consisted .broken run).consist.stopCap = true ∧ run.markerCap = some 0
      ∧ (consisted .formed run).mergedCap = some 771
      ∧ (let s := { moving .moving 16 run with command := { run.command with requestedDirection := .reverse } };
        s.demandedDirection ≠ s.motion.travel ∧ 0 < s.motion.rampedSpeed)
      ∧ (let s := { run with command := { run.command with requestedDirection := .reverse } };
        s.motion.state.isCalibrating = false ∧ s.demandedDirection ≠ s.motion.travel ∧ s.motion.ramp / 16 = 0)
      ∧ (let s := consisted .formed { run with air := { run.air with peers := [some (.loco (heardWith false 9))] } };
        s.consist.state = .formed ∧ s.consist.common.map (fun p => (p.capShare, p.vtop)) = some (true, 3000)
          ∧ s.mergedCap = some 300 ∧ (after (.controlPeriod 0 0)
            { s with command := { s.command with commandedStep := 96 } }).motion.ramp = 20) := by
  decide

/-- A renegotiation that waits for standstill, a locomotive whose period takes the regulator's terms, one that shares its load,
and every phase of a calibration. -/
theorem witness_TheControlPeriodRegulatesTheMotor :
    (let s := consisted .broken run;
      { s with consist := { s.consist with renegotiationPending := true } }.consist.renegotiationPending = true
        ∧ s.consist.state = .broken ∧ s.consist.membership = some membership ∧ (after (.controlPeriod 0 0) s).motion.ramp / 16 = 0)
      ∧ (after (.controlPeriod 1023 94116) (moving .moving 6000 run)).motion.setpoint = 373
      ∧ (moving .moving 6000 run).motion.state.isCalibrating = false
      ∧ (let s := consisted .formed { run with air := { run.air with peers := [some (.loco (heardWith false 9))] } };
        s.consist.state = .formed ∧ s.consist.common.map (·.loadShare) = some true ∧ s.motion.filteredCurrent / 4 = 0
          ∧ (after (.controlPeriod 0 0) (moving .moving 6000 s)).motion.setpoint = 373 + 22)
      ∧ (∀ phase ∈ [CalPhase.spinup, .measure, .store],
        (calibrating phase measured .none).motion.state = .calibrating phase
          ∧ (calibrating phase measured .none).motion.calibration = some measured)
      ∧ ((after (.controlPeriod 300 0) (calibrating .measure { measured with phaseTimer := 400 } .none)).motion.calibration.map
        fun r => (r.phaseTimer, r.bemfSum)) = some (399, 120300)
      ∧ (after (.controlPeriod 0 0) (calibrating .store measured .none)).motion.duty = 0 := by
  decide

theorem witness_TheOwnCurveInterpolatesInSixths :
    ((List.range 17).map (· * 100)).length = 17 ∧ ((List.range 17).map (· * 100)).Pairwise (· ≤ ·)
      ∧ ((List.range 17).map (· * 100)).getD (95 / 6) 0 ≤ ((List.range 17).map (· * 100)).getD (95 / 6 + 1) 0 := by
  decide

theorem witness_FaultsAndStaleBlocksAreJudged :
    (2000 ≤ (BlockRecord.mk (some 1) .clear 96 (some 2) 2000).age ∧ (BlockRecord.mk (some 1) .clear 96 (some 2) 2000).aspect ≠ .unknown)
      ∧ (let s := { moving .moving 6000 run with motion := { (moving .moving 6000 run).motion with stallCount := 400 } };
        400 ≤ s.motion.stallCount ∧ s.motion.state ≠ .faulted .stall)
      ∧ run.settings.hardCurrentLimit ≤ (600 : Fin 1024).val ∧ (599 : Fin 1024).val < run.settings.hardCurrentLimit
      ∧ run.motion.state ≠ .faulted .driveFault := by
  decide

theorem witness_CalibrationMeasuresAndStores :
    measured.phaseTimer = 0 ∧ (calibrating .spinup measured .none).motion.calibration = some measured
      ∧ (0 < measured.bemfSum / 400 ∧ 0 < measured.wheelSum / 400 ∧ measured.foldbackSeen = false)
      ∧ ¬0 < { measured with bemfSum := 399 }.bemfSum / 400 := by
  decide

theorem witness_WritesAdoptOrRestoreTheValues :
    (let s := calibrating .store { measured with newValues := some ⟨857, 1630⟩ } (.writing [] 1);
      s.motion.write = .writing [] 1 ∧ s.motion.state = .calibrating .store
        ∧ s.motion.calibration = some { measured with newValues := some ⟨857, 1630⟩ })
      ∧ { run with motion := { run.motion with write := .restoring [] 20 } }.motion.write = .restoring [] 20
      ∧ run.motion.state ≠ .calibrating .store := by
  decide

/-- The 4 ms boundary of acceptance, the counter at 1 and 2, the two modes and states of the sensor, and a fault, a recovery
and a timed beat that stand as the pulse comes. -/
theorem witness_PulsesAndTimersEmitBeats :
    run.command.partMode ≠ .start ∧ run.settings.sensorFitted = true ∧ run.beat.lastPulse = none
      ∧ ((pulsing 4 0 1).beat.lastPulse = some 0 ∧ 0 + 4 ≤ (pulsing 4 0 1).beat.now ∧ (pulsing 4 0 1).beat.counter ≤ 1)
      ∧ ((pulsing 3 0 2).beat.now < 0 + 4 ∧ 1 < (pulsing 3 0 2).beat.counter)
      ∧ (run.beat.sensor = .ok ∧ run.beat.mode = .event ∧ run.beat.faultWatch < 2000)
      ∧ (let b := { run.beat with mode := .interval, sensor := .fault };
        b.sensor = .fault ∧ b.goodPulses < 8 ∧ b.intervalTimer = none)
      ∧ ({ run.beat with faultWatch := 2000 }.mode = .event ∧ 2000 ≤ { run.beat with faultWatch := 2000 }.faultWatch)
      ∧ ({ run.beat with sensor := .fault, goodPulses := 8 }.sensor = .fault ∧ 8 ≤ { run.beat with goodPulses := 8 }.goodPulses)
      ∧ (let s := { run with
          beat := { run.beat with mode := .interval, intervalTimer := some 0 }
          motion := { run.motion with measuredSpeed := 8 } };
        s.beat.mode = .interval ∧ s.beat.intervalTimer = some 0 ∧ 8 ≤ s.motion.measuredSpeed ∧ s.beat.sensor ≠ .fault) := by
  decide

theorem witness_TheWheelSensorIsWatchedAndRecovers :
    (let s := { run with beat := { run.beat with faultWatch := 2000 }, motion := { run.motion with measuredSpeed := 200 } };
      s.beat.mode = .event ∧ s.beat.sensor = .ok ∧ 2000 ≤ s.beat.faultWatch ∧ 0 < s.motion.measuredSpeed)
      ∧ (let s := { run with beat := { run.beat with sensor := .fault, goodPulses := 8 } };
        s.beat.sensor = .fault ∧ 8 ≤ s.beat.goodPulses)
      ∧ ((pulsing 39 0 1).beat.lastPulse.isSome = true
        ∧ (after .beatMsTick { run with beat := { run.beat with lastPulse := some 0, pulseAge := 65534 } }).beat.pulseAge = 65535
        ∧ { run with beat := { run.beat with period := some 39 } }.beat.period = some 39)
      ∧ (let s := fun measured : Nat =>
          ({ run with
            beat := { run.beat with mode := .interval }, motion := { run.motion with measuredSpeed := measured } } : State);
        (s 8).beat.intervalTimer = none ∧ (after .beatMsTick (s 8)).beat.intervalTimer.isSome = true
          ∧ (after .beatMsTick (s 7)).beat.intervalTimer = none) := by
  decide

/-- The hungry voice at the last sample of its half. -/
def atLast : Voice := { hungry with current := some { program := 0, mask := 0, segment := .body, offset := 63 } }

/-- Muted and heard; a voice between two samples, and one at its last sample with the other half READY, in a fill awaited,
still to come, and with nothing left to come. -/
theorem witness_TheMixerSaturatesAndMutes :
    run.supply.shedLevel < 3 ∧ run.soundOnLevel = true ∧ run.command.partMode ≠ .start ∧ 3 ≤ (good .settle 3).supply.shedLevel
      ∧ run.counters.soundUnderrun ≤ 255 ∧ (∀ v ∈ run.sound.voices, v.current = none)
      ∧ (hungry.half0.state = .playing ∧ hungry.current = some ⟨0, 0, .body, 0⟩ ∧ ¬hungry.half0.offset + hungry.half0.count ≤ 0 + 1)
      ∧ (atLast.half0.state = .playing ∧ atLast.current = some ⟨0, 0, .body, 63⟩ ∧ atLast.half0.offset + atLast.half0.count ≤ 63 + 1)
      ∧ ({ atLast with half1 := { HalfBuffer.empty with state := .ready } }.half1.state = .ready)
      ∧ (let v := { atLast with half1 := { HalfBuffer.empty with state := .filling } };
        v.half1.state = .filling ∧ (some (Fill.mk 0 .h1 0)).any (fun f => f.voice = 0 ∧ f.tag = v.generation) = true)
      ∧ (atLast.half1.state ≠ .ready ∧ atLast.half1.state ≠ .filling ∧ atLast.cursor = .fetch .body 64)
      ∧ { atLast with cursor := .ended }.cursor = .ended
      ∧ (after .outputSample (oneVoice atLast)).counters.soundUnderrun = 1
      ∧ (after .outputSample (oneVoice { atLast with cursor := .ended })).sound.voices.map (·.current) = [none] := by
  decide

theorem witness_TheReaderFillsTheHungriestVoice :
    (let s := oneVoice hungry;
      s.sound.reader = none ∧ s.sound.voices[0]? = some hungry ∧ hungry.eligible = true
        ∧ hungry.current = some { program := 0, mask := 0, segment := .body, offset := 0 }
        ∧ lookupProgram s.sound.programs 0 = some (program 0 100) ∧ hungry.cursor = .fetch .body 64)
      ∧ (∀ v ∈ run.sound.voices, v.eligible = false)
      ∧ (let s := after .fillGrant (oneVoice hungry);
        s.sound.reader = some { voice := 0, half := .h1, tag := 0 }
          ∧ s.sound.voices.map (fun v => (v.generation, v.half1.count, v.isPlaying)) = [(0, 36, true)]
          ∧ s.sound.voices.map (·.cursor) = [.ended])
      -- the ends of the other segments, and a first fill
      ∧ ((after .fillGrant (oneVoice { hungry with repeating := true })).sound.voices.map (·.cursor) = [.fetch .body 0])
      ∧ (after .fillGrant (oneVoice { hungry with cursor := .fetch .attack 0 })).sound.voices.map (·.cursor)
        = [.fetch .body 0]
      ∧ (after .fillGrant (oneVoice { hungry with cursor := .fetch .body 0 })).sound.voices.map (·.cursor)
        = [.fetch .body 64]
      ∧ (let s := after .fillGrant (oneVoice { hungry with half0 := HalfBuffer.empty, nextFill := .h0, priming := true });
        s.sound.voices.map (·.isPlaying) = [false]
          ∧ (after (.fillComplete (List.replicate 36 9#8)) s).sound.voices.map (·.current)
            = [some { program := 0, mask := 0, segment := .body, offset := 64 }]) := by
  decide

/-- The rows of the trigger table: an IDLE voice, a voice of a lower mask with an empty and with a full stack, and one of
the same mask. -/
theorem witness_TriggersAreJudgedByTheirVoice :
    lookupProgram [some (program 0 100)] 0 = some (program 0 100) ∧ lookupProgram [none] 0 = none
      ∧ Voice.cold.current = none ∧ (voiced 0 0#8).current = some { program := 0, mask := 0, segment := .body, offset := 0 }
      ∧ 0 < (program 0 100).priority ∧ (voiced 0 0#8).stack.length < 2
      ∧ 2 ≤ ((voiced 0 0#8).push.startProgram (program 0 100) ⟨0, 1, .beat⟩).push.stack.length
      ∧ ((voiced 0 0#8).startProgram { program 0 100 with loop := true } ⟨0, 1, .function⟩).repeating = true
      -- letting go of a LOOP that plays, of one with nothing left to play, and of one that is not there; parking
      ∧ (let e := fun v : Voice =>
          ({ run.sound with programs := [some { program 0 100 with loop := true }], voices := [v] } : SoundEngine);
        let held := { voiced 0 0#8 with repeating := true, cursor := .fetch .body 64 };
        ((e held).letGo (some 0)).voices = [{ held with repeating := false, letGo := true, cursor := .ended }]
          ∧ ((e { held with half0 := HalfBuffer.empty }).letGo (some 0)).voices.map (·.current) = [none]
          ∧ ((e Voice.cold).letGo (some 0)).voices = [Voice.cold]
          ∧ (e held).park.voices.map (·.current) = [none])
      -- labour level HEAVY, phase 2
      ∧ (let e : SoundEngine :=
          { run.sound with beatTable := List.replicate 14 none ++ [some 0], programs := [some (program 0 100)] };
        (e.beatTrigger .heavy 2).voices.map (·.current.isSome) = [true, false, false, false]) := by
  decide

theorem witness_SmokeSamplesSwitchAndProtect :
    run.command.partMode ≠ .start ∧ (3 : Fin 1024).val ≤ 3 ∧ 1020 ≤ (1020 : Fin 1024).val
      ∧ ¬((4 : Fin 1024).val ≤ 3 ∨ 1020 ≤ (4 : Fin 1024).val) ∧ (smoking .ready true).smoke.state = .ready
      ∧ (smoking .shed false).smoke.state = .shed ∧ run.smoke.state = .off
      ∧ run.settings.tMax < temperatureOf run.settings.temperatureTable 1019
      ∧ ¬run.settings.tMax < temperatureOf run.settings.temperatureTable 700 := by
  decide

theorem witness_SmokeSamplesSwitchAndProtect_standing : run.MotionSound ∧ run.motion.rampedSpeed = 0 :=
  ⟨⟨by decide, by decide, by decide, by decide⟩, by decide⟩

theorem witness_SmokeTimersPurgeAndPuff :
    (smoking .heating true).smoke.heatUpTimer.isSome = true ∧ (smoking .purge false).smoke.purgeTimer.isSome = true
      ∧ (smoking .ready false).smoke.puffTimer.isSome = true ∧ run.smokeEnableLevel = false
      ∧ { run with
          settings := { run.settings with functionMap := [.smokeEnable] }
          command := { run.command with functions := 1#24 } }.smokeEnableLevel = true := by
  decide

/-- An output of every effect can stand at every position of its cycle; two FLICKER outputs draw one after the other (section
9.3: 168, then the next number's draw). -/
theorem witness_LightEffectsFollowTheirCycles :
    lit.light.outputs[7]? = some { LightOutput.dark with lit := true, effectTimer := some 0 }
      ∧ lit.light.flareTimer = some 0 ∧ 1 ≤ lit.light.randomRegister ∧ lit.light.randomRegister ≤ 65536
      ∧ (∀ e ∈ [Effect.steady, .flicker, .pulse, .strobe, .ditch, .mars],
        ({ lit with settings := { lit.settings with outputs := List.replicate 8 { dark with effect := e } } }.outputRecord 7).effect = e)
      ∧ ((after .lightMsTick
          { lit with
            settings := { lit.settings with outputs := List.replicate 8 { dark with effect := .flicker, level := 200 } }
            light := { lit.light with randomRegister := 65245, outputs := lit.light.outputs.take 2 } }).light.outputs.map (·.flicker))
        = [168, 193] := by
  decide

/-- The level is 4 at 64 and not at 65. -/
theorem witness_SupplySamplesCountAndShed :
    State.reset.command.partMode = .start ∧ run.command.partMode ≠ .start ∧ run.supply.state ≠ .dropout
      ∧ (supplied .dropout run).supply.state = .dropout ∧ ladder run.settings 64 0 = 4 ∧ ladder run.settings 65 0 = 3
      ∧ (smoking .ready true).smoke.state = .ready ∧ run.supply.shedLevel = 0
      -- smoke under the level as it rises, at level 4, and as it returns to 0; a calibration at level 4; an unchanged level
      ∧ (after (.supplySample 40 79) (supplied .dropout (smoking .ready true))).smoke.fanDuty = 0
      ∧ (after (.supplySample 40 64) (supplied .dropout (smoking .ready true))).smoke.state = .shed
      ∧ (let s := supplied .dropout (smoking .shed true);
        ladder run.settings 255 1 = 0
          ∧ (after (.supplySample 40 255) { s with supply := { s.supply with shedLevel := 1 } }).smoke.state = .heating)
      ∧ (after (.supplySample 40 64) (supplied .dropout (moving (.calibrating .measure) 0 run))).motion.state = .idle
      ∧ ladder run.settings 255 0 = run.supply.shedLevel := by
  decide

theorem witness_TheSupplyFallsAndReturns :
    (low.command.partMode ≠ .start ∧ 2 ≤ low.supply.lowCount ∧ low.supply.state = .normal
        ∧ ladder low.settings low.supply.vres low.supply.shedLevel = 0
        ∧ ladder low.settings 64 low.supply.shedLevel = 4)
      ∧ ((good .dropout 0).supply.state = .dropout ∧ 20 ≤ (good .dropout 0).supply.goodCount)
      ∧ (good .hold 4).supply.state = .hold
      ∧ ((good .settle 3).supply.settleTimer.isSome = true
        ∧ 0 < (moving .moving 6000 (good .settle 3)).motion.rampedSpeed
        ∧ (after .settleEnd (moving .moving 6000 (good .settle 3))).motion.rampedSpeed = 0)
      ∧ ((good .normal 1).supply.stepDownTimer.isSome = true ∧ 0 < (good .normal 1).supply.shedLevel)
      ∧ (let s := consisted .ability run;
        { s with consist := { s.consist with negotiationTimer := none } }.consist.negotiationTimer = none
          ∧ ∃ o ∈ (s.consist.others.map fun o => { o with ability := none }), o.ability = none) := by
  decide

theorem witness_RestartsKeepWhatTheManualKeeps :
    ((good .hold 4).supply.state = .hold ∧ (good .hold 4).supply.holdTimer.isSome = true)
      ∧ (consisted .formed (good .hold 4)).consist.state ≠ .solo ∧ (good .hold 4).consist.state = .solo
      ∧ (after .jabber (good .hold 4)).air.transmitter = .quiet 2000
      ∧ (good .hold 4).air.transmitter = .idle ∧ (good .hold 4).sound.ambient = none
      ∧ (let s := { good .hold 4 with
            air := { run.air with statusTimer := some 3000 }
            sound := { run.sound with programs := [some (program 0 100)], ambient := some 0, beatTable := [some 5] } };
        let t := after .warmRestart s;
        t.air.statusTimer = some 1000 ∧ t.sound.ambient = some 0 ∧ t.sound.beatTable = [some 5]
          ∧ t.sound.voices.map (·.current.isSome) = [true, false, false, false] ∧ t.supply.goodCount = 20) := by
  decide

/-- A good and a bad record of each kind (records of zeros have the check 0), and the two commands that end the start. -/
theorem witness_TheColdStartLoadsAndQualifies :
    (let s := { State.reset with supply := { State.reset.supply with startCount := 100 } };
      s.command.partMode = .start ∧ 100 ≤ s.supply.startCount)
      ∧ (let s := { run with command := CommandUnit.cold };
        s.command.partMode = .start ∧ s.supply.loaded = true ∧ s.supply.state = .normal ∧ s.soundOnLevel = true
          ∧ s.consist.state = .solo ∧ s.motion.state = .idle)
      ∧ (goodRecord 6 (some [0x03#8, 0x59#8, 0x06#8, 0x5E#8, 0x00#8, 0xC0#8])).isSome = true
      ∧ (goodRecord 6 (some [0x03#8, 0x59#8, 0x06#8, 0x5E#8, 0x00#8, 0xC1#8])).isSome = false
      ∧ (goodRecord 217 (some (List.replicate 217 0#8))).isSome = true
      ∧ (goodRecord 217 (some (List.replicate 216 0#8 ++ [1#8]))).isSome = false
      ∧ (goodRecord 1319 (some (List.replicate 1319 0#8))).isSome = true
      ∧ (goodRecord 1319 (some (List.replicate 1318 0#8))).isSome = false := by
  decide +kernel

end Sys2Proof.Tests
end

section
/-! PROOFS. RELEASE and DIAG_QUERY (R25, R36): the dispatch of a head frame of the command's own kind, what the Command Unit
does with a RELEASE, and the two statements about whole commands. -/

namespace Sys2Proof.Machine

/-! ### The dispatch of a frame at the head (R5, R6) -/

/-- The frame is taken off the FIFO and acted upon; the rest of its dispatch is what the command's own unit does. -/
theorem State.HeadIs.dispatch {s : State} {f : RxFrame} {rest : List RxFrame} {kind : FrameKind} {cls : DestinationClass}
    (head : s.HeadIs f rest kind cls) (act : RxFrame → DestinationClass → Controller → Controller) :
    s.toController.dispatch kind act = act f cls (s.toController.onAir fun a => { a with rxFifo := rest }) := by
  obtain ⟨hfifo, hkind, hcls⟩ := head
  simp only [Controller.dispatch, hfifo, hkind, hcls, if_true]

theorem State.HeadIs.update_dispatch {s : State} {f : RxFrame} {rest : List RxFrame} {kind : FrameKind}
    {cls : DestinationClass} (head : s.HeadIs f rest kind cls)
    (act : RxFrame → DestinationClass → Controller → Controller) :
    s.update (·.dispatch kind act) = s.update fun c => act f cls (c.onAir fun a => { a with rxFifo := rest }) := by
  rw [State.update, head.dispatch act, State.update]

/-! ### What a RELEASE does to the binding (R25) -/

theorem DestinationClass.via_eq_some (cls : DestinationClass) (via : BoundVia) :
    cls.via = some via ↔ (cls = .own ∧ via = .own) ∨ (cls = .ownConsist ∧ via = .consist) := by
  cases cls <;> cases via <;> decide

theorem Controller.takeRelease_unbinds {c : Controller} {b : Binding} {cls : DestinationClass}
    (bound : c.command.binding = some b) (matching : cls.via = some b.via) :
    c.takeRelease b.throttle cls = c.onCommand fun u => { u with binding := none } := by
  simp only [Controller.takeRelease, bound, matching, and_self, if_true]

theorem Controller.takeRelease_ignored {c : Controller} {source : Nat} {cls : DestinationClass}
    (foreign : ∀ b, c.command.binding = some b → ¬(b.throttle = source ∧ cls.via = some b.via)) :
    c.takeRelease source cls = c := by
  unfold Controller.takeRelease
  split
  next b bound => exact if_neg (foreign b bound)
  next => rfl

/-! ### The commands -/

theorem exec_release_of_headIs {s : State} {f : RxFrame} {rest : List RxFrame} {cls : DestinationClass}
    (head : s.HeadIs f rest .release cls) :
    exec .release s
      = .next (s.update fun c => (c.onAir fun a => { a with rxFifo := rest }).takeRelease (frameSource f.bytes) cls) :=
  congrArg Host.Outcome.next (head.update_dispatch _)

theorem exec_diagQuery_of_headIs {s : State} {f : RxFrame} {rest : List RxFrame}
    (head : s.HeadIs f rest .diagQuery .own) :
    exec .diagQuery s
      = .next (s.update fun c => (c.onAir fun a => { a with rxFifo := rest }).fileDiag (frameSource f.bytes)) :=
  congrArg Host.Outcome.next (head.update_dispatch _)

/-- Settles O30: the bound throttle on the matching class takes the unbinding branch of R25, and a frame that misses the
binding in throttle or in class leaves the Command Unit alone. -/
theorem releaseUnbindsAndNothingElse : Obligations.ReleaseUnbindsAndNothingElse := by
  intro s f rest cls head
  rw [exec_release_of_headIs head]
  constructor
  · intro b bound throttle matching
    have unbinds := Controller.takeRelease_unbinds (c := s.toController.onAir fun a => { a with rxFifo := rest })
      bound ((cls.via_eq_some b.via).mpr matching)
    rw [State.update, ← throttle, unbinds]
    exact ⟨rfl, fun _ _ => rfl⟩
  · intro unmatched
    rw [State.update, Controller.takeRelease_ignored]
    · rfl
    rintro b (bound : s.command.binding = some b) ⟨throttle, via⟩
    rcases unmatched with unbound | ⟨b', bound', missed⟩
    · exact absurd (unbound.symm.trans bound) nofun
    · obtain rfl : b' = b := Option.some.inj (bound'.symm.trans bound)
      have matching := (cls.via_eq_some b'.via).mp via
      exact missed.elim (· throttle) (· matching)

/-- Settles O33: on the class OWN the query is filed in the DIAG_REPORT slot, where `TxSlot.file` keeps a waiting request, and
the frame's source becomes the querier (R36). -/
theorem diagQueryFilesAReportRequest : Obligations.DiagQueryFilesAReportRequest := by
  intro s f rest head
  rw [exec_diagQuery_of_headIs head]
  rfl

end Sys2Proof.Machine
end

section
/-! PROOFS. The own speed curve (R44): its value in each branch, the bounds it keeps between two points and over all of them,
and the statement about it. -/

namespace Sys2Proof.Machine

/-! ### The branches of the curve -/

@[simp] theorem ownCurve_zero (points : List Nat) : ownCurve points 0 = 0 := if_pos rfl

theorem ownCurve_of_le {points : List Nat} {step : Nat} (top : 96 ≤ step) : ownCurve points step = points.getD 16 0 := by
  rw [ownCurve, if_neg (by omega), if_pos top]

theorem ownCurve_of_lt {points : List Nat} {step : Nat} (moving : 0 < step) (below : step < 96) :
    ownCurve points step
      = points.getD (step / 6) 0
        + (points.getD (step / 6 + 1) 0 - points.getD (step / 6) 0) * (step % 6) / 6 := by
  rw [ownCurve, if_neg (by omega), if_neg (by omega)]

theorem ownCurve_six_mul (points : List Nat) {k : Nat} (moving : 0 < k) (bounded : k ≤ 16) :
    ownCurve points (6 * k) = points.getD k 0 := by
  rcases bounded.eq_or_lt with rfl | below
  · exact ownCurve_of_le le_rfl
  · rw [ownCurve_of_lt (by omega) (by omega), Nat.mul_div_cancel_left k (by decide), Nat.mul_mod_right, Nat.mul_zero,
      Nat.zero_div, Nat.add_zero]

/-! ### Between two neighbouring points -/

/-- Fewer than six sixths of a rise, rounded down, do not exceed the rise. -/
theorem sixths_le (rise step : Nat) : rise * (step % 6) / 6 ≤ rise :=
  Nat.div_le_of_le_mul (Nat.mul_comm 6 rise ▸ Nat.mul_le_mul_left rise (Nat.mod_lt step (by decide)).le)

/-- Between two points in order the curve stays between them. -/
theorem ownCurve_mem_Icc_of_lt {points : List Nat} {step : Nat} (moving : 0 < step) (below : step < 96)
    (rising : points.getD (step / 6) 0 ≤ points.getD (step / 6 + 1) 0) :
    ownCurve points step ∈ Set.Icc (points.getD (step / 6) 0) (points.getD (step / 6 + 1) 0) := by
  rw [ownCurve_of_lt moving below]
  have bound := sixths_le (points.getD (step / 6 + 1) 0 - points.getD (step / 6) 0) step
  exact ⟨Nat.le_add_right _ _, by omega⟩

/-- Where the points rise, the model's subtraction of naturals is the whole-number rise of R44. -/
theorem ownCurve_cast_of_lt {points : List Nat} {step : Nat} (moving : 0 < step) (below : step < 96)
    (rising : points.getD (step / 6) 0 ≤ points.getD (step / 6 + 1) 0) :
    (ownCurve points step : Int)
      = points.getD (step / 6) 0
        + ((points.getD (step / 6 + 1) 0 : Int) - points.getD (step / 6) 0) * (step % 6 : Nat) / 6 := by
  rw [ownCurve_of_lt moving below, Nat.cast_add, Int.natCast_div, Nat.cast_mul, Nat.cast_sub rising]
  rfl

/-! ### Over points in order -/

theorem getD_le_getD_of_pairwise {points : List Nat} (sorted : points.Pairwise (· ≤ ·)) {i j : Nat} (order : i ≤ j)
    (inside : j < points.length) : points.getD i 0 ≤ points.getD j 0 := by
  rw [List.getD_eq_getElem _ _ (order.trans_lt inside), List.getD_eq_getElem _ _ inside]
  exact sorted.sortedLE.getElem_le_getElem_of_le order

/-- Over points in order the curve lies between the first and the last: the two points around a step lie there themselves. -/
theorem ownCurve_mem_Icc {points : List Nat} (length : points.length = 17) (sorted : points.Pairwise (· ≤ ·)) {step : Nat}
    (moving : 0 < step) : ownCurve points step ∈ Set.Icc (points.getD 0 0) (points.getD 16 0) := by
  rcases Nat.lt_or_ge step 96 with below | top
  · have around := ownCurve_mem_Icc_of_lt moving below
      (getD_le_getD_of_pairwise sorted (Nat.le_succ (step / 6)) (by omega))
    exact Set.Icc_subset_Icc (getD_le_getD_of_pairwise sorted (Nat.zero_le _) (by omega))
      (getD_le_getD_of_pairwise sorted (by omega) (by omega)) around
  · rw [ownCurve_of_le top]
    exact Set.right_mem_Icc.mpr (getD_le_getD_of_pairwise sorted (Nat.zero_le 16) (by omega))

/-- Settles O45: the branches of `ownCurve` give the ends, the points and the sixths between them, and two neighbouring points
in order bound every step between them (R44). -/
theorem theOwnCurveInterpolatesInSixths : Obligations.TheOwnCurveInterpolatesInSixths := by
  intro points length
  exact ⟨ownCurve_zero points, ownCurve_of_le le_rfl, fun _ moving below => ownCurve_cast_of_lt moving below,
    fun _ moving bounded => ownCurve_six_mul points moving bounded,
    fun sorted _ moving _ => ownCurve_mem_Icc length sorted moving⟩

end Sys2Proof.Machine
end

section
/-! PROOFS. COUPLE as the Consist Unit judges it (R95, R96): what a well-formed list and a repeat are, one equation for each
answer of `judgeCouple` in the order of the rules, and the two statements about the whole command. -/

namespace Sys2Proof.Machine

/-! ### Well-formed lists (R95) -/

theorem noRepeats_iff_nodup (addresses : List Nat) : noRepeats addresses = true ↔ addresses.Nodup := by
  induction addresses with
  | nil => simp [noRepeats]
  | cons a rest ih => simp [noRepeats, ih]

/-- A list is malformed for its length, for an address named twice or for one that is no station's. -/
theorem listSound_eq_false_iff (members : List (Nat × Orientation)) :
    listSound members = false ↔
      members.length < 2 ∨ 4 < members.length ∨ ¬(members.map (·.1)).Nodup ∨
        ∃ m ∈ members, ¬(0x0001 ≤ m.1 ∧ m.1 ≤ 0x0FFF) := by
  have station (a : Nat) : isStationAddress a = false ↔ ¬(0x0001 ≤ a ∧ a ≤ 0x0FFF) := by
    simp only [isStationAddress, ← Bool.not_eq_true, Bool.and_eq_true, decide_eq_true_eq]
  simp only [listSound, Bool.and_eq_false_iff, decide_eq_false_iff_not, Nat.not_le, ← noRepeats_iff_nodup,
    Bool.not_eq_true, List.all_eq_false, station, or_assoc]

/-! ### Repeats (R96) -/

theorem ConsistUnit.isRepeat_iff (consistId : Nat) (members : List (Nat × Orientation)) (k : ConsistUnit) :
    k.isRepeat consistId members = true ↔
      k.state ≠ .solo ∧ ∃ m, k.membership = some m ∧ m.consistId = consistId ∧ m.members = members := by
  simp only [ConsistUnit.isRepeat, Bool.and_eq_true, bne_iff_ne, beq_iff_eq, Option.map_eq_some_iff, Prod.mk.injEq]

/-! ### Taking (R97) -/

@[simp] theorem Controller.startJoins_consist (c : Controller) :
    c.startJoins.consist = { c.consist with joinTimer := some 100 } := rfl

/-- Pinning, unbinding and unparking leave the consist record as the COUPLE, the new state and the JOIN timer make it. -/
theorem Controller.takeCouple_consist (consistId : Nat) (members : List (Nat × Orientation)) (c : Controller) :
    (c.takeCouple consistId members).consist =
      { state := .ability, membership := some (membershipOf consistId c.settings.ownAddress members), common := none,
        negotiationTimer := some 5000, joinTimer := some 100, renegotiationPending := false, consistFault := false,
        signalLossStop := false } := by
  simp only [Controller.takeCouple, apply_ite Controller.consist, Controller.unpark_frame, ite_self,
    Controller.startJoins_consist, Controller.setConsistState_consist, Controller.clearBinding_frame,
    Controller.pinAll_frame, Controller.onConsist_consist]

/-! ### The answers to a COUPLE, in the order of R95 and R96 -/

section
variable {c : Controller} {consistId : Nat} {members : List (Nat × Orientation)}

theorem Controller.judgeCouple_malformed (malformed : listSound members = false) :
    c.judgeCouple consistId members = c.countMalformed := by
  simp only [Controller.judgeCouple, malformed, Bool.not_false, if_true]

theorem Controller.judgeCouple_unlisted (sound : listSound members = true)
    (unlisted : c.settings.ownAddress ∉ members.map (·.1)) : c.judgeCouple consistId members = c := by
  simp only [Controller.judgeCouple, sound, List.contains_iff_mem, unlisted, Bool.not_true, Bool.not_eq_true',
    Bool.false_eq_true, if_false, ← Bool.not_eq_true, not_false_eq_true, if_true]

/-- A well-formed list with the own address comes to the judgement of R96. -/
theorem Controller.judgeCouple_listed (sound : listSound members = true)
    (listed : c.settings.ownAddress ∈ members.map (·.1)) :
    c.judgeCouple consistId members =
      if c.consist.isRepeat consistId members then c
      else if c.consist.state = .solo ∧ c.motion.state = .idle ∧ c.command.partMode ≠ .start then
        c.takeCouple consistId members
      else c.onLatches fun l => { l with coupleRefused := true } := by
  simp only [Controller.judgeCouple, sound, List.contains_iff_mem.mpr listed, Bool.not_true, Bool.false_eq_true, if_false]

theorem Controller.judgeCouple_repeated (sound : listSound members = true)
    (listed : c.settings.ownAddress ∈ members.map (·.1)) (again : c.consist.isRepeat consistId members = true) :
    c.judgeCouple consistId members = c := by
  rw [Controller.judgeCouple_listed sound listed, if_pos again]

theorem Controller.judgeCouple_refused (sound : listSound members = true)
    (listed : c.settings.ownAddress ∈ members.map (·.1)) (anew : ¬c.consist.isRepeat consistId members = true)
    (refused : ¬(c.consist.state = .solo ∧ c.motion.state = .idle ∧ c.command.partMode ≠ .start)) :
    c.judgeCouple consistId members = c.onLatches fun l => { l with coupleRefused := true } := by
  rw [Controller.judgeCouple_listed sound listed, if_neg anew, if_neg refused]

theorem Controller.judgeCouple_taken (sound : listSound members = true)
    (listed : c.settings.ownAddress ∈ members.map (·.1)) (anew : ¬c.consist.isRepeat consistId members = true)
    (taken : c.consist.state = .solo ∧ c.motion.state = .idle ∧ c.command.partMode ≠ .start) :
    c.judgeCouple consistId members = c.takeCouple consistId members := by
  rw [Controller.judgeCouple_listed sound listed, if_neg anew, if_pos taken]

end

/-! ### The command -/

theorem DestinationClass.isConsist_iff (cls : DestinationClass) :
    cls.isConsist = true ↔ cls = .ownConsist ∨ cls = .otherConsist := by
  cases cls <;> decide

theorem exec_couple_of_headIs {s : State} {f : RxFrame} {rest : List RxFrame} {cls : DestinationClass}
    (head : s.HeadIs f rest .couple cls) (consist : cls = .ownConsist ∨ cls = .otherConsist) :
    exec .couple s
      = .next (s.update fun c => (c.onAir fun a => { a with rxFifo := rest }).judgeCouple (byteAt (payloadOf f.bytes) 0)
          (coupleMembers (payloadOf f.bytes))) := by
  refine congrArg Host.Outcome.next ((head.update_dispatch _).trans ?_)
  simp only [(cls.isConsist_iff).mpr consist, if_true]

/-- Settles O37: with the own address in a well-formed list the three answers are the three branches of R96; the taking
leaves the latches and records the new state and the consist id. -/
theorem coupleIsRepeatedRefusedOrTaken : Obligations.CoupleIsRepeatedRefusedOrTaken := by
  intro s f rest cls head consist members sound listed repeated takes
  have isRepeat : s.consist.isRepeat (byteAt (payloadOf f.bytes) 0) members = true ↔ repeated :=
    ConsistUnit.isRepeat_iff ..
  rw [exec_couple_of_headIs head consist, State.update]
  refine ⟨fun again => ?_, fun anew refused => ?_, fun anew taken => ?_⟩
  · rw [Controller.judgeCouple_repeated (c := s.toController.onAir _) sound listed (isRepeat.mpr again)]
    rfl
  · rw [Controller.judgeCouple_refused (c := s.toController.onAir _) sound listed (mt isRepeat.mp anew) refused]
    rfl
  · rw [Controller.judgeCouple_taken (c := s.toController.onAir _) sound listed (mt isRepeat.mp anew) taken]
    refine ⟨_, rfl, ?_, ?_, ?_⟩
    · rw [Controller.takeCouple_consist]
    · simp only [Controller.takeCouple_frame, Controller.onAir_latches]
    · rw [Controller.takeCouple_consist]
      rfl

/-- Settles O36: the list is judged before the consist state and the own address are looked at, and the own address before the
consist record is (R95). -/
theorem malformedMemberListsAreCounted : Obligations.MalformedMemberListsAreCounted := by
  intro s f rest cls head consist members malformed
  have unsound : listSound members = false ↔ malformed := listSound_eq_false_iff members
  rw [exec_couple_of_headIs head consist, State.update]
  refine ⟨fun bad => ?_, fun good unlisted => ?_⟩
  · rw [Controller.judgeCouple_malformed (unsound.mpr bad)]
    rfl
  · have sound : listSound members = true := (Bool.not_eq_false _).mp (mt unsound.mp good)
    rw [Controller.judgeCouple_unlisted (c := s.toController.onAir _) sound unlisted]
    rfl

end Sys2Proof.Machine
end

section
/-! PROOFS. What one step can do to the part, said once (`step_acts`): which operation it applies, under which guard. Every
invariant of Safety.lean is proved from this inversion, not from `exec`. -/

namespace Sys2Proof.Machine

/-! ### The frame at the head of the FIFO (R6) -/

/-- What the unit that a frame is handed to makes of the part `c`, from which the frame has been taken. -/
inductive Controller.TakesFrame (c : Controller) : Controller → Prop where
  | ignores : c.TakesFrame c
  | drives (d : DriveFrame) (cls : DestinationClass) : c.TakesFrame (c.takeDrive d cls)
  | releases (source : Nat) (cls : DestinationClass) : c.TakesFrame (c.takeRelease source cls)
  | halts (source number : Nat) : c.TakesFrame (c.takeHalt source number)
  | calibrates (source : Nat) : c.TakesFrame (c.takeCalibrate source)
  | answers (querier : Nat) : c.TakesFrame (c.fileDiag querier)
  | couples (consistId : Nat) (members : List (Nat × Orientation)) : c.TakesFrame (c.judgeCouple consistId members)
  | uncouples : c.TakesFrame c.dissolve
  | joins (f : RxFrame) (cls : DestinationClass) : c.TakesFrame (c.dispatchJoin f cls)
  | hears (f : RxFrame) : c.TakesFrame (c.dispatchStatus f)
  | passes (f : RxFrame) : c.TakesFrame (c.dispatchMarker f)

/-- The part without the head frame of its FIFO. -/
def Controller.withFifo (rest : List RxFrame) (c : Controller) : Controller := c.onAir fun a => { a with rxFifo := rest }

/-! ### One step -/

/-- What one step makes of the part `c`: the operation of a command, under the guard that the command sets, the passing of a
millisecond, or nothing. -/
inductive Controller.Acts (c : Controller) : Controller → Prop where
  | nothing : c.Acts c
  | millisecond : c.Acts c.millisecond
  | receives (f : RxFrame) : c.Acts (c.receiveFrame f)
  | dispatches (f : RxFrame) (rest : List RxFrame) (d : Controller) (head : c.air.rxFifo = f :: rest)
      (takes : (c.withFifo rest).TakesFrame d) : c.Acts d
  | agesPeers : c.Acts (c.onPeers agePeers)
  | opensWindow : c.Acts (c.onAir (·.openWindow))
  | chargesBusy (kind : TxKind) : c.Acts (c.chargeBusy kind)
  | transmits (kind : TxKind) : c.Acts (c.beginTransmission kind)
  | handsOver (t : Transmission) (feeding : c.air.feeding = some t) : c.Acts (c.handOver t)
  | endsTransmission : c.Acts (c.onAir (·.endTransmission))
  | failsTransmission (t : Transmission) (feeding : c.air.feeding = some t) : c.Acts (c.failTransmission t)
  | cutsOff (t : Transmission) (feeding : c.air.feeding = some t) :
      c.Acts ((c.onAir fun a => { a with transmitActive := false }).failTransmission t)
  | quiets : c.Acts (c.onAir (·.enterQuiet)).countJabber
  | leavesQuiet : c.Acts (c.onAir (·.leaveQuiet))
  | fallsInQuiet (left : Nat) : c.Acts (c.onAir (·.fallInQuiet left))
  | reportsAtInterval : c.Acts (c.fileStatus.onAir fun a => { a with statusTimer := some c.statusInterval })
  | losesThrottle (b : Binding) (bound : c.command.binding = some b) : c.Acts (c.expireSupervision b)
  | parks (running : c.command.partMode = .run) : c.Acts c.enterParked
  | regulates (bemf current : Nat) (started : c.command.partMode ≠ .start) : c.Acts (c.controlPeriod bemf current)
  | losesBlock : c.Acts c.staleBlock
  | stalls (stalled : 400 ≤ c.motion.stallCount) : c.Acts c.latchStall
  | overloads : c.Acts (c.latchFault .driveFault)
  | measures (r : CalRecord) (spun : c.motion.state = .calibrating .spinup) : c.Acts (c.setCalibration .measure r)
  | stores (r : CalRecord) (measured : c.motion.state = .calibrating .measure) : c.Acts (c.beginStore r)
  | refuses (measured : c.motion.state = .calibrating .measure) : c.Acts c.refuseCalibration
  | writes : c.Acts c.writeComplete
  | failsToWrite : c.Acts c.writeTimeout
  | pulses (started : c.command.partMode ≠ .start) (fitted : c.settings.sensorFitted = true) :
      c.Acts c.settleBeats.acceptPulse
  | recoversSensor (sound : c.beat.recovered = true) : c.Acts c.recoverSensor
  | ticksBeat : c.Acts c.beatTick
  | failsSensor (faulty : c.beat.faultFound = true) : c.Acts c.failSensor
  | beats (timedOut : c.beatTimedOut = true) : c.Acts c.timedBeat
  | failsNegotiation (negotiating : c.consist.state.negotiating = true) : c.Acts c.failNegotiation
  | joinsAgain (negotiating : c.consist.state.negotiating = true) : c.Acts c.startJoins
  | missesMember (address : Nat) : c.Acts (c.expireMember address)
  | samples : c.Acts c.outputInstant
  | grants : c.Acts (c.onSound (·.grantFill))
  | fills (samples : List Byte) : c.Acts (c.onSound (·.completeFill samples))
  | smokes (reading : Nat) (started : c.command.partMode ≠ .start) : c.Acts (c.smokeTick reading)
  | purges (heating : c.smoke.state = .heating) : c.Acts c.startPurge
  | endsPurge (purging : c.smoke.state = .purge) : c.Acts c.endPurge
  | endsPuff (ready : c.smoke.state = .ready) : c.Acts c.endPuff
  | ticksLights : c.Acts c.lightTick
  | endsFlare : c.Acts c.endFlare
  | samplesSupply (vin vres : Nat) : c.Acts (c.supplyTick vin vres)
  | dropsOut (started : c.command.partMode ≠ .start) (supplied : c.supply.state = .normal ∨ c.supply.state = .settle) :
      c.Acts c.detectDropout
  | picksUp (dropped : c.supply.state = .dropout) : c.Acts c.supplyNormal
  | endsHold (holding : c.supply.state = .hold) : c.Acts c.endHold
  | settles (settling : c.supply.state = .settle) : c.Acts c.supplyNormal.reseat
  | stepsDown (normal : c.supply.state = .normal) : c.Acts c.stepDown
  | restarts (holding : c.supply.state = .hold) : c.Acts c.warmRestart
  | brownsOut : c.Acts c.brownout
  | startsCold (config calibration directory : Option (List Byte)) (mark : Bool) :
      c.Acts (c.coldStart config calibration directory mark)
  | qualifies (starting : c.command.partMode = .start) : c.Acts c.qualifySupply
  | runs (starting : c.command.partMode = .start) (normal : c.supply.state = .normal) : c.Acts c.enterRun

/-- An operation that a command applies under a condition. -/
theorem Controller.Acts.ite {c d : Controller} {p : Prop} [Decidable p] (acts : p → c.Acts d) : c.Acts (if p then d else c) := by
  split
  · exact acts ‹p›
  · exact .nothing

/-- A dispatch acts on the head frame, where it is of the command's kind. -/
theorem Controller.Acts.dispatch {c : Controller} (kind : FrameKind) (act : RxFrame → DestinationClass → Controller → Controller)
    (acts : ∀ f cls (d : Controller), d.TakesFrame (act f cls d)) : c.Acts (c.dispatch kind act) := by
  unfold Controller.dispatch
  split
  · exact .nothing
  · next f rest head => exact .ite fun _ => .dispatches f rest _ head (acts ..)

/-- A unit takes a frame on some destination classes only. -/
theorem Controller.TakesFrame.ite {c d : Controller} {p : Prop} [Decidable p] (takes : c.TakesFrame d) :
    c.TakesFrame (if p then d else c) := by
  split
  · exact takes
  · exact .ignores

/-- Every command applies one of the operations. -/
theorem exec_acts {i : Instr} {s t : State} (next : exec i s = .next t) : s.toController.Acts t.toController := by
  cases i <;> cases next <;> simp only [State.update_toController]
  case frameDelivered bytes strength => exact .receives _
  case drive => exact .dispatch _ _ fun _ _ _ => .drives ..
  case release => exact .dispatch _ _ fun _ _ _ => .releases ..
  case halt => exact .dispatch _ _ fun _ _ _ => .ite (.halts ..)
  case calibrate => exact .dispatch _ _ fun _ _ _ => .ite (.calibrates _)
  case diagQuery => exact .dispatch _ _ fun _ _ _ => .ite (.answers _)
  case couple => exact .dispatch _ _ fun _ _ _ => .ite (.couples ..)
  case uncouple => exact .dispatch _ _ fun _ _ _ => .ite .uncouples
  case join => exact .dispatch _ _ fun _ _ _ => .joins ..
  case status => exact .dispatch _ _ fun _ _ _ => .hears _
  case marker => exact .dispatch _ _ fun _ _ _ => .passes _
  case diagReportDiscarded => exact .dispatch _ _ fun _ _ _ => .ignores
  case peerAgeTick =>
    split
    · exact .nothing
    · exact .agesPeers
  case listenStart => exact .ite fun _ => .opensWindow
  case listenWindowEnd busy =>
    split
    · split
      · exact .chargesBusy _
      · exact .transmits _
    · exact .nothing
  case backoffEnd =>
    split
    · exact .opensWindow
    · exact .nothing
  case frameHandover =>
    split
    · next t feeding => exact .handsOver t feeding
    · exact .nothing
  case transmissionEnd =>
    split
    · exact .ite fun _ => .endsTransmission
    · exact .nothing
  case txActiveTimeout =>
    split
    · next t feeding => exact .failsTransmission t feeding
    · exact .nothing
  case txCutOff =>
    split
    · next t feeding => exact .cutsOff t feeding
    · exact .nothing
  case jabber =>
    split
    · exact .nothing
    · exact .quiets
  case quietEnd => exact .ite fun _ => .leavesQuiet
  case statusIntervalExpiry =>
    split
    · exact .reportsAtInterval
    · exact .nothing
  case supervisionExpiry =>
    split
    · next b bound => exact .losesThrottle b bound
    · exact .nothing
  case parkDelayExpiry => exact .ite fun h => .parks h.1
  case controlPeriod bemf sum =>
    split
    · exact .nothing
    · next started => exact .regulates _ _ started
  case blockStale => exact .ite fun _ => .losesBlock
  case stallLatch => exact .ite .stalls
  case hardCurrentSample sample => exact .ite fun _ => .overloads
  case spinupEnd =>
    split
    · next spun _ => exact .ite fun _ => .measures _ spun
    · exact .nothing
  case measureEnd =>
    split
    · next measured _ =>
      refine .ite fun _ => ?_
      split
      · exact .stores _ measured
      · exact .refuses measured
    · exact .nothing
  case writeComplete => exact .writes
  case writeTimeout => exact .failsToWrite
  case wheelPulse => exact .ite fun h => .pulses h.1 h.2.1
  case sensorRecovery => exact .ite .recoversSensor
  case beatMsTick => exact .ticksBeat
  case sensorFault => exact .ite .failsSensor
  case intervalTimerExpiry => exact .ite .beats
  case negotiationTimeout => exact .ite fun h => .failsNegotiation h.1
  case joinTimerExpiry => exact .ite fun h => .joinsAgain h.1
  case memberTimerExpiry address =>
    split
    · exact .ite fun _ => .missesMember address
    · exact .nothing
  case outputSample => exact .samples
  case fillGrant => exact .grants
  case fillComplete samples => exact .fills samples
  case smokeSample reading =>
    split
    · exact .nothing
    · next started => exact .smokes _ started
  case heatUpTimeout => exact .ite fun h => .purges h.1
  case purgeEnd => exact .ite fun h => .endsPurge h.1
  case puffEnd => exact .ite fun h => .endsPuff h.1
  case lightMsTick => exact .ticksLights
  case flareEnd => exact .ite fun _ => .endsFlare
  case supplySample vin vres => exact .samplesSupply ..
  case dropoutDetected => exact .ite fun h => .dropsOut h.1 h.2.2
  case pickupReturn => exact .ite fun h => .picksUp h.1
  case holdEnd => exact .ite fun h => .endsHold h.1
  case settleEnd => exact .ite fun h => .settles h.1
  case stepDownExpiry => exact .ite fun h => .stepsDown h.1
  case warmRestart => exact .ite fun h => .restarts h.1
  case brownout => exact .brownsOut
  case coldStart => exact .startsCold ..
  case startupQualified => exact .ite fun h => .qualifies h.1
  case coldStartEnd => exact .ite fun h => .runs h.1 h.2.2
  case transmitActiveFallInQuiet =>
    split
    · exact .fallsInQuiet _
    · exact .nothing

/-- A step runs the front command, or queues a due event, or lets a millisecond pass. -/
theorem step_acts {s t : State} (next : step s = .next t) : s.toController.Acts t.toController := by
  unfold step State.idleStep at next
  split at next
  · split at next <;> cases next
    · exact .nothing
    · exact .millisecond
  · next i rest _ => exact exec_acts (s := { s with pending := rest }) next

/-- An invariant that every operation keeps is kept by every step. -/
theorem step_keeps {P : Controller → Prop} (acts : ∀ {c d : Controller}, P c → c.Acts d → P d) {s t : State}
    (before : P s.toController) (next : step s = .next t) : P t.toController :=
  acts before (step_acts next)

/-! ### The control period in stages (R43) -/

/-- The part as a control period begins (R47). -/
def Controller.begun (c : Controller) : Controller := c.onMotion fun m => { m with block := m.block.older }

/-- The part once the direction and ramp stages have run (R51 to R55). -/
def Controller.ramped (c : Controller) : Controller := c.begun.directionStage.rampStage c.begun.reversalWaiting

theorem Controller.controlPeriod_eq (bemf current : Nat) (c : Controller) :
    c.controlPeriod bemf current =
      ((c.ramped.measurementStage bemf).limitsStage current).calibrationStage.labourStage.judgeLights.judgeRenegotiation :=
  rfl

@[simp] theorem Controller.ramped_frame (c : Controller) :
    c.ramped.settings = c.settings ∧ c.ramped.beat = c.beat ∧ c.ramped.consist = c.consist ∧ c.ramped.smoke = c.smoke ∧
      c.ramped.light = c.light ∧ c.ramped.supply = c.supply ∧ c.ramped.counters = c.counters ∧
      c.ramped.latches = c.latches ∧ c.ramped.command.partMode = c.command.partMode ∧
      c.ramped.air.rxFifo = c.air.rxFifo := by
  simp [Controller.ramped, Controller.begun]

/-! ### What the moves of the supply leave (R165 to R168) -/

@[simp] theorem Controller.setSupplyState_supply (state : SupplyState) (c : Controller) :
    (c.setSupplyState state).supply = { c.supply with state := state } := by
  cases state <;> simp [Controller.setSupplyState]

/-- Only a return to NORMAL reaches the consist record (R120). -/
theorem Controller.setSupplyState_consist {state : SupplyState} (leaves : state ≠ .normal) (c : Controller) :
    (c.setSupplyState state).consist = c.consist := by
  cases state with
  | normal => exact absurd rfl leaves
  | dropout | hold | settle => simp [Controller.setSupplyState]

@[simp] theorem Controller.enterHold_consist (c : Controller) : c.enterHold.consist = c.consist := by
  simp [Controller.enterHold, Controller.setSupplyState_consist]

@[simp] theorem Controller.judgeLadder_consist (c : Controller) : c.judgeLadder.consist = c.consist := by
  unfold Controller.judgeLadder
  dsimp only
  split <;> simp

@[simp] theorem Controller.supplyTick_consist (vin vres : Nat) (c : Controller) :
    (c.supplyTick vin vres).consist = c.consist := by
  unfold Controller.supplyTick
  dsimp only
  split_ifs <;> simp

@[simp] theorem Controller.detectDropout_consist (c : Controller) : c.detectDropout.consist = c.consist := by
  simp [Controller.detectDropout, Controller.setSupplyState_consist]

@[simp] theorem Controller.endHold_consist (c : Controller) : c.endHold.consist = c.consist := by
  simp [Controller.endHold, Controller.setSupplyState_consist]

/-! ### The warm restart in stages (R171) -/

/-- The part once every unit but the lights has performed its part of a warm restart, before the ambient trigger. -/
def Controller.restarted (c : Controller) : Controller :=
  let motion := (((c.onAir (·.warm)).onCommand (·.warm)).onLight (·.warm)).onMotion (·.warm)
  let consist := ((motion.setMotionState .idle).onBeat (·.warm c.settings.preload)).warmConsist
  (((consist.onSound (·.warm)).changeSmoke (·.warm)).onSupply (·.warm)).fileStatus

theorem Controller.warmRestart_eq (c : Controller) : c.warmRestart = c.restarted.triggerAmbient.judgeLights := by
  simp [Controller.warmRestart, Controller.restarted]

/-- The Consist Unit's part of a warm restart looks at the consist record alone. -/
theorem Controller.warmConsist_congr {c d : Controller} (same : c.consist = d.consist) :
    c.warmConsist.consist = d.warmConsist.consist := by
  unfold Controller.warmConsist
  rw [same]
  split
  · exact same
  · simp [same]

@[simp] theorem Controller.warmRestart_consist (c : Controller) : c.warmRestart.consist = c.warmConsist.consist := by
  simp only [Controller.warmRestart_eq, Controller.restarted, Controller.judgeLights_frame, Controller.triggerAmbient_frame,
    Controller.fileStatus_frame, Controller.onSupply_consist, Controller.changeSmoke_frame, Controller.onSound_consist]
  exact Controller.warmConsist_congr (by simp)

/-! ### What comes before a pulse (R90, R92) -/

/-- What a fault, a recovery and a timed beat keep, each where it stands, the taking of all three keeps. -/
theorem settleBeats_keeps {P : Controller → Prop} {c : Controller} (before : P c)
    (fails : c.beat.faultFound = true → P c.failSensor)
    (recovers : ∀ {d : Controller}, P d → d.beat.recovered = true → P d.recoverSensor)
    (beats : ∀ {d : Controller}, P d → P d.timedBeat) : P c.settleBeats := by
  have judged : P (if c.beat.faultFound then c.failSensor else c) := by
    split
    · next faulty => exact fails faulty
    · exact before
  unfold Controller.settleBeats
  generalize (if c.beat.faultFound then c.failSensor else c) = e at judged ⊢
  have sound : P (if e.beat.recovered then e.recoverSensor else e) := by
    split
    · next recovered => exact recovers judged recovered
    · exact judged
  dsimp only
  generalize (if e.beat.recovered then e.recoverSensor else e) = f at sound ⊢
  split
  · exact beats sound
  · exact sound

/-! ### The machine as a whole -/

/-- Settles O1: the second branch of `step`. -/
theorem stepRunsTheFrontCommand : Obligations.StepRunsTheFrontCommand := by
  intro s i rest waiting
  rw [step, waiting]

/-- Settles O2: each command is one change of the part, with the queue left alone. -/
theorem everyCommandHasANextState : Obligations.EveryCommandHasANextState := fun i s => by
  cases i <;> exact ⟨_, rfl, rfl⟩

end Sys2Proof.Machine
end

section
/-! PROOFS. The Beat Counter keeps its counter, phase and mode in range and in agreement (chapter 5). -/

namespace Sys2Proof.Machine

/-! ### What the operations make of the Beat Counter -/

theorem Controller.emitBeat_beat (c : Controller) :
    c.emitBeat.beat = { c.beat.space with phase := (c.beat.phase + 1) % c.settings.beatsPerRevolution } := by
  simp [Controller.emitBeat, BeatCounter.space]

theorem Controller.failSensor_beat (c : Controller) :
    c.failSensor.beat =
      { c.beat with
        sensor := .fault, mode := .interval, faultWatch := 0, goodPulses := 0
        intervalTimer := startInterval c.settings.beatConstant c.motion.measuredSpeed } := by
  simp [Controller.failSensor]

theorem Controller.recoverSensor_beat (c : Controller) :
    c.recoverSensor.beat =
      { c.beat with
        sensor := .ok, mode := .event, counter := c.settings.preload, intervalTimer := none, faultWatch := 0
        goodPulses := 0 } := by
  simp [Controller.recoverSensor]

theorem BeatCounter.faultFound_iff (b : BeatCounter) :
    b.faultFound = true ↔ b.mode = .event ∧ b.sensor = .ok ∧ 2000 ≤ b.faultWatch := by
  simp [BeatCounter.faultFound, and_assoc]

theorem BeatCounter.recovered_iff (b : BeatCounter) : b.recovered = true ↔ b.sensor = .fault ∧ 8 ≤ b.goodPulses := by
  simp [BeatCounter.recovered]

/-- A measurement is not a judgement: counter, phase, mode and status stand (R84). -/
theorem BeatCounter.measure_judgement (distance : Nat) (b : BeatCounter) :
    (b.measure distance).counter = b.counter ∧ (b.measure distance).phase = b.phase ∧
      (b.measure distance).mode = b.mode ∧ (b.measure distance).sensor = b.sensor := by
  unfold BeatCounter.measure
  split <;> exact ⟨rfl, rfl, rfl, rfl⟩

theorem BeatCounter.decay_judgement (distance : Nat) (b : BeatCounter) :
    (b.decay distance).counter = b.counter ∧ (b.decay distance).phase = b.phase ∧
      (b.decay distance).mode = b.mode ∧ (b.decay distance).sensor = b.sensor := by
  unfold BeatCounter.decay
  split <;> exact ⟨rfl, rfl, rfl, rfl⟩

/-! ### The invariant, operation by operation -/

namespace Controller.BeatSound

variable {c d : Controller}

theorem preload_pos (h : c.BeatSound) : 1 ≤ c.settings.preload := h.low.trans h.high

theorem beats_pos (h : c.BeatSound) : 0 < c.settings.beatsPerRevolution := h.phase.pos

/-- A new counter and a new phase within their ranges, with mode and sensor left alone. -/
theorem recount (h : c.BeatSound) (settings : d.settings = c.settings)
    (counter : 1 ≤ d.beat.counter ∧ d.beat.counter ≤ c.settings.preload)
    (phase : d.beat.phase < c.settings.beatsPerRevolution) (mode : d.beat.mode = c.beat.mode)
    (sensor : d.beat.sensor = c.beat.sensor) : d.BeatSound where
  low := counter.1
  high := settings ▸ counter.2
  beats := settings ▸ h.beats
  phase := settings ▸ phase
  mode := by rw [settings, mode, sensor]; exact h.mode
  unfitted := by rw [settings, sensor]; exact h.unfitted

theorem of_eq (h : c.BeatSound) (settings : d.settings = c.settings) (beat : d.beat = c.beat) : d.BeatSound :=
  h.recount settings (beat ▸ ⟨h.low, h.high⟩) (beat ▸ h.phase) (beat ▸ rfl) (beat ▸ rfl)

theorem emitBeat (h : c.BeatSound) : c.emitBeat.BeatSound := by
  refine h.recount (by simp) ?_ ?_ ?_ ?_ <;> rw [Controller.emitBeat_beat]
  · exact ⟨h.low, h.high⟩
  · exact Nat.mod_lt _ h.beats_pos
  · rfl
  · rfl

theorem timedBeat (h : c.BeatSound) : c.timedBeat.BeatSound :=
  h.emitBeat.recount rfl ⟨h.emitBeat.low, h.emitBeat.high⟩ h.emitBeat.phase rfl rfl

/-- A fault is found in EVENT mode only, so the sensor is a fitted one (R91). -/
theorem failSensor (h : c.BeatSound) (faulty : c.beat.faultFound = true) : c.failSensor.BeatSound := by
  have fitted : c.settings.sensorFitted = true := (h.mode.mp ((c.beat.faultFound_iff).mp faulty).1).1
  constructor <;> simp only [Controller.failSensor_beat, Controller.failSensor_frame]
  · exact h.low
  · exact h.high
  · exact h.beats
  · exact h.phase
  · simp
  · simp [fitted]

/-- Only a fitted sensor is in FAULT, so EVENT mode is its mode again (R92). -/
theorem recoverSensor (h : c.BeatSound) (sound : c.beat.recovered = true) : c.recoverSensor.BeatSound := by
  have fitted : c.settings.sensorFitted = true := by
    by_contra bare
    have ok := h.unfitted (by simpa using bare)
    exact absurd (ok.symm.trans ((c.beat.recovered_iff).mp sound).1) nofun
  constructor <;> simp only [Controller.recoverSensor_beat, Controller.recoverSensor_frame]
  · exact h.preload_pos
  · exact le_rfl
  · exact h.beats
  · exact h.phase
  · simp [fitted]
  · simp

theorem settleBeats (h : c.BeatSound) : c.settleBeats.BeatSound :=
  settleBeats_keeps h h.failSensor recoverSensor timedBeat

/-- A counted pulse reloads the counter at 1 and lowers it above (R87). -/
theorem countPulse (h : c.BeatSound) : c.countPulse.BeatSound := by
  unfold Controller.countPulse
  split
  · exact emitBeat (h.recount rfl ⟨h.preload_pos, le_rfl⟩ h.phase rfl rfl)
  · next above =>
    have low := h.low
    have high := h.high
    exact h.recount rfl ⟨by simp only [onBeat_beat]; omega, by simp only [onBeat_beat]; omega⟩ h.phase rfl rfl

theorem acceptPulse (h : c.BeatSound) : c.acceptPulse.BeatSound := by
  obtain ⟨counter, phase, mode, sensor⟩ := c.beat.measure_judgement c.settings.pulseDistance
  have measured : (c.onBeat (·.measure c.settings.pulseDistance)).BeatSound :=
    h.recount rfl (by simp only [onBeat_beat, counter]; exact ⟨h.low, h.high⟩) (phase.trans_lt h.phase) mode sensor
  unfold Controller.acceptPulse
  split
  · exact measured.recount rfl ⟨measured.low, measured.high⟩ measured.phase rfl rfl
  · split
    · exact measured.countPulse
    · exact measured

theorem beatTick (h : c.BeatSound) : c.beatTick.BeatSound := by
  obtain ⟨counter, phase, mode, sensor⟩ := c.beat.decay_judgement c.settings.pulseDistance
  have aged : (c.onBeat fun b =>
      { b.decay c.settings.pulseDistance with now := b.now + 1, beatAge := b.beatAge.map (saturatingSucc 65535) }).BeatSound :=
    h.recount rfl (by simp only [onBeat_beat, counter]; exact ⟨h.low, h.high⟩) (phase.trans_lt h.phase) mode sensor
  unfold Controller.beatTick
  dsimp only
  split
  · exact aged
  · exact aged.recount rfl ⟨aged.low, aged.high⟩ aged.phase rfl rfl

theorem warm (h : c.BeatSound) (settings : d.settings = c.settings) (beat : d.beat = c.beat.warm c.settings.preload) :
    d.BeatSound :=
  h.recount settings (beat ▸ ⟨h.preload_pos, le_rfl⟩) (beat ▸ h.beats_pos) (beat ▸ rfl) (beat ▸ rfl)

/-- The Beat Counter at cold start under settings in their ranges (R93, R175). -/
theorem cold (preload : 1 ≤ c.settings.preload)
    (beats : c.settings.beatsPerRevolution = 2 ∨ c.settings.beatsPerRevolution = 4)
    (beat : c.beat = BeatCounter.cold c.settings) : c.BeatSound := by
  constructor
  · rw [beat]; exact preload
  · rw [beat]; exact le_rfl
  · exact beats
  · rw [beat]; exact (by omega : 0 < c.settings.beatsPerRevolution)
  · simp [beat, BeatCounter.cold]
  · simp [beat, BeatCounter.cold]

end Controller.BeatSound

/-- The settings a cold start loads keep the ranges of section 11.5 that the Beat Counter rests on. -/
theorem settingsOf_beatRanges (bs : List Byte) :
    1 ≤ (settingsOf bs).preload ∧ ((settingsOf bs).beatsPerRevolution = 2 ∨ (settingsOf bs).beatsPerRevolution = 4) := by
  refine ⟨(clampNat_le (by decide) _).1, ?_⟩
  simp only [settingsOf]
  split <;> simp

theorem Controller.coldStart_beatSound (config calibration directory : Option (List Byte)) (mark : Bool) (c : Controller) :
    (c.coldStart config calibration directory mark).BeatSound := by
  have ranges : ∀ cfg : Option (List Byte), 1 ≤ ((cfg.map settingsOf).getD Settings.builtIn).preload ∧
      (((cfg.map settingsOf).getD Settings.builtIn).beatsPerRevolution = 2 ∨
        ((cfg.map settingsOf).getD Settings.builtIn).beatsPerRevolution = 4) := by
    intro cfg
    cases cfg with
    | none => decide
    | some bs => exact settingsOf_beatRanges bs
  exact .cold (ranges _).1 (ranges _).2 rfl

theorem Controller.BeatSound.acts {c d : Controller} (h : c.BeatSound) (acts : c.Acts d) : d.BeatSound := by
  cases acts with
  | dispatches f rest d head takes =>
    have k : (c.withFifo rest).BeatSound := h.of_eq rfl rfl
    cases takes <;> exact k.of_eq (by simp) (by simp)
  | pulses => exact h.settleBeats.acceptPulse
  | recoversSensor sound => exact h.recoverSensor sound
  | ticksBeat => exact h.beatTick
  | failsSensor faulty => exact h.failSensor faulty
  | beats => exact h.timedBeat
  | restarts => exact h.warm (by simp) (by simp [Controller.warmRestart])
  | brownsOut => exact .cold (show 1 ≤ Settings.builtIn.preload by decide) (.inr rfl) rfl
  | startsCold => exact c.coldStart_beatSound ..
  | _ => exact h.of_eq (by simp) (by simp)

/-- Settles O9: `Controller.BeatSound.acts` for every operation. -/
theorem everyStepKeepsTheBeatCounterInRange : Obligations.EveryStepKeepsTheBeatCounterInRange :=
  fun _ _ sound next => step_keeps Controller.BeatSound.acts sound next

end Sys2Proof.Machine
end

section
/-! PROOFS. Every resume stack holds at most two entries, and a trigger is pending only on a SOUNDING voice (R127, R128). -/

namespace Sys2Proof.Machine

/-! ### One voice -/

theorem Voice.setHalf_unchanged (v : Voice) (half : HalfId) (buffer : HalfBuffer) :
    (v.setHalf half buffer).stack = v.stack ∧ (v.setHalf half buffer).pending = v.pending ∧
      (v.setHalf half buffer).current = v.current := by
  cases half <;> exact ⟨rfl, rfl, rfl⟩

/-- Letting go marks stack entries and may drop the pending trigger; the playing goes on (R129). -/
theorem Voice.release_unchanged (p : Program) (n : Nat) (v : Voice) :
    (v.release p n).stack.length = v.stack.length ∧ ((v.release p n).pending.isSome = true → v.pending.isSome = true) ∧
      (v.release p n).current = v.current := by
  have playing : (v.release p n).current = v.current ∧
      (v.release p n).stack = v.stack.map (fun e =>
        if e.program = n ∧ e.repeating then { e with repeating := false, releaseDue := true } else e) ∧
      (v.release p n).pending = (match v.pending with
        | some t => if t.program = n then none else some t
        | none => none) := by
    unfold Voice.release
    cases current : v.current with
    | none => exact ⟨current, rfl, rfl⟩
    | some cur =>
      dsimp only
      split
      · exact ⟨rfl, rfl, rfl⟩
      · exact ⟨current, rfl, rfl⟩
  obtain ⟨current, stack, pending⟩ := playing
  refine ⟨by rw [stack, List.length_map], fun waits => ?_, current⟩
  rw [pending] at waits
  split at waits
  · next held => rw [held]; rfl
  · exact absurd waits (by simp)

namespace Voice.Sound

variable {v w : Voice}

theorem of_silent (stack : v.stack.length ≤ 2) (pending : v.pending = none) : v.Sound :=
  ⟨stack, fun waits => absurd waits (by simp [pending])⟩

theorem of_sounding (stack : v.stack.length ≤ 2) (current : v.current.isSome = true) : v.Sound := ⟨stack, fun _ => current⟩

/-- A voice that sounds on, with as much on its stack as before, keeping its pending trigger or losing it. -/
theorem of_le (h : v.Sound) (stack : w.stack.length ≤ v.stack.length)
    (pending : w.pending.isSome = true → v.pending.isSome = true)
    (current : v.current.isSome = true → w.current.isSome = true) : w.Sound :=
  ⟨stack.trans h.1, fun waits => current (h.2 (pending waits))⟩

theorem setHalf (h : v.Sound) (half : HalfId) (buffer : HalfBuffer) : (v.setHalf half buffer).Sound := by
  obtain ⟨stack, pending, current⟩ := v.setHalf_unchanged half buffer
  rwa [Voice.Sound, stack, pending, current]

theorem start (h : v.Sound) (table : ProgramTable) (t : Trigger) : (Voice.start table v t).Sound := by
  unfold Voice.start
  split
  · exact of_sounding h.1 rfl
  · exact h

/-- The end of a program takes entries off the stack and the pending trigger off the voice (R131, R132). -/
theorem endProgram (table : ProgramTable) (stack : List ResumeEntry) (h : v.Sound) (size : stack.length ≤ 2) :
    (Voice.endProgram table stack v).Sound := by
  induction stack generalizing v with
  | nil =>
    unfold Voice.endProgram
    split
    · exact start (of_silent (Nat.zero_le _) rfl) table _
    · next silent => exact of_silent (Nat.zero_le _) silent
  | cons e rest ih =>
    unfold Voice.endProgram
    split
    · split
      · exact start (of_silent size rfl) table _
      · exact h
    · have shorter : rest.length ≤ 2 := (Nat.le_succ _).trans size
      split
      · exact ih ⟨shorter, h.2⟩ shorter
      · next p _ =>
        have resumed : (Voice.resume p { v with stack := rest } e).Sound := by
          unfold Voice.resume
          split <;> exact of_sounding shorter rfl
        dsimp only
        split
        · exact ih resumed shorter
        · exact resumed

theorem endIfExhausted (h : v.Sound) (table : ProgramTable) (reader : Option Fill) (index : Nat) :
    (v.endIfExhausted table reader index).Sound := by
  unfold Voice.endIfExhausted
  split
  · exact h.endProgram table v.stack h.1
  · exact h

theorem release (h : v.Sound) (p : Program) (n : Nat) : (v.release p n).Sound := by
  obtain ⟨stack, pending, current⟩ := v.release_unchanged p n
  exact h.of_le stack.le pending (by rw [current]; exact id)

theorem stop (v : Voice) : v.stop.Sound := by
  unfold Voice.stop
  dsimp only
  split <;> exact of_silent (Nat.zero_le _) rfl

theorem warm (v : Voice) : v.warm.Sound := of_silent (Nat.zero_le _) rfl

theorem grant (h : v.Sound) (table : ProgramTable) : (v.grant table).Sound := by
  unfold Voice.grant
  split
  · split
    · exact h
    · exact h.setHalf _ _
  · exact h

theorem accept (h : v.Sound) (half : HalfId) (samples : List Byte) : (v.accept half samples).Sound := by
  unfold Voice.accept
  dsimp only
  split
  · exact h.setHalf _ _
  · exact (h.setHalf half _).of_le le_rfl id (by simp [v.setHalf_unchanged])

theorem afterExhaustion (h : v.Sound) (table : ProgramTable) (reader : Option Fill) (index : Nat) (cur : Playing)
    (other : HalfId) : (v.afterExhaustion table reader index cur other).1.Sound := by
  unfold Voice.afterExhaustion
  dsimp only
  split
  · exact (h.setHalf other _).of_le le_rfl id fun _ => rfl
  · split
    · exact of_sounding h.1 rfl
    · split
      · exact of_sounding h.1 rfl
      · exact h.endProgram table v.stack h.1

/-- A voice that takes a sample plays on, or its program ends (R133, R134). -/
theorem takeSample (h : v.Sound) (table : ProgramTable) (reader : Option Fill) (index : Nat) :
    (v.takeSample table reader index).1.Sound := by
  unfold Voice.takeSample
  split
  · next half cur _ _ =>
    dsimp only
    split
    · exact of_sounding h.1 rfl
    · have emptied : ({ v.setHalf half HalfBuffer.empty with nextPlay := half.other } : Voice).Sound :=
        h.setHalf half HalfBuffer.empty
      exact emptied.afterExhaustion ..
  · exact h

end Voice.Sound

/-! ### The engine -/

/-- Every voice is sound. -/
def SoundEngine.VoicesSound (e : SoundEngine) : Prop := ∀ v ∈ e.voices, v.Sound

namespace SoundEngine.VoicesSound

variable {e : SoundEngine}

theorem onVoice (h : e.VoicesSound) (index : Nat) {f : Voice → Voice} (keeps : ∀ v : Voice, v.Sound → (f v).Sound) :
    (e.onVoice index f).VoicesSound := by
  intro v member
  obtain ⟨k, at_k⟩ := List.mem_iff_getElem?.mp member
  rw [SoundEngine.onVoice, List.getElem?_modify] at at_k
  obtain ⟨u, at_u, rfl⟩ := Option.map_eq_some_iff.mp at_k
  have sound := h u (List.mem_of_getElem? at_u)
  split
  · exact keeps u sound
  · exact sound

/-- All voices are replaced, each by what its number and its record call for. -/
theorem mapIdx (h : e.VoicesSound) {f : Nat → Voice → Voice} (keeps : ∀ k (v : Voice), v.Sound → (f k v).Sound) :
    ({ e with voices := e.voices.mapIdx f } : SoundEngine).VoicesSound := by
  intro v member
  obtain ⟨k, lt, rfl⟩ := List.mem_mapIdx.mp member
  exact keeps k _ (h _ (List.getElem_mem lt))

theorem trigger (h : e.VoicesSound) (n : Option Nat) (origin : TriggerOrigin) : (e.trigger n origin).VoicesSound := by
  obtain same | ⟨m, p, -, -, judged⟩ := e.trigger_cases n origin
  · rwa [same]
  · rw [judged]
    exact h.onVoice _ fun v sound => Voice.judge_sound p v _ sound

theorem letGo (h : e.VoicesSound) (n : Option Nat) : (e.letGo n).VoicesSound := by
  obtain same | ⟨m, p, -, -, released⟩ := e.letGo_cases n
  · rwa [same]
  · rw [released]
    exact h.onVoice _ fun v sound => (sound.release p m).endIfExhausted ..

theorem park (h : e.VoicesSound) : e.park.VoicesSound := by
  refine letGo (h.mapIdx fun k v sound => ?_) _
  split
  · exact .stop v
  · exact sound

theorem warm (e : SoundEngine) : e.warm.VoicesSound := by
  intro v member
  obtain ⟨u, -, rfl⟩ := List.mem_map.mp member
  exact .warm u

theorem grantFill (h : e.VoicesSound) : e.grantFill.VoicesSound := by
  unfold SoundEngine.grantFill
  split
  · split
    · exact h
    · exact h.onVoice _ fun v sound => sound.grant _
  · exact h

theorem completeFill (h : e.VoicesSound) (samples : List Byte) : (e.completeFill samples).VoicesSound := by
  unfold SoundEngine.completeFill
  split
  · exact h
  · split
    · exact h
    · dsimp only
      split
      · exact h.onVoice _ fun v sound => sound.accept ..
      · exact h.onVoice _ fun v sound => sound.setHalf ..

theorem cold (tables : SoundTables) (unread : Nat) : (SoundEngine.cold tables unread).VoicesSound := by
  intro v member
  rw [(List.mem_replicate.mp member).2]
  exact .of_silent (Nat.zero_le _) rfl

end SoundEngine.VoicesSound

/-! ### The part -/

/-- Every voice of the part is sound. -/
def Controller.VoicesSound (c : Controller) : Prop := c.sound.VoicesSound

namespace Controller.VoicesSound

variable {c d : Controller}

theorem of_eq (h : c.VoicesSound) (sound : d.sound = c.sound) : d.VoicesSound := by
  rwa [Controller.VoicesSound, sound]

theorem onMotion (h : c.VoicesSound) (f : MotionUnit → MotionUnit) : (c.onMotion f).VoicesSound := h

theorem onCommand (h : c.VoicesSound) (f : CommandUnit → CommandUnit) : (c.onCommand f).VoicesSound := h

theorem raise (h : c.VoicesSound) (event : MotionEvent) : (c.raise event).VoicesSound := h.trigger _ _

theorem triggerAmbient (h : c.VoicesSound) : c.triggerAmbient.VoicesSound := by
  unfold Controller.triggerAmbient
  split
  · exact h.trigger _ _
  · exact h

/-! #### Motion -/

theorem emergencyStop (h : c.VoicesSound) : c.emergencyStop.VoicesSound := by
  unfold Controller.emergencyStop
  split
  · exact raise (h.of_eq (by simp)) .eStop
  · exact raise (h.of_eq (by simp)) .eStop
  · exact raise (h.of_eq (by simp)) .eStop
  · exact h
  · exact h

theorem judgeDeparture (h : c.VoicesSound) (before : Nat) : (c.judgeDeparture before).VoicesSound := by
  unfold Controller.judgeDeparture
  split
  · exact raise (h.of_eq (by simp)) .depart
  · split
    · exact raise (h.of_eq (by simp)) .arrive
    · exact h

theorem reseat (h : c.VoicesSound) : c.reseat.VoicesSound := by
  unfold Controller.reseat
  dsimp only
  split
  · exact (h.onMotion _).judgeDeparture _
  · exact h.onMotion _

theorem directionStage (h : c.VoicesSound) : c.directionStage.VoicesSound := by
  unfold Controller.directionStage
  split
  · exact ((h.onMotion _).raise .reverse).of_eq rfl
  · exact h

theorem rampStage (h : c.VoicesSound) (waiting : Bool) : (c.rampStage waiting).VoicesSound := by
  unfold Controller.rampStage
  split
  · exact h.onMotion _
  · exact h.onMotion _
  · exact h.onMotion _
  · split
    · exact (h.onMotion _).judgeDeparture _
    · exact h.onMotion _

theorem controlPeriod (h : c.VoicesSound) (bemf current : Nat) : (c.controlPeriod bemf current).VoicesSound := by
  have ramped : c.ramped.VoicesSound := (h.onMotion _).directionStage.rampStage _
  exact ramped.of_eq (by simp [Controller.controlPeriod_eq])

/-! #### Functions, parking and driving -/

theorem deliverEdge (h : c.VoicesSound) (action : FunctionAction) (rising before : Bool) :
    (c.deliverEdge action rising before).VoicesSound := by
  cases action with
  | sound n =>
    cases rising
    · exact h.letGo _
    · exact h.trigger _ _
  | soundOn =>
    simp only [Controller.deliverEdge]
    split
    · exact h.triggerAmbient
    · exact h
  | lights | smokeEnable | dim =>
    simp only [Controller.deliverEdge]
    exact h.of_eq (by (try split) <;> simp)
  | none | shunt => exact h

theorem applyFunction (h : c.VoicesSound) (value mask : BitVec 24) (i : Nat) :
    (c.applyFunction value mask i).VoicesSound := by
  unfold Controller.applyFunction
  split
  · exact (h.onCommand _).deliverEdge _ _ _
  · exact h

theorem applyFunctions (h : c.VoicesSound) (value mask : BitVec 24) : (c.applyFunctions value mask).VoicesSound :=
  List.foldlRecOn (motive := Controller.VoicesSound) _ _ h fun _ sound i _ => sound.applyFunction value mask i

theorem unpark (h : c.VoicesSound) : c.unpark.VoicesSound := by
  have mode : (c.setMode .run).fileStatus.VoicesSound := h.of_eq (by simp)
  exact mode.triggerAmbient.of_eq (by simp [Controller.unpark])

theorem enterParked (h : c.VoicesSound) : c.enterParked.VoicesSound := by
  have parked : c.enterParked.sound = c.sound.park := by simp [Controller.enterParked]
  rw [Controller.VoicesSound, parked]
  exact h.park

theorem takeDrive (h : c.VoicesSound) (frame : DriveFrame) (cls : DestinationClass) : (c.takeDrive frame cls).VoicesSound := by
  unfold Controller.takeDrive
  split
  · exact h
  · exact h.applyFunctions _ _
  · next via _ =>
    split
    · have applied : ((c.recordDrive frame via).applyFunctions frame.functions (c.pathMask (.binding via))).VoicesSound :=
        (h.onCommand _).applyFunctions _ _
      unfold Controller.acceptDrive
      dsimp only
      split
      · exact unpark (applied.of_eq (by simp))
      · exact applied.of_eq (by simp)
    · exact h.of_eq (by simp)

theorem takeHalt (h : c.VoicesSound) (source number : Nat) : (c.takeHalt source number).VoicesSound := by
  unfold Controller.takeHalt
  dsimp only
  split
  · exact h
  · split
    · exact (h.onCommand _).emergencyStop
    · exact h.onCommand _

theorem judgeCouple (h : c.VoicesSound) (consistId : Nat) (members : List (Nat × Orientation)) :
    (c.judgeCouple consistId members).VoicesSound := by
  have taken : (c.takeCouple consistId members).VoicesSound := by
    unfold Controller.takeCouple
    dsimp only
    split
    · exact unpark (h.of_eq (by simp))
    · exact h.of_eq (by simp)
  unfold Controller.judgeCouple
  split_ifs
  · exact h.of_eq (by simp)
  · exact h
  · exact h
  · exact taken
  · exact h

theorem dispatchStatus (h : c.VoicesSound) (f : RxFrame) : (c.dispatchStatus f).VoicesSound := by
  have recorded : (c.onPeers (recordLoco (frameSource f.bytes)
      (LocoEntry.heardStatus (statusFields (payloadOf f.bytes))))).VoicesSound := h
  unfold Controller.dispatchStatus Controller.statusNotice
  dsimp only
  split
  · exact recorded
  · split
    · exact recorded
    · unfold Controller.shareStop
      split
      · exact emergencyStop (recorded.of_eq (by simp))
      · exact recorded.of_eq (by simp)

theorem takesFrame (h : c.VoicesSound) (takes : c.TakesFrame d) : d.VoicesSound := by
  cases takes with
  | drives frame cls => exact h.takeDrive frame cls
  | halts source number => exact h.takeHalt source number
  | couples consistId members => exact h.judgeCouple consistId members
  | hears f => exact h.dispatchStatus f
  | _ => exact h.of_eq (by simp)

/-! #### Beats, samples and restarts -/

theorem emitBeat (h : c.VoicesSound) : c.emitBeat.VoicesSound := by
  have heard : c.emitBeat.sound = c.sound.beatTrigger c.motion.labour c.beat.phase := by
    simp [Controller.emitBeat, Controller.deliverBeat]
  rw [Controller.VoicesSound, heard]
  exact h.trigger _ _

theorem settleBeats (h : c.VoicesSound) : c.settleBeats.VoicesSound :=
  settleBeats_keeps h (fun _ => h.of_eq (by simp)) (fun sound _ => sound.of_eq (by simp)) fun sound => sound.emitBeat

theorem onBeat (h : c.VoicesSound) (f : BeatCounter → BeatCounter) : (c.onBeat f).VoicesSound := h

theorem acceptPulse (h : c.VoicesSound) : c.acceptPulse.VoicesSound := by
  unfold Controller.acceptPulse
  dsimp only
  split
  · exact (h.onBeat _).onBeat _
  · split
    · unfold Controller.countPulse
      split
      · exact ((h.onBeat _).onBeat _).emitBeat
      · exact (h.onBeat _).onBeat _
    · exact h.onBeat _

theorem outputInstant (h : c.VoicesSound) : c.outputInstant.VoicesSound := by
  have voices : c.outputInstant.sound.voices =
      c.sound.voices.mapIdx fun k v => (v.takeSample c.sound.programs c.sound.reader k).1 :=
    List.ext_getElem? fun k => by simp [Controller.outputInstant, Function.comp_def]
  rw [Controller.VoicesSound, SoundEngine.VoicesSound, voices]
  exact h.mapIdx fun k v sound => sound.takeSample ..

theorem warmRestart (c : Controller) : c.warmRestart.VoicesSound := by
  have warmed : c.restarted.sound = c.sound.warm := by simp [Controller.restarted]
  have restarted : c.restarted.VoicesSound := by
    rw [Controller.VoicesSound, warmed]
    exact .warm _
  rw [Controller.warmRestart_eq]
  exact restarted.triggerAmbient.of_eq (by simp)

theorem enterRun (h : c.VoicesSound) : c.enterRun.VoicesSound := by
  have running : ∀ n : Controller → Option Nat, ((c.setMode .run).fileStatus.onAir fun a =>
      { a with statusTimer := n (c.setMode .run).fileStatus }).VoicesSound := fun _ => h.of_eq (by simp)
  exact (running fun d => some d.statusInterval).triggerAmbient.of_eq (by simp [Controller.enterRun])

theorem acts (h : c.VoicesSound) (acts : c.Acts d) : d.VoicesSound := by
  cases acts with
  | dispatches f rest _ head takes => exact takesFrame (c := c.withFifo rest) h takes
  | parks => exact h.enterParked
  | regulates bemf current => exact h.controlPeriod bemf current
  | pulses => exact h.settleBeats.acceptPulse
  | beats => exact h.emitBeat
  | samples => exact h.outputInstant
  | grants => exact h.grantFill
  | fills samples => exact h.completeFill samples
  | settles => exact reseat (h.of_eq (by simp))
  | restarts => exact .warmRestart c
  | brownsOut => exact .cold _ _
  | startsCold => exact .cold _ _
  | runs => exact h.enterRun
  | _ => exact h.of_eq (by simp)

end Controller.VoicesSound

/-- Settles O13: `Controller.VoicesSound.acts` for every operation. -/
theorem everyStepKeepsTheVoicesSound : Obligations.EveryStepKeepsTheVoicesSound :=
  fun _ _ sound next => step_keeps Controller.VoicesSound.acts sound next

end Sys2Proof.Machine
end

section
/-! PROOFS. The consist record holds in each consist state what section 6.1 says: the record by itself first, then the
operations of the Consist Unit, then the part. -/

namespace Sys2Proof.Machine

/-! ### The record by itself -/

/-- `Controller.ConsistSound` of the record alone, under the own address. -/
structure ConsistUnit.Whole (own : Nat) (k : ConsistUnit) : Prop where
  listed : k.membership = none ↔ k.state = .solo
  common : k.common.isSome = true ↔ k.state = .formed ∨ k.state = .broken
  negotiation : k.negotiationTimer.isSome = true → k.state.negotiating = true
  joins : k.joinTimer.isSome = true → k.state.negotiating = true
  unstopped : k.state = .solo → k.consistFault = false ∧ k.signalLossStop = false
  list : ∀ m, k.membership = some m → m.Sound own

theorem Controller.consistSound_iff (c : Controller) : c.ConsistSound ↔ c.consist.Whole c.settings.ownAddress :=
  ⟨fun h => ⟨h.listed, h.common, h.negotiation, h.joins, h.unstopped, h.list⟩,
    fun h => ⟨h.listed, h.common, h.negotiation, h.joins, h.unstopped, h.list⟩⟩

/-- A change of the members' records that keeps their addresses keeps what a list satisfies. -/
theorem Membership.Sound.mapOthers {own : Nat} {m : Membership} (h : m.Sound own) {f : MemberRecord → MemberRecord}
    (address : ∀ o, (f o).address = o.address) : ({ m with others := m.others.map f } : Membership).Sound own where
  size := h.size
  position := h.position
  role := h.role
  others := by
    rw [List.map_map, ← h.others]
    exact List.map_congr_left fun o _ => address o

namespace ConsistUnit.Whole

variable {own : Nat} {k j : ConsistUnit}

theorem cold (own : Nat) : ConsistUnit.cold.Whole own where
  listed := by decide
  common := by decide
  negotiation := nofun
  joins := nofun
  unstopped _ := ⟨rfl, rfl⟩
  list := nofun

theorem held (h : k.Whole own) (active : k.state ≠ .solo) : k.membership ≠ none := mt h.listed.mp active

/-- A record in a state other than SOLO, which holds the list of a whole one with its members' addresses. -/
theorem active (h : k.Whole own) (before : k.state ≠ .solo) {f : MemberRecord → MemberRecord}
    (address : ∀ o, (f o).address = o.address)
    (members : j.membership = k.membership.map fun m => { m with others := m.others.map f }) (after : j.state ≠ .solo)
    (common : j.common.isSome = true ↔ j.state = .formed ∨ j.state = .broken)
    (negotiation : j.negotiationTimer.isSome = true → j.state.negotiating = true)
    (joins : j.joinTimer.isSome = true → j.state.negotiating = true) : j.Whole own where
  listed := by simp [members, h.held before, after]
  common := common
  negotiation := negotiation
  joins := joins
  unstopped solo := absurd solo after
  list m same := by
    obtain ⟨m', held, rfl⟩ := Option.map_eq_some_iff.mp (members.symm.trans same)
    exact (h.list m' held).mapOthers address

/-- The members' records change, in any state. -/
theorem mapOthers (h : k.Whole own) {f : MemberRecord → MemberRecord} (address : ∀ o, (f o).address = o.address) :
    (k.mapOthers f).Whole own where
  listed := by simp [ConsistUnit.mapOthers, h.listed]
  common := h.common
  negotiation := h.negotiation
  joins := h.joins
  unstopped := h.unstopped
  list m same := by
    obtain ⟨m', held, rfl⟩ := Option.map_eq_some_iff.mp same
    exact (h.list m' held).mapOthers address

theorem onMember (h : k.Whole own) (address : Nat) {f : MemberRecord → MemberRecord}
    (keeps : ∀ o, (f o).address = o.address) : (k.onMember address f).Whole own :=
  h.mapOthers fun o => by
    split
    · exact keeps o
    · rfl

/-- Stops and the pending flag are set and cleared, in SOLO only cleared; timers stay or stop. -/
theorem flags (h : k.Whole own) (state : j.state = k.state) (membership : j.membership = k.membership)
    (common : j.common = k.common) (negotiation : j.negotiationTimer.isSome = true → k.negotiationTimer.isSome = true)
    (joins : j.joinTimer.isSome = true → k.joinTimer.isSome = true)
    (unstopped : k.state = .solo → j.consistFault = false ∧ j.signalLossStop = false) : j.Whole own where
  listed := by rw [membership, state, h.listed]
  common := by rw [common, state, h.common]
  negotiation runs := by rw [state]; exact h.negotiation (negotiation runs)
  joins runs := by rw [state]; exact h.joins (joins runs)
  unstopped solo := unstopped (state ▸ solo)
  list m same := h.list m (membership ▸ same)

theorem lowerTimer_isSome (t : Option Nat) : (lowerTimer t).isSome = t.isSome := by
  unfold lowerTimer
  split <;> rfl

theorem millisecond (h : k.Whole own) : k.millisecond.Whole own := by
  refine (h.mapOthers (f := fun o => { o with timer := lowerTimer o.timer }) fun o => rfl).flags rfl rfl rfl ?_ ?_ h.unstopped
  · exact fun runs => (lowerTimer_isSome k.negotiationTimer).symm.trans runs
  · exact fun runs => (lowerTimer_isSome k.joinTimer).symm.trans runs

end ConsistUnit.Whole
/-! ### The operations of the Consist Unit -/

namespace Controller.ConsistSound

variable {c d : Controller}

theorem whole (h : c.ConsistSound) : c.consist.Whole c.settings.ownAddress := (c.consistSound_iff).mp h

/-- The record after an operation is whole under the same own address. -/
theorem of_whole (settings : d.settings = c.settings) (whole : d.consist.Whole c.settings.ownAddress) : d.ConsistSound :=
  (d.consistSound_iff).mpr (settings ▸ whole)

theorem of_eq (h : c.ConsistSound) (settings : d.settings = c.settings) (consist : d.consist = c.consist) : d.ConsistSound :=
  of_whole settings (consist ▸ h.whole)

theorem active_of_negotiating (negotiating : c.consist.state.negotiating = true) : c.consist.state ≠ .solo := by
  intro solo
  rw [solo] at negotiating
  exact absurd negotiating (by decide)

theorem startJoins (h : c.ConsistSound) (negotiating : c.consist.state.negotiating = true) : c.startJoins.ConsistSound :=
  of_whole (by simp) <|
    h.whole.active (active_of_negotiating negotiating) (f := id) (fun _ => rfl) (by simp)
      (active_of_negotiating negotiating) h.common h.negotiation fun _ => negotiating

theorem enterAcknowledge (h : c.ConsistSound) : c.enterAcknowledge.ConsistSound := by
  unfold Controller.enterAcknowledge
  split
  · next ready =>
    obtain ⟨ability, -, -⟩ := ready
    refine of_whole (c := c) (by simp) <|
      h.whole.active (f := id) (by simp [ability]) (fun _ => rfl) ?_ ?_ ?_ ?_ ?_
    · simp
    · simp
    · have := h.common
      simp_all
    · simp [ConsistState.negotiating]
    · simp [ConsistState.negotiating]
  · exact h

theorem enterFormed (h : c.ConsistSound) : c.enterFormed.ConsistSound := by
  unfold Controller.enterFormed
  split
  · next ready =>
    obtain ⟨acknowledge, -⟩ := ready
    refine of_whole (c := c) (by simp) <|
      h.whole.active (f := fun o => { o with timer := some 1000 }) (by simp [acknowledge]) (fun _ => rfl) ?_ ?_ ?_ ?_ ?_ <;>
      simp [ConsistUnit.mapOthers]
  · exact h

theorem advanceNegotiation (h : c.ConsistSound) : c.advanceNegotiation.ConsistSound := h.enterAcknowledge.enterFormed

theorem onMember (h : c.ConsistSound) (address : Nat) {f : MemberRecord → MemberRecord}
    (keeps : ∀ o, (f o).address = o.address) : (c.onConsist (·.onMember address f)).ConsistSound :=
  of_whole rfl (h.whole.onMember address keeps)

theorem hearAbility (h : c.ConsistSound) (source : Nat) (j : JoinFields) : (c.hearAbility source j).ConsistSound :=
  (h.onMember source (f := fun o => { o with ability := some j.ability, ackHeard := o.ackHeard || j.ack })
    fun _ => rfl).advanceNegotiation

theorem resumeNegotiation (h : c.ConsistSound) : c.resumeNegotiation.ConsistSound := by
  unfold Controller.resumeNegotiation
  split
  · next ready =>
    obtain ⟨ability, -⟩ := ready
    have negotiating : c.consist.state.negotiating = true := by rw [ability]; rfl
    have timed : (c.onConsist fun k => { k with negotiationTimer := some 5000 }).ConsistSound :=
      of_whole rfl <| h.whole.active (f := id) (active_of_negotiating negotiating) (fun _ => rfl) (by simp)
        (active_of_negotiating negotiating) h.common (fun _ => negotiating) h.joins
    exact (timed.startJoins negotiating).advanceNegotiation
  · exact h

theorem dissolve (c : Controller) : c.dissolve.ConsistSound := by
  refine of_whole (c := c) (by simp) ?_
  have consist : c.dissolve.consist = ConsistUnit.cold := by simp [Controller.dissolve, Controller.returnToSolo, ConsistUnit.cold]
  exact consist ▸ .cold _

/-- A consist breaks from FORMED, in which no negotiation timer runs (R107, R108). -/
theorem breakConsist (h : c.ConsistSound) (formed : c.consist.state = .formed) (address : Nat) :
    (c.breakConsist address).ConsistSound := by
  have common : c.consist.common.isSome = true := h.common.mpr (.inl formed)
  have negotiation := h.negotiation
  have joins := h.joins
  simp only [formed, ConsistState.negotiating, Bool.false_eq_true, imp_false, Bool.not_eq_true] at negotiation joins
  refine of_whole (c := c) (by simp) <|
    h.whole.active (f := fun o => if o.address = address then o.lose else { o with mark := .watched }) (by simp [formed])
      (fun o => by split <;> rfl) ?_ ?_ ?_ ?_ ?_ <;>
    simp [Controller.breakConsist, ConsistUnit.mapOthers, common, negotiation, joins]

theorem renegotiate (h : c.ConsistSound) (active : c.consist.state ≠ .solo) : c.renegotiate.ConsistSound := by
  refine of_whole (c := c) (by simp) <|
    h.whole.active (f := fun o => { o with ability := none, ackHeard := false, timer := none }) active
      (fun o => rfl) ?_ ?_ ?_ ?_ ?_ <;>
    simp [Controller.renegotiate, ConsistUnit.mapOthers, ConsistState.negotiating]

theorem judgeRenegotiation (h : c.ConsistSound) : c.judgeRenegotiation.ConsistSound := by
  unfold Controller.judgeRenegotiation
  split
  · next ready => exact h.renegotiate (by simp [ready.1])
  · exact h

theorem judgeLost (h : c.ConsistSound) : c.judgeLost.ConsistSound := by
  unfold Controller.judgeLost
  split
  · exact judgeRenegotiation (of_whole rfl (h.whole.flags rfl rfl rfl id id h.unstopped))
  · exact h

theorem loseMember (h : c.ConsistSound) (address : Nat) : (c.loseMember address).ConsistSound :=
  of_whole rfl
    ((h.whole.onMember address (f := MemberRecord.lose) fun _ => rfl).flags rfl rfl rfl id id h.unstopped)

theorem rehearMember (h : c.ConsistSound) (address : Nat) : (c.rehearMember address).ConsistSound :=
  (h.onMember address (f := fun o => { o with mark := .reheard }) fun _ => rfl).judgeLost

theorem restartMemberTimer (h : c.ConsistSound) (address : Nat) : (c.restartMemberTimer address).ConsistSound :=
  h.onMember address fun _ => rfl

/-! ### Member notices -/

theorem superviseStatus (h : c.ConsistSound) (o : MemberRecord) (f : StatusFields) : (c.superviseStatus o f).ConsistSound := by
  unfold Controller.superviseStatus
  split
  · unfold Controller.statusInAcknowledge
    split
    · exact (h.onMember o.address (f := fun o => { o with ackHeard := true }) fun _ => rfl).enterFormed
    · exact h
  · next formed =>
    unfold Controller.statusInFormed
    split
    · split
      · exact h.restartMemberTimer _
      · exact h
      · exact h.breakConsist formed _
    · exact h.breakConsist formed _
  · unfold Controller.statusInBroken
    split
    · split
      · exact h.restartMemberTimer _
      · exact h.loseMember _
    · exact h.rehearMember _
    · exact h
  · exact h

/-- The supervision of a member never makes SOLO. -/
theorem superviseStatus_active (active : c.consist.state ≠ .solo) (o : MemberRecord) (f : StatusFields) :
    (c.superviseStatus o f).consist.state ≠ .solo := by
  have formed : ∀ e : Controller, e.consist.state ≠ .solo → e.enterFormed.consist.state ≠ .solo := by
    intro e still
    unfold Controller.enterFormed
    split <;> simp [still]
  have lost : ∀ e : Controller, e.consist.state ≠ .solo → e.judgeLost.consist.state ≠ .solo := by
    intro e still
    unfold Controller.judgeLost Controller.judgeRenegotiation
    split_ifs <;> simp [still, Controller.renegotiate]
  unfold Controller.superviseStatus
  split
  · unfold Controller.statusInAcknowledge
    split
    · exact formed _ active
    · exact active
  · unfold Controller.statusInFormed
    split
    · split
      · exact active
      · exact active
      · simp [Controller.breakConsist]
    · simp [Controller.breakConsist]
  · unfold Controller.statusInBroken
    split
    · split
      · exact active
      · exact active
    · exact lost _ active
    · exact active
  · exact active

theorem shareFault (h : c.ConsistSound) (active : c.consist.state ≠ .solo) (f : StatusFields) :
    (c.shareFault f).ConsistSound := by
  have set : (c.onConsist fun k => { k with consistFault := true }).ConsistSound :=
    of_whole rfl (h.whole.flags rfl rfl rfl id id fun solo => absurd solo active)
  unfold Controller.shareFault
  dsimp only
  split
  · split
    · exact set
    · exact set.of_eq (by simp) (by simp)
  · exact h

theorem statusNotice (h : c.ConsistSound) (source : Nat) (f : StatusFields) (previous : Option Bool) :
    (c.statusNotice source f previous).ConsistSound := by
  unfold Controller.statusNotice
  split
  · exact h
  · next active =>
    split
    · exact h
    · next o _ =>
      exact ((h.superviseStatus o f).shareFault (superviseStatus_active active o f) f).of_eq (by simp) (by simp)

theorem joinNotice (h : c.ConsistSound) (source : Nat) (j : JoinFields) : (c.joinNotice source j).ConsistSound := by
  unfold Controller.joinNotice
  split
  · exact h
  · split
    · exact h.hearAbility source j
    · exact h.hearAbility source j
    · split
      · exact h.rehearMember source
      · exact h
    · exact h

theorem expireMember (h : c.ConsistSound) (address : Nat) : (c.expireMember address).ConsistSound := by
  unfold Controller.expireMember
  split
  · next formed => exact h.breakConsist formed address
  · exact h.loseMember address
  · exact h

/-! ### Taking a COUPLE (R94 to R97) -/

/-- The own position in a well-formed list that names the own address is where the address first stands. -/
theorem membershipOf_sound {consistId own : Nat} {members : List (Nat × Orientation)} (sound : listSound members = true)
    (listed : own ∈ members.map (·.1)) : (membershipOf consistId own members).Sound own where
  size := by
    simp only [listSound, Bool.and_eq_true, decide_eq_true_eq] at sound
    exact ⟨sound.1.1.1, sound.1.1.2⟩
  position := by
    obtain ⟨m, member, rfl⟩ := List.mem_map.mp listed
    have found : members.findIdx (·.1 == m.1) < members.length := List.findIdx_lt_length.mpr ⟨m, member, by simp⟩
    have first : (members[members.findIdx (·.1 == m.1)].1 == m.1) = true := List.findIdx_getElem (w := found)
    simp only [membershipOf, List.getElem?_eq_getElem found, Option.map_some, Option.some.injEq]
    exact beq_iff_eq.mp first
  role := rfl
  others := by
    simp only [membershipOf, List.map_map, List.filter_map]
    rfl

theorem judgeCouple (h : c.ConsistSound) (consistId : Nat) (members : List (Nat × Orientation)) :
    (c.judgeCouple consistId members).ConsistSound := by
  unfold Controller.judgeCouple
  split_ifs with malformed unlisted
  · exact h.of_eq (by simp) (by simp)
  · exact h
  · exact h
  · have sound := membershipOf_sound (consistId := consistId) (own := c.settings.ownAddress)
      (by simpa using malformed) (by simpa using unlisted)
    refine of_whole (c := c) (by simp) ?_
    rw [Controller.takeCouple_consist]
    refine ⟨by simp, by simp, fun _ => rfl, fun _ => rfl, nofun, fun m same => ?_⟩
    cases same
    exact sound
  · exact h.of_eq rfl rfl

/-! ### The part -/

theorem consistDriveNotice (h : c.ConsistSound) (step : Nat) : (c.consistDriveNotice step).ConsistSound := by
  unfold Controller.consistDriveNotice
  split
  · exact of_whole rfl (h.whole.flags rfl rfl rfl id id fun solo => by simp [h.unstopped solo])
  · exact h

theorem takeDrive (h : c.ConsistSound) (frame : DriveFrame) (cls : DestinationClass) :
    (c.takeDrive frame cls).ConsistSound := by
  unfold Controller.takeDrive
  split
  · exact h
  · exact h.of_eq (by simp) (by simp)
  · next via _ =>
    split
    · have applied : ((c.recordDrive frame via).applyFunctions frame.functions (c.pathMask (.binding via))).ConsistSound :=
        h.of_eq (by simp) (by simp)
      have noticed : ∀ e : Controller, e.ConsistSound → (e.noticeDrive frame.step via).ConsistSound := by
        intro e sound
        cases via
        · exact sound.of_eq (by simp [Controller.noticeDrive]) (by simp [Controller.noticeDrive])
        · exact consistDriveNotice (sound.of_eq (by simp) (by simp)) _
      unfold Controller.acceptDrive
      dsimp only
      split
      · exact (noticed _ applied).of_eq (by simp) (by simp)
      · exact (noticed _ applied).of_eq (by simp) (by simp)
    · exact h.of_eq (by simp) (by simp)

theorem takesFrame (h : c.ConsistSound) (takes : c.TakesFrame d) : d.ConsistSound := by
  cases takes with
  | drives frame cls => exact h.takeDrive frame cls
  | couples consistId members => exact h.judgeCouple consistId members
  | uncouples => exact dissolve c
  | joins f cls =>
    unfold Controller.dispatchJoin
    dsimp only
    split
    · exact joinNotice (h.of_eq (by simp) (by simp)) _ _
    · exact h.of_eq (by simp) (by simp)
  | hears f => exact statusNotice (h.of_eq (by simp) (by simp)) _ _ _
  | _ => exact h.of_eq (by simp) (by simp)

theorem expireSupervision (h : c.ConsistSound) (b : Binding) : (c.expireSupervision b).ConsistSound := by
  unfold Controller.expireSupervision
  dsimp only
  split
  · next consist => exact of_whole rfl (h.whole.flags rfl rfl rfl id id fun solo => absurd solo consist.2)
  · exact h.of_eq rfl rfl

theorem supplyNormal (h : c.ConsistSound) : c.supplyNormal.ConsistSound :=
  resumeNegotiation (h.of_eq rfl rfl)

theorem warmConsist (h : c.ConsistSound) : c.warmConsist.ConsistSound := by
  unfold Controller.warmConsist
  split
  · exact h
  · next active =>
    refine of_whole (c := c) (by simp) <|
      h.whole.active (f := fun o => { o with ability := none, ackHeard := false, timer := none, mark := .watched }) active
        (fun _ => rfl) ?_ ?_ ?_ ?_ ?_ <;>
      simp [ConsistUnit.mapOthers]

theorem acts (h : c.ConsistSound) (acts : c.Acts d) : d.ConsistSound := by
  cases acts with
  | millisecond => exact of_whole (by simp) h.whole.millisecond
  | dispatches f rest _ head takes => exact takesFrame (c := c.withFifo rest) (h.of_eq rfl rfl) takes
  | losesThrottle b => exact h.expireSupervision b
  | regulates bemf current => exact judgeRenegotiation (h.of_eq (by simp) (by simp))
  | failsNegotiation => exact dissolve _
  | joinsAgain negotiating => exact h.startJoins negotiating
  | missesMember address => exact h.expireMember address
  | picksUp => exact h.supplyNormal
  | settles => exact h.supplyNormal.of_eq (by simp) (by simp)
  | restarts => exact h.warmConsist.of_eq (by simp) (by simp)
  | brownsOut => exact of_whole (c := c.brownout) rfl (.cold _)
  | startsCold => exact of_whole rfl (.cold _)
  | _ => exact h.of_eq (by simp) (by simp)

end Controller.ConsistSound

/-- Settles O10: `Controller.ConsistSound.acts` for every operation. -/
theorem everyStepKeepsTheConsistRecordWhole : Obligations.EveryStepKeepsTheConsistRecordWhole :=
  fun _ _ sound next => step_keeps Controller.ConsistSound.acts sound next

end Sys2Proof.Machine
end

section
/-! PROOFS. The bounds of the Air Interface and of the diagnostic counters. -/

namespace Sys2Proof.Machine

/-! ### Slots: outside medium access a slot is only filed, which never raises an attempt count (R15) -/

/-- No slot holds an attempt count above 7 (R17). -/
def Controller.SlotsBounded (c : Controller) : Prop :=
  c.air.joinSlot.attempts ≤ 7 ∧ c.air.statusSlot.attempts ≤ 7 ∧ c.air.diagSlot.attempts ≤ 7

namespace Controller

variable {c d : Controller}

theorem slots_of_air (air : d.air = c.air) : d.SlotsBounded ↔ c.SlotsBounded := by
  rw [Controller.SlotsBounded, air, Controller.SlotsBounded]

theorem SlotsBounded.of_le (h : c.SlotsBounded) (join : d.air.joinSlot.attempts ≤ c.air.joinSlot.attempts)
    (status : d.air.statusSlot.attempts ≤ c.air.statusSlot.attempts)
    (diag : d.air.diagSlot.attempts ≤ c.air.diagSlot.attempts) : d.SlotsBounded :=
  ⟨join.trans h.1, status.trans h.2.1, diag.trans h.2.2⟩

@[simp] theorem onCommand_slots (f : CommandUnit → CommandUnit) : (c.onCommand f).SlotsBounded ↔ c.SlotsBounded :=
  slots_of_air rfl
@[simp] theorem onMotion_slots (f : MotionUnit → MotionUnit) : (c.onMotion f).SlotsBounded ↔ c.SlotsBounded :=
  slots_of_air rfl
@[simp] theorem onBeat_slots (f : BeatCounter → BeatCounter) : (c.onBeat f).SlotsBounded ↔ c.SlotsBounded :=
  slots_of_air rfl
@[simp] theorem onConsist_slots (f : ConsistUnit → ConsistUnit) : (c.onConsist f).SlotsBounded ↔ c.SlotsBounded :=
  slots_of_air rfl
@[simp] theorem onSound_slots (f : SoundEngine → SoundEngine) : (c.onSound f).SlotsBounded ↔ c.SlotsBounded :=
  slots_of_air rfl
@[simp] theorem onSmoke_slots (f : SmokeController → SmokeController) : (c.onSmoke f).SlotsBounded ↔ c.SlotsBounded :=
  slots_of_air rfl
@[simp] theorem onSupply_slots (f : SupplyMonitor → SupplyMonitor) : (c.onSupply f).SlotsBounded ↔ c.SlotsBounded :=
  slots_of_air rfl
@[simp] theorem onLatches_slots (f : Latches → Latches) : (c.onLatches f).SlotsBounded ↔ c.SlotsBounded :=
  slots_of_air rfl

@[simp] theorem onPeers_slots (f : PeerTable → PeerTable) : (c.onPeers f).SlotsBounded ↔ c.SlotsBounded := ⟨id, id⟩

@[simp] theorem fileJoin_slots (h : c.SlotsBounded) : c.fileJoin.SlotsBounded :=
  h.of_le (TxSlot.file_attempts _) le_rfl le_rfl

@[simp] theorem fileStatus_slots (h : c.SlotsBounded) : c.fileStatus.SlotsBounded :=
  h.of_le le_rfl (TxSlot.file_attempts _) le_rfl

@[simp] theorem fileDiag_slots (querier : Nat) (h : c.SlotsBounded) : (c.fileDiag querier).SlotsBounded :=
  h.of_le le_rfl le_rfl (TxSlot.file_attempts _)

@[simp] theorem afterStateChange_slots : c.afterStateChange.SlotsBounded ↔ c.SlotsBounded := ⟨id, id⟩

theorem foldl_slots {α : Type} {act : Controller → α → Controller}
    (keeps : ∀ (d : Controller) (x : α), d.SlotsBounded → (act d x).SlotsBounded) (xs : List α)
    (h : c.SlotsBounded) : (xs.foldl act c).SlotsBounded :=
  List.foldlRecOn (motive := Controller.SlotsBounded) xs act h fun d slots x _ => keeps d x slots

@[simp] theorem pinAll_slots (addresses : List Nat) (h : c.SlotsBounded) : (c.pinAll addresses).SlotsBounded :=
  foldl_slots (act := fun c a => c.onPeers (pinPeer a)) (fun _ _ slots => slots) addresses h

@[simp] theorem unpinAll_slots (addresses : List Nat) (h : c.SlotsBounded) : (c.unpinAll addresses).SlotsBounded :=
  foldl_slots (act := fun c a => c.onPeers (unpinPeer a)) (fun _ _ slots => slots) addresses h

@[simp] theorem judgeLights_slots : c.judgeLights.SlotsBounded ↔ c.SlotsBounded := slots_of_air (by simp)
@[simp] theorem raise_slots (event : MotionEvent) : (c.raise event).SlotsBounded ↔ c.SlotsBounded := slots_of_air (by simp)
@[simp] theorem triggerAmbient_slots : c.triggerAmbient.SlotsBounded ↔ c.SlotsBounded := slots_of_air (by simp)
@[simp] theorem driveOff_slots : c.driveOff.SlotsBounded ↔ c.SlotsBounded := slots_of_air (by simp)
@[simp] theorem standStill_slots : c.standStill.SlotsBounded ↔ c.SlotsBounded := slots_of_air (by simp)
@[simp] theorem latchSmokeFault_slots : c.latchSmokeFault.SlotsBounded ↔ c.SlotsBounded := slots_of_air (by simp)
@[simp] theorem recordDrive_slots (d : DriveFrame) (via : BoundVia) : (c.recordDrive d via).SlotsBounded ↔ c.SlotsBounded := slots_of_air (by simp)
@[simp] theorem consistDriveNotice_slots (step : Nat) : (c.consistDriveNotice step).SlotsBounded ↔ c.SlotsBounded := slots_of_air (by simp)
@[simp] theorem restartPark_slots (step : Nat) : (c.restartPark step).SlotsBounded ↔ c.SlotsBounded := slots_of_air (by simp)
@[simp] theorem clearBinding_slots (via : BoundVia) : (c.clearBinding via).SlotsBounded ↔ c.SlotsBounded := slots_of_air (by simp)
@[simp] theorem loseMember_slots (address : Nat) : (c.loseMember address).SlotsBounded ↔ c.SlotsBounded := slots_of_air (by simp)
@[simp] theorem restartMemberTimer_slots (address : Nat) : (c.restartMemberTimer address).SlotsBounded ↔ c.SlotsBounded := slots_of_air (by simp)
@[simp] theorem latchCalRefused_slots : c.latchCalRefused.SlotsBounded ↔ c.SlotsBounded := slots_of_air (by simp)
@[simp] theorem restoreRecord_slots : c.restoreRecord.SlotsBounded ↔ c.SlotsBounded := slots_of_air (by simp)
@[simp] theorem endWrite_slots : c.endWrite.SlotsBounded ↔ c.SlotsBounded := slots_of_air (by simp)
@[simp] theorem adopt_slots (v : CalValues) : (c.adopt v).SlotsBounded ↔ c.SlotsBounded := slots_of_air (by simp)
@[simp] theorem countMalformed_slots : c.countMalformed.SlotsBounded ↔ c.SlotsBounded := slots_of_air (by simp)
@[simp] theorem countForeignDrive_slots : c.countForeignDrive.SlotsBounded ↔ c.SlotsBounded := slots_of_air (by simp)
@[simp] theorem countDropout_slots : c.countDropout.SlotsBounded ↔ c.SlotsBounded := slots_of_air (by simp)

@[simp] theorem setMotionState_slots (state : MotionState)
    (h : c.SlotsBounded) : (c.setMotionState state).SlotsBounded := by
  unfold Controller.setMotionState
  dsimp only
  (repeat' split) <;> simp [h]

@[simp] theorem leaveCalibration_slots (state : MotionState)
    (h : c.SlotsBounded) : (c.leaveCalibration state).SlotsBounded := by
  unfold Controller.leaveCalibration
  simp [h]

@[simp] theorem emergencyStop_slots (h : c.SlotsBounded) : c.emergencyStop.SlotsBounded := by
  unfold Controller.emergencyStop
  (repeat' split) <;> simp [h]

@[simp] theorem driveNotice_slots (step : Nat) (h : c.SlotsBounded) : (c.driveNotice step).SlotsBounded := by
  unfold Controller.driveNotice
  (repeat' split) <;> simp [h]

@[simp] theorem latchFault_slots (cause : FaultCause) (h : c.SlotsBounded) : (c.latchFault cause).SlotsBounded := by
  unfold Controller.latchFault
  simp [h]

@[simp] theorem abortCalibration_slots (h : c.SlotsBounded) : c.abortCalibration.SlotsBounded := by
  unfold Controller.abortCalibration
  (repeat' split) <;> simp [h]

@[simp] theorem directionStage_slots (h : c.SlotsBounded) : c.directionStage.SlotsBounded := by
  unfold Controller.directionStage
  (repeat' split) <;> simp [h]

@[simp] theorem judgeDeparture_slots (before : Nat) (h : c.SlotsBounded) : (c.judgeDeparture before).SlotsBounded := by
  unfold Controller.judgeDeparture
  (repeat' split) <;> simp [h]

@[simp] theorem rampStage_slots (waiting : Bool) (h : c.SlotsBounded) : (c.rampStage waiting).SlotsBounded := by
  unfold Controller.rampStage
  dsimp only
  (repeat' split) <;> simp [h]

@[simp] theorem reseat_slots (h : c.SlotsBounded) : c.reseat.SlotsBounded := by
  unfold Controller.reseat
  dsimp only
  (repeat' split) <;> simp [h]

@[simp] theorem markerNotice_slots (n : MarkerFrame) (h : c.SlotsBounded) : (c.markerNotice n).SlotsBounded := by
  unfold Controller.markerNotice
  dsimp only
  (repeat' split) <;> simp [h]

@[simp] theorem announceSmoke_slots (before : SmokeState) (h : c.SlotsBounded) : (c.announceSmoke before).SlotsBounded := by
  unfold Controller.announceSmoke
  (repeat' split) <;> simp [h]

@[simp] theorem changeSmoke_slots (f : SmokeController → SmokeController)
    (h : c.SlotsBounded) : (c.changeSmoke f).SlotsBounded := by
  unfold Controller.changeSmoke
  simp [h]

@[simp] theorem startSmoke_slots (h : c.SlotsBounded) : c.startSmoke.SlotsBounded := by
  unfold Controller.startSmoke
  (repeat' split) <;> simp [h]

@[simp] theorem startPurge_slots (h : c.SlotsBounded) : c.startPurge.SlotsBounded := by
  unfold Controller.startPurge
  simp [h]

@[simp] theorem smokeEdge_slots (rising : Bool) (h : c.SlotsBounded) : (c.smokeEdge rising).SlotsBounded := by
  unfold Controller.smokeEdge
  (repeat' split) <;> simp [h]

@[simp] theorem smokeShed_slots (level : Nat) (h : c.SlotsBounded) : (c.smokeShed level).SlotsBounded := by
  unfold Controller.smokeShed
  (repeat' split) <;> simp [h]

@[simp] theorem smokePark_slots (h : c.SlotsBounded) : c.smokePark.SlotsBounded := by
  unfold Controller.smokePark
  (repeat' split) <;> simp [h]

@[simp] theorem smokeUnpark_slots (h : c.SlotsBounded) : c.smokeUnpark.SlotsBounded := by
  unfold Controller.smokeUnpark
  (repeat' split) <;> simp [h]

@[simp] theorem smokeTick_slots (reading : Nat) (h : c.SlotsBounded) : (c.smokeTick reading).SlotsBounded := by
  unfold Controller.smokeTick
  dsimp only
  (repeat' split) <;> simp [h]

@[simp] theorem endPurge_slots (h : c.SlotsBounded) : c.endPurge.SlotsBounded := by
  unfold Controller.endPurge
  (repeat' split) <;> simp [h]

@[simp] theorem setMode_slots (mode : PartMode) (h : c.SlotsBounded) : (c.setMode mode).SlotsBounded := by
  unfold Controller.setMode
  simp [h]

@[simp] theorem enterParked_slots (h : c.SlotsBounded) : c.enterParked.SlotsBounded := by
  have parked : (c.setMode .parked).fileStatus.SlotsBounded := by simp [h]
  simp [Controller.enterParked, parked]

@[simp] theorem unpark_slots (h : c.SlotsBounded) : c.unpark.SlotsBounded := by
  have running : (c.setMode .run).fileStatus.SlotsBounded := by simp [h]
  simp [Controller.unpark, running]

@[simp] theorem deliverEdge_slots (action : FunctionAction) (rising before : Bool)
    (h : c.SlotsBounded) : (c.deliverEdge action rising before).SlotsBounded := by
  unfold Controller.deliverEdge
  (repeat' split) <;> simp [h]

@[simp] theorem applyFunction_slots (value : BitVec 24) (mask : BitVec 24) (i : Nat)
    (h : c.SlotsBounded) : (c.applyFunction value mask i).SlotsBounded := by
  unfold Controller.applyFunction
  dsimp only
  (repeat' split) <;> simp [h]

@[simp] theorem applyFunctions_slots (value mask : BitVec 24) (h : c.SlotsBounded) :
    (c.applyFunctions value mask).SlotsBounded :=
  foldl_slots (fun _ i slots => applyFunction_slots value mask i slots) _ h

@[simp] theorem noticeDrive_slots (step : Nat) (via : BoundVia)
    (h : c.SlotsBounded) : (c.noticeDrive step via).SlotsBounded := by
  unfold Controller.noticeDrive
  (repeat' split) <;> simp [h]

@[simp] theorem acceptDrive_slots (d : DriveFrame) (via : BoundVia)
    (h : c.SlotsBounded) : (c.acceptDrive d via).SlotsBounded := by
  have applied : ((c.recordDrive d via).applyFunctions d.functions (c.pathMask (.binding via))).SlotsBounded := by simp [h]
  unfold Controller.acceptDrive
  dsimp only
  split <;> simp [applied]

@[simp] theorem takeDrive_slots (d : DriveFrame) (cls : DestinationClass)
    (h : c.SlotsBounded) : (c.takeDrive d cls).SlotsBounded := by
  unfold Controller.takeDrive
  (repeat' split) <;> simp [h]

@[simp] theorem takeHalt_slots (source number : Nat) (h : c.SlotsBounded) : (c.takeHalt source number).SlotsBounded := by
  unfold Controller.takeHalt
  dsimp only
  (repeat' split) <;> simp [h]

@[simp] theorem startCalibration_slots (h : c.SlotsBounded) : c.startCalibration.SlotsBounded := by
  unfold Controller.startCalibration
  simp [h]

@[simp] theorem takeCalibrate_slots (source : Nat) (h : c.SlotsBounded) : (c.takeCalibrate source).SlotsBounded := by
  unfold Controller.takeCalibrate
  (repeat' split) <;> simp [h]

@[simp] theorem setConsistState_slots (state : ConsistState)
    (h : c.SlotsBounded) : (c.setConsistState state).SlotsBounded := by
  unfold Controller.setConsistState
  dsimp only
  (repeat' split) <;> simp [h]

@[simp] theorem startJoins_slots (h : c.SlotsBounded) : c.startJoins.SlotsBounded := by
  unfold Controller.startJoins
  simp [h]

@[simp] theorem takeCouple_slots (consistId : Nat) (members : List (Nat × Orientation))
    (h : c.SlotsBounded) : (c.takeCouple consistId members).SlotsBounded := by
  have taken : ∀ f addresses,
      ((((c.onConsist f).pinAll addresses).clearBinding .own).setConsistState .ability).startJoins.SlotsBounded :=
    fun f addresses => startJoins_slots (setConsistState_slots _ (by simp [h]))
  unfold Controller.takeCouple
  dsimp only
  split
  · exact unpark_slots (taken ..)
  · exact taken ..

@[simp] theorem judgeCouple_slots (consistId : Nat) (members : List (Nat × Orientation))
    (h : c.SlotsBounded) : (c.judgeCouple consistId members).SlotsBounded := by
  unfold Controller.judgeCouple
  (repeat' split) <;> simp [h]

@[simp] theorem enterAcknowledge_slots (h : c.SlotsBounded) : c.enterAcknowledge.SlotsBounded := by
  unfold Controller.enterAcknowledge
  (repeat' split) <;> simp [h]

@[simp] theorem enterFormed_slots (h : c.SlotsBounded) : c.enterFormed.SlotsBounded := by
  unfold Controller.enterFormed
  (repeat' split) <;> simp [h]

@[simp] theorem advanceNegotiation_slots (h : c.SlotsBounded) : c.advanceNegotiation.SlotsBounded := by
  unfold Controller.advanceNegotiation
  simp [h]

@[simp] theorem resumeNegotiation_slots (h : c.SlotsBounded) : c.resumeNegotiation.SlotsBounded := by
  unfold Controller.resumeNegotiation
  (repeat' split) <;> simp [h]

@[simp] theorem returnToSolo_slots (h : c.SlotsBounded) : c.returnToSolo.SlotsBounded := by
  unfold Controller.returnToSolo
  simp [h]

@[simp] theorem dissolve_slots (h : c.SlotsBounded) : c.dissolve.SlotsBounded := by
  unfold Controller.dissolve
  simp [h]

@[simp] theorem failNegotiation_slots (h : c.SlotsBounded) : c.failNegotiation.SlotsBounded := by
  unfold Controller.failNegotiation
  simp [h]

@[simp] theorem breakConsist_slots (address : Nat) (h : c.SlotsBounded) : (c.breakConsist address).SlotsBounded := by
  simp [Controller.breakConsist, h]

@[simp] theorem renegotiate_slots (h : c.SlotsBounded) : c.renegotiate.SlotsBounded := by
  unfold Controller.renegotiate
  simp [h]

@[simp] theorem judgeRenegotiation_slots (h : c.SlotsBounded) : c.judgeRenegotiation.SlotsBounded := by
  unfold Controller.judgeRenegotiation
  (repeat' split) <;> simp [h]

@[simp] theorem judgeLost_slots (h : c.SlotsBounded) : c.judgeLost.SlotsBounded := by
  unfold Controller.judgeLost
  (repeat' split) <;> simp [h]

@[simp] theorem rehearMember_slots (address : Nat) (h : c.SlotsBounded) : (c.rehearMember address).SlotsBounded := by
  unfold Controller.rehearMember
  simp [h]

@[simp] theorem statusInAcknowledge_slots (o : MemberRecord) (f : StatusFields)
    (h : c.SlotsBounded) : (c.statusInAcknowledge o f).SlotsBounded := by
  unfold Controller.statusInAcknowledge
  (repeat' split) <;> simp [h]

@[simp] theorem statusInFormed_slots (o : MemberRecord) (f : StatusFields)
    (h : c.SlotsBounded) : (c.statusInFormed o f).SlotsBounded := by
  unfold Controller.statusInFormed
  (repeat' split) <;> simp [h]

@[simp] theorem statusInBroken_slots (o : MemberRecord) (f : StatusFields)
    (h : c.SlotsBounded) : (c.statusInBroken o f).SlotsBounded := by
  unfold Controller.statusInBroken
  (repeat' split) <;> simp [h]

@[simp] theorem superviseStatus_slots (o : MemberRecord) (f : StatusFields)
    (h : c.SlotsBounded) : (c.superviseStatus o f).SlotsBounded := by
  unfold Controller.superviseStatus
  (repeat' split) <;> simp [h]

@[simp] theorem shareFault_slots (f : StatusFields) (h : c.SlotsBounded) : (c.shareFault f).SlotsBounded := by
  unfold Controller.shareFault
  dsimp only
  (repeat' split) <;> simp [h]

@[simp] theorem shareStop_slots (f : StatusFields) (previous : Option Bool)
    (h : c.SlotsBounded) : (c.shareStop f previous).SlotsBounded := by
  unfold Controller.shareStop
  (repeat' split) <;> simp [h]

@[simp] theorem statusNotice_slots (source : Nat) (f : StatusFields) (previous : Option Bool)
    (h : c.SlotsBounded) : (c.statusNotice source f previous).SlotsBounded := by
  unfold Controller.statusNotice
  split
  · exact h
  · split
    · exact h
    · exact shareStop_slots _ _ (shareFault_slots _ (superviseStatus_slots _ _ h))

@[simp] theorem hearAbility_slots (source : Nat) (j : JoinFields)
    (h : c.SlotsBounded) : (c.hearAbility source j).SlotsBounded := by
  unfold Controller.hearAbility
  simp [h]

@[simp] theorem joinNotice_slots (source : Nat) (j : JoinFields)
    (h : c.SlotsBounded) : (c.joinNotice source j).SlotsBounded := by
  unfold Controller.joinNotice
  (repeat' split) <;> simp [h]

@[simp] theorem expireMember_slots (address : Nat) (h : c.SlotsBounded) : (c.expireMember address).SlotsBounded := by
  unfold Controller.expireMember
  (repeat' split) <;> simp [h]

@[simp] theorem warmConsist_slots (h : c.SlotsBounded) : c.warmConsist.SlotsBounded := by
  unfold Controller.warmConsist
  (repeat' split) <;> simp [h]

@[simp] theorem dispatchJoin_slots (frame : RxFrame) (cls : DestinationClass)
    (h : c.SlotsBounded) : (c.dispatchJoin frame cls).SlotsBounded := by
  unfold Controller.dispatchJoin
  dsimp only
  (repeat' split) <;> simp [h]

@[simp] theorem dispatchStatus_slots (frame : RxFrame) (h : c.SlotsBounded) : (c.dispatchStatus frame).SlotsBounded := by
  unfold Controller.dispatchStatus
  dsimp only
  simp [h]

@[simp] theorem dispatchMarker_slots (frame : RxFrame) (h : c.SlotsBounded) : (c.dispatchMarker frame).SlotsBounded := by
  unfold Controller.dispatchMarker
  dsimp only
  (repeat' split) <;> simp [h]

@[simp] theorem failSensor_slots (h : c.SlotsBounded) : c.failSensor.SlotsBounded := by
  unfold Controller.failSensor
  simp [h]

@[simp] theorem recoverSensor_slots (h : c.SlotsBounded) : c.recoverSensor.SlotsBounded := by
  unfold Controller.recoverSensor
  simp [h]

@[simp] theorem setShedLevel_slots (level : Nat) (h : c.SlotsBounded) : (c.setShedLevel level).SlotsBounded := by
  unfold Controller.setShedLevel
  (repeat' split) <;> simp [h]

@[simp] theorem setSupplyState_slots (state : SupplyState)
    (h : c.SlotsBounded) : (c.setSupplyState state).SlotsBounded := by
  unfold Controller.setSupplyState
  dsimp only
  (repeat' split) <;> simp [h]

@[simp] theorem enterHold_slots (h : c.SlotsBounded) : c.enterHold.SlotsBounded := by
  unfold Controller.enterHold
  simp [h]

@[simp] theorem judgeLadder_slots (h : c.SlotsBounded) : c.judgeLadder.SlotsBounded := by
  unfold Controller.judgeLadder
  dsimp only
  (repeat' split) <;> simp [h]

@[simp] theorem supplyTick_slots (vin vres : Nat) (h : c.SlotsBounded) : (c.supplyTick vin vres).SlotsBounded := by
  unfold Controller.supplyTick
  dsimp only
  (repeat' split) <;> simp [h]

@[simp] theorem detectDropout_slots (h : c.SlotsBounded) : c.detectDropout.SlotsBounded := by
  unfold Controller.detectDropout
  dsimp only
  simp [h]

@[simp] theorem supplyNormal_slots (h : c.SlotsBounded) : c.supplyNormal.SlotsBounded := by
  unfold Controller.supplyNormal
  simp [h]

@[simp] theorem endHold_slots (h : c.SlotsBounded) : c.endHold.SlotsBounded := by
  unfold Controller.endHold
  simp [h]

@[simp] theorem stepDown_slots (h : c.SlotsBounded) : c.stepDown.SlotsBounded := by
  unfold Controller.stepDown
  simp [h]

@[simp] theorem enterRun_slots (h : c.SlotsBounded) : c.enterRun.SlotsBounded := by
  have running : (c.setMode .run).fileStatus.SlotsBounded := by simp [h]
  simp only [Controller.enterRun, judgeLights_slots, triggerAmbient_slots]
  exact running

@[simp] theorem staleBlock_slots (h : c.SlotsBounded) : c.staleBlock.SlotsBounded := by
  unfold Controller.staleBlock
  simp [h]

@[simp] theorem latchStall_slots (h : c.SlotsBounded) : c.latchStall.SlotsBounded := by
  unfold Controller.latchStall
  simp [h]

@[simp] theorem refuseCalibration_slots (h : c.SlotsBounded) : c.refuseCalibration.SlotsBounded := by
  unfold Controller.refuseCalibration
  simp [h]

@[simp] theorem writeComplete_slots (h : c.SlotsBounded) : c.writeComplete.SlotsBounded := by
  unfold Controller.writeComplete
  (repeat' split) <;> simp [h]

@[simp] theorem writeTimeout_slots (h : c.SlotsBounded) : c.writeTimeout.SlotsBounded := by
  unfold Controller.writeTimeout
  (repeat' split) <;> simp [h]

theorem controlPeriod_slots (bemf current : Nat) (h : c.SlotsBounded) : (c.controlPeriod bemf current).SlotsBounded := by
  have ramped : c.ramped.SlotsBounded := rampStage_slots _ (directionStage_slots h)
  rw [Controller.controlPeriod_eq]
  exact judgeRenegotiation_slots ((slots_of_air (by simp)).mpr ramped)

theorem warmRestart_slots (c : Controller) : c.warmRestart.SlotsBounded := by
  have emptied : (((((c.onAir (·.warm)).onCommand (·.warm)).onLight (·.warm)).onMotion (·.warm))).SlotsBounded :=
    ⟨Nat.zero_le _, Nat.zero_le _, Nat.zero_le _⟩
  have consist := warmConsist_slots ((onBeat_slots (·.warm c.settings.preload)).mpr (setMotionState_slots .idle emptied))
  rw [Controller.warmRestart_eq, judgeLights_slots, triggerAmbient_slots]
  exact fileStatus_slots ((onSupply_slots _).mpr (changeSmoke_slots _ consist))

theorem takesFrame_slots (h : c.SlotsBounded) (takes : c.TakesFrame d) : d.SlotsBounded := by
  cases takes with
  | releases => exact (slots_of_air (by simp)).mpr h
  | _ => simp [h]

/-! ### Medium access charges no slot to an eighth window (R17, R18) -/

theorem setSlot_slots {kind : TxKind} {slot : TxSlot} (h : c.SlotsBounded) (bounded : slot.attempts ≤ 7)
    (join : d.air.joinSlot = (c.air.setSlot kind slot).joinSlot)
    (status : d.air.statusSlot = (c.air.setSlot kind slot).statusSlot)
    (diag : d.air.diagSlot = (c.air.setSlot kind slot).diagSlot) : d.SlotsBounded := by
  rw [Controller.SlotsBounded, join, status, diag]
  obtain ⟨joinBound, statusBound, diagBound⟩ := h
  cases kind
  · exact ⟨bounded, statusBound, diagBound⟩
  · exact ⟨joinBound, bounded, diagBound⟩
  · exact ⟨joinBound, statusBound, bounded⟩

theorem chargeBusy_slots (kind : TxKind) (h : c.SlotsBounded) : (c.chargeBusy kind).SlotsBounded := by
  unfold Controller.chargeBusy
  dsimp only
  split
  · exact setSlot_slots h (Nat.zero_le _) rfl rfl rfl
  · exact setSlot_slots (slot := ⟨true, (c.air.slot kind).attempts + 1⟩) h (by dsimp only; omega) rfl rfl rfl

theorem beginTransmission_slots (kind : TxKind) (h : c.SlotsBounded) : (c.beginTransmission kind).SlotsBounded := by
  unfold Controller.beginTransmission
  split
  · exact setSlot_slots h (Nat.zero_le _) rfl rfl rfl
  · exact setSlot_slots h (Nat.zero_le _) rfl rfl rfl

/-- A transmission put back keeps the attempt count it was begun with. -/
theorem failTransmission_slots (t : Transmission) (h : c.SlotsBounded) (bounded : t.attempts ≤ 7) :
    (c.failTransmission t).SlotsBounded :=
  chargeBusy_slots _ (setSlot_slots (slot := ⟨true, t.attempts⟩) h bounded rfl rfl rfl)

end Controller

/-! ### The peer table (section 1.5) -/

/-- The table has its sixteen entries and no address twice. -/
structure PeersSound (table : PeerTable) : Prop where
  length : table.length = peerTableSize
  distinct : (peerAddresses table).Nodup

/-- No address stands at two indices. -/
theorem nodup_peerAddresses_iff (table : PeerTable) :
    (peerAddresses table).Nodup ↔
      ∀ (i j : Nat) (e e' : PeerEntry), i < j → table[i]? = some (some e) → table[j]? = some (some e') →
        e.address ≠ e'.address := by
  rw [peerAddresses, List.Nodup, List.pairwise_filterMap, List.pairwise_iff_getElem]
  constructor
  · intro distinct i j e e' order at_i at_j
    obtain ⟨lt_i, get_i⟩ := List.getElem?_eq_some_iff.mp at_i
    obtain ⟨lt_j, get_j⟩ := List.getElem?_eq_some_iff.mp at_j
    exact distinct i j lt_i lt_j order _ (by rw [get_i]; rfl) _ (by rw [get_j]; rfl)
  · intro distinct i j lt_i lt_j order a at_i b at_j
    obtain ⟨e, get_i, rfl⟩ := Option.map_eq_some_iff.mp at_i
    obtain ⟨e', get_j, rfl⟩ := Option.map_eq_some_iff.mp at_j
    exact distinct i j e e' order (List.getElem?_eq_some_iff.mpr ⟨lt_i, get_i⟩) (List.getElem?_eq_some_iff.mpr ⟨lt_j, get_j⟩)

namespace PeersSound

variable {table : PeerTable}

/-- An entry is written at an index, where no other index holds its address. -/
theorem set (h : PeersSound table) {i : Nat} {entry : PeerEntry}
    (alone : ∀ (j : Nat) (e : PeerEntry), j ≠ i → table[j]? = some (some e) → e.address ≠ entry.address) :
    PeersSound (table.set i (some entry)) where
  length := by rw [List.length_set]; exact h.length
  distinct := by
    rw [nodup_peerAddresses_iff]
    intro j k e e' order at_j at_k
    rw [List.getElem?_set] at at_j at_k
    split at at_j
    · next here =>
      subst here
      have : some entry = some e := by simpa using (Option.ite_none_right_eq_some.mp at_j).2
      cases this
      rw [if_neg order.ne] at at_k
      exact (alone k e' order.ne' at_k).symm
    · split at at_k
      · next away here =>
        subst here
        have : some entry = some e' := by simpa using (Option.ite_none_right_eq_some.mp at_k).2
        cases this
        exact alone j e (Ne.symm away) at_j
      · exact (nodup_peerAddresses_iff table).mp h.distinct j k e e' order at_j at_k

/-- Entries go, or stay with their address. -/
theorem map (h : PeersSound table) {f : Option PeerEntry → Option PeerEntry}
    (keeps : ∀ x e, f x = some e → ∃ e', x = some e' ∧ e'.address = e.address) : PeersSound (table.map f) where
  length := by rw [List.length_map]; exact h.length
  distinct := by
    rw [nodup_peerAddresses_iff]
    intro j k e e' order at_j at_k
    rw [List.getElem?_map] at at_j at_k
    obtain ⟨x, was_j, becomes⟩ := Option.map_eq_some_iff.mp at_j
    obtain ⟨y, was_k, becomes'⟩ := Option.map_eq_some_iff.mp at_k
    obtain ⟨u, rfl, same⟩ := keeps x e becomes
    obtain ⟨v, rfl, same'⟩ := keeps y e' becomes'
    rw [← same, ← same']
    exact (nodup_peerAddresses_iff table).mp h.distinct j k u v order was_j was_k

/-- The index that holds an address is the only one. -/
theorem alone_of_found (h : PeersSound table) {address i : Nat} (found : findPeer address table = some i) (j : Nat)
    (e : PeerEntry) (away : j ≠ i) (at_j : table[j]? = some (some e)) : e.address ≠ address := by
  rw [findPeer, List.findIdx?_eq_some_iff_getElem] at found
  obtain ⟨lt, holds, -⟩ := found
  split at holds
  · next e' get =>
    have at_i : table[i]? = some (some e') := List.getElem?_eq_some_iff.mpr ⟨lt, get⟩
    rw [← beq_iff_eq.mp holds]
    rcases Nat.lt_or_gt_of_ne away with before | after
    · exact (nodup_peerAddresses_iff table).mp h.distinct j i e e' before at_j at_i
    · exact ((nodup_peerAddresses_iff table).mp h.distinct i j e' e after at_i at_j).symm
  · cases holds

theorem alone_of_missing {address : Nat} (missing : findPeer address table = none) (j : Nat) (e : PeerEntry)
    (at_j : table[j]? = some (some e)) : e.address ≠ address := by
  rw [findPeer, List.findIdx?_eq_none_iff] at missing
  simpa using missing (some e) (List.mem_of_getElem? at_j)

theorem placePeer (h : PeersSound table) {entry : PeerEntry} (missing : findPeer entry.address table = none) :
    PeersSound (placePeer entry table) := by
  unfold Sys2Proof.Machine.placePeer
  split
  · exact h.set fun j e _ at_j => alone_of_missing missing j e at_j
  · exact h

theorem recordLoco (h : PeersSound table) (address : Nat) {record : LocoEntry → LocoEntry}
    (keeps : ∀ e, (record e).address = e.address) : PeersSound (recordLoco address record table) := by
  unfold Sys2Proof.Machine.recordLoco
  split
  · next i found =>
    have lone := h.alone_of_found found
    split
    · next e own =>
      refine h.set ?_
      have address_eq : e.address = address := by
        rw [findPeer, List.findIdx?_eq_some_iff_getElem] at found
        obtain ⟨lt, holds, -⟩ := found
        rw [List.getElem?_eq_getElem lt, Option.join_some] at own
        simpa [own, PeerEntry.address] using holds
      simpa only [PeerEntry.address, keeps, address_eq] using lone
    · refine h.set ?_
      simpa only [PeerEntry.address, keeps, LocoEntry.bare] using lone
  · next missing => exact h.placePeer (by simpa only [PeerEntry.address, keeps, LocoEntry.bare] using missing)

theorem recordMarker (h : PeersSound table) (address : Nat) : PeersSound (recordMarker address table) := by
  unfold Sys2Proof.Machine.recordMarker
  split
  · next i found => exact h.set (h.alone_of_found found)
  · next missing => exact h.placePeer missing

theorem agePeers (h : PeersSound table) : PeersSound (agePeers table) := by
  refine h.map fun x e aged => ?_
  unfold agePeer at aged
  split at aged
  · cases aged
  · next a n =>
    split at aged
    · cases aged
    · cases aged
      exact ⟨_, rfl, rfl⟩
  · next l =>
    dsimp only at aged
    split at aged
    · split at aged
      · cases aged
      · cases aged
        exact ⟨_, rfl, rfl⟩
    · cases aged
      exact ⟨_, rfl, rfl⟩

theorem unpinPeer (h : PeersSound table) (address : Nat) : PeersSound (unpinPeer address table) := by
  refine h.map fun x e unpinned => ?_
  unfold unpinEntry at unpinned
  split at unpinned
  · next l =>
    split at unpinned
    · split at unpinned
      · cases unpinned
        exact ⟨_, rfl, rfl⟩
      · cases unpinned
    · cases unpinned
      exact ⟨_, rfl, rfl⟩
  · exact ⟨e, unpinned, rfl⟩

theorem pinAll {c : Controller} (h : PeersSound c.air.peers) (addresses : List Nat) :
    PeersSound (c.pinAll addresses).air.peers := by
  rw [pinAll_peers]
  exact List.foldlRecOn (motive := PeersSound) addresses _ h fun table sound a _ => sound.recordLoco a fun _ => rfl

theorem unpinAll {c : Controller} (h : PeersSound c.air.peers) (addresses : List Nat) :
    PeersSound (c.unpinAll addresses).air.peers :=
  List.foldlRecOn (motive := fun d : Controller => PeersSound d.air.peers) addresses _ h fun _ sound a _ =>
    sound.unpinPeer a

end PeersSound

/-! ### The invariant -/

theorem Controller.chargeBusy_air (kind : TxKind) (c : Controller) :
    (c.chargeBusy kind).air.rxFifo = c.air.rxFifo ∧ (c.chargeBusy kind).air.peers = c.air.peers ∧
      (c.chargeBusy kind).air.outgoing = c.air.outgoing := by
  unfold Controller.chargeBusy
  dsimp only
  split <;> cases kind <;> exact ⟨rfl, rfl, rfl⟩

/-- A transmission that failed is over (R18). -/
theorem Controller.failTransmission_air (t : Transmission) (c : Controller) :
    (c.failTransmission t).air.rxFifo = c.air.rxFifo ∧ (c.failTransmission t).air.peers = c.air.peers ∧
      (c.failTransmission t).air.outgoing = none := by
  obtain ⟨fifo, peers, outgoing⟩ := (c.onAir (·.putBack t)).chargeBusy_air t.kind
  unfold Controller.failTransmission
  rw [fifo, peers, outgoing]
  cases t with
  | mk kind => cases kind <;> exact ⟨rfl, rfl, rfl⟩

/-- What is fed is the transmission in progress. -/
theorem AirInterface.outgoing_of_feeding {a : AirInterface} {t : Transmission} (feeding : a.feeding = some t) :
    a.outgoing = some t := by
  unfold AirInterface.feeding at feeding
  split at feeding
  · next u _ outgoing =>
    split at feeding
    · cases feeding
    · exact outgoing.trans feeding
  · cases feeding

namespace Controller.AirSound

variable {c d : Controller}

theorem peers (h : c.AirSound) : PeersSound c.air.peers := ⟨h.table, h.distinct⟩

theorem slots (h : c.AirSound) : c.SlotsBounded := ⟨h.join, h.status, h.diag⟩

theorem of_parts (fifo : c.air.rxFifo.length ≤ 8) (peers : PeersSound c.air.peers) (slots : c.SlotsBounded)
    (sent : ∀ t, c.air.outgoing = some t → t.attempts ≤ 7) : c.AirSound :=
  ⟨fifo, peers.length, peers.distinct, slots.1, slots.2.1, slots.2.2, sent⟩

/-- FIFO, table and transmission stand. -/
theorem of_kept (h : c.AirSound) (slots : d.SlotsBounded) (fifo : d.air.rxFifo = c.air.rxFifo)
    (peers : d.air.peers = c.air.peers) (outgoing : d.air.outgoing = c.air.outgoing) : d.AirSound :=
  of_parts (fifo ▸ h.fifo) (peers ▸ h.peers) slots (outgoing ▸ h.sent)

theorem of_air (h : c.AirSound) (air : d.air = c.air) : d.AirSound :=
  h.of_kept ((slots_of_air air).mpr h.slots) (by rw [air]) (by rw [air]) (by rw [air])

/-- FIFO and transmission stand, the table changes. -/
theorem of_table (h : c.AirSound) (slots : d.SlotsBounded) (fifo : d.air.rxFifo = c.air.rxFifo)
    (peers : PeersSound d.air.peers) (outgoing : d.air.outgoing = c.air.outgoing) : d.AirSound :=
  of_parts (fifo ▸ h.fifo) peers slots (outgoing ▸ h.sent)

/-- The transmission is over. -/
theorem of_silent (h : c.AirSound) (slots : d.SlotsBounded) (fifo : d.air.rxFifo.length ≤ c.air.rxFifo.length)
    (peers : d.air.peers = c.air.peers) (outgoing : d.air.outgoing = none) : d.AirSound :=
  of_parts (fifo.trans h.fifo) (peers ▸ h.peers) slots (by simp [outgoing])

theorem cold (own : Nat) (line : Bool) (air : c.air = AirInterface.cold own line) : c.AirSound := by
  refine of_parts ?_ ⟨?_, ?_⟩ ⟨?_, ?_, ?_⟩ ?_ <;> rw [air]
  · exact Nat.zero_le _
  · rfl
  · exact (by decide : (peerAddresses (List.replicate peerTableSize none)).Nodup)
  · exact Nat.zero_le _
  · exact Nat.zero_le _
  · exact Nat.zero_le _
  · exact nofun

/-- A frame joins the FIFO while it holds fewer than eight (R5). -/
theorem receiveFrame (h : c.AirSound) (f : RxFrame) : (c.receiveFrame f).AirSound := by
  unfold Controller.receiveFrame Controller.offerFrame
  split_ifs with _ _ _ _ room
  · exact h
  · exact h.of_kept h.slots rfl rfl rfl
  · exact h.of_kept h.slots rfl rfl rfl
  · exact h.of_kept h.slots rfl rfl rfl
  · refine of_parts ?_ h.peers h.slots h.sent
    simp only [onAir_air, List.length_append, List.length_singleton]
    omega
  · exact h.of_kept h.slots rfl rfl rfl

theorem beginTransmission (h : c.AirSound) (kind : TxKind) : (c.beginTransmission kind).AirSound := by
  have slot : (c.air.slot kind).attempts ≤ 7 := by
    cases kind
    · exact h.join
    · exact h.status
    · exact h.diag
  have set : ∀ s, (c.air.setSlot kind s).rxFifo = c.air.rxFifo ∧ (c.air.setSlot kind s).peers = c.air.peers ∧
      (c.air.setSlot kind s).outgoing = c.air.outgoing := by
    cases kind <;> exact fun _ => ⟨rfl, rfl, rfl⟩
  obtain ⟨fifo, peers, outgoing⟩ := set TxSlot.empty
  have slots := beginTransmission_slots kind h.slots
  unfold Controller.beginTransmission at slots ⊢
  split
  · next unsent =>
    rw [if_pos unsent] at slots
    exact h.of_kept slots fifo peers outgoing
  · next sent =>
    rw [if_neg sent] at slots
    refine of_parts (fifo ▸ h.fifo) (peers ▸ h.peers) slots fun t same => ?_
    cases same
    exact slot

theorem handOver (h : c.AirSound) (t : Transmission) (outgoing : c.air.outgoing = some t) : (c.handOver t).AirSound := by
  have taken : (c.onAir fun a => { a with outgoing := some { t with handedOver := true }, transmitActive := true }).AirSound :=
    of_parts h.fifo h.peers h.slots fun u same => by
      cases same
      exact h.sent t outgoing
  unfold Controller.handOver
  dsimp only
  split
  · exact taken
  · exact taken.of_kept taken.slots rfl rfl rfl
  · exact taken.of_air rfl

theorem failTransmission (h : c.AirSound) (t : Transmission) (bounded : t.attempts ≤ 7) :
    (c.failTransmission t).AirSound := by
  obtain ⟨fifo, peers, outgoing⟩ := c.failTransmission_air t
  exact h.of_silent (failTransmission_slots t h.slots bounded) (by rw [fifo]) peers outgoing

theorem takesFrame (h : c.AirSound) (takes : c.TakesFrame d) : d.AirSound := by
  have slots := takesFrame_slots h.slots takes
  cases takes with
  | couples consistId members =>
    refine h.of_table slots (by simp) ?_ (by simp)
    unfold Controller.judgeCouple Controller.takeCouple
    split_ifs
    · exact h.peers
    · exact h.peers
    · exact h.peers
    · simp only [apply_ite Controller.air, apply_ite AirInterface.peers, unpark_frame, startJoins_frame,
        setConsistState_frame, clearBinding_frame, ite_self]
      exact PeersSound.pinAll (c := c.onConsist _) h.peers _
    · exact h.peers
  | uncouples =>
    refine h.of_table slots (by simp) ?_ (by simp)
    simp only [Controller.dissolve, Controller.returnToSolo, clearBinding_frame, setConsistState_frame, onConsist_air]
    exact h.peers.unpinAll _
  | joins f cls =>
    refine h.of_table slots (by simp) ?_ (by simp)
    unfold Controller.dispatchJoin
    simp only [apply_ite Controller.air, apply_ite AirInterface.peers, joinNotice_frame, ite_self]
    exact h.peers.recordLoco _ fun _ => rfl
  | hears f =>
    refine h.of_table slots (by simp) ?_ (by simp)
    unfold Controller.dispatchStatus
    simp only [statusNotice_frame]
    exact h.peers.recordLoco _ fun _ => rfl
  | passes f =>
    refine h.of_table slots (by simp) ?_ (by simp)
    unfold Controller.dispatchMarker
    dsimp only
    split
    · exact h.peers
    · rw [(markerNotice_frame _ _).2.2.2.2.2.2.2.2.2.2.2.1]
      exact h.peers.recordMarker _
  | _ => exact h.of_kept slots (by simp) (by simp) (by simp)

theorem acts (h : c.AirSound) (acts : c.Acts d) : d.AirSound := by
  cases acts with
  | receives f => exact h.receiveFrame f
  | dispatches f rest _ head takes =>
    refine takesFrame (c := c.withFifo rest) (of_parts ?_ h.peers h.slots h.sent) takes
    have fifo := h.fifo
    rw [head, List.length_cons] at fifo
    exact (Nat.le_succ _).trans fifo
  | agesPeers => exact h.of_table h.slots rfl h.peers.agePeers rfl
  | opensWindow =>
    have opened : c.air.openWindow = { c.air with transmitter := c.air.openWindow.transmitter } := by
      unfold AirInterface.openWindow
      split <;> rfl
    rw [Controller.onAir, opened]
    exact h.of_kept h.slots rfl rfl rfl
  | chargesBusy kind =>
    obtain ⟨fifo, peers, outgoing⟩ := c.chargeBusy_air kind
    exact h.of_kept (chargeBusy_slots kind h.slots) fifo peers outgoing
  | transmits kind => exact h.beginTransmission kind
  | handsOver t feeding => exact h.handOver t (AirInterface.outgoing_of_feeding feeding)
  | endsTransmission => exact h.of_silent h.slots le_rfl rfl rfl
  | failsTransmission t feeding => exact h.failTransmission t (h.sent t (AirInterface.outgoing_of_feeding feeding))
  | cutsOff t feeding =>
    have fallen : (c.onAir fun a => { a with transmitActive := false }).AirSound := h.of_kept h.slots rfl rfl rfl
    exact fallen.failTransmission t (h.sent t (AirInterface.outgoing_of_feeding feeding))
  | quiets => exact h.of_silent h.slots le_rfl rfl rfl
  | leavesQuiet => exact h.of_kept h.slots rfl rfl rfl
  | fallsInQuiet left =>
    have fallen : c.air.fallInQuiet left =
        { c.air with transmitter := (c.air.fallInQuiet left).transmitter, transmitActive := false } := by
      unfold AirInterface.fallInQuiet
      split <;> rfl
    rw [Controller.onAir, fallen]
    exact h.of_kept h.slots rfl rfl rfl
  | reportsAtInterval =>
    have filed : c.fileStatus.AirSound := h.of_kept (fileStatus_slots h.slots) rfl rfl rfl
    exact filed.of_kept filed.slots rfl rfl rfl
  | failsNegotiation =>
    refine h.of_table (failNegotiation_slots h.slots) (by simp) ?_ (by simp)
    simp only [Controller.failNegotiation, Controller.dissolve, Controller.returnToSolo, clearBinding_frame,
      setConsistState_frame, onConsist_air]
    exact PeersSound.unpinAll (c := c.onLatches _) h.peers _
  | regulates bemf current => exact h.of_kept (controlPeriod_slots _ _ h.slots) (by simp) (by simp) (by simp)
  | pulses =>
    have settled : c.settleBeats.SlotsBounded :=
      settleBeats_keeps h.slots (fun _ => failSensor_slots h.slots) (fun slots _ => recoverSensor_slots slots)
        fun slots => (slots_of_air (by simp)).mpr slots
    exact h.of_kept ((slots_of_air (by simp)).mpr settled) (by simp) (by simp) (by simp)
  | restarts =>
    refine h.of_silent (warmRestart_slots c) ?_ ?_ ?_ <;> simp [Controller.warmRestart_eq, Controller.restarted,
      AirInterface.warm]
  | brownsOut => exact .cold _ _ rfl
  | startsCold => exact .cold _ _ rfl
  | millisecond => exact h.of_kept h.slots rfl rfl rfl
  | losesThrottle | measures | stores | ticksBeat | beats | samples | grants | fills | endsPuff | ticksLights | endsFlare
  | qualifies => exact h.of_air (by simp)
  | _ => exact h.of_kept (by simp [h.slots]) (by simp) (by simp) (by simp)

end Controller.AirSound

/-! ### The counters (R180) -/

theorem countUp_le (n : Nat) : countUp n ≤ 255 := saturatingSucc_le 255 n

theorem Counters.bounded_iff (k : Counters) :
    k.Bounded ↔ k.checkFail ≤ 255 ∧ k.malformed ≤ 255 ∧ k.rxOverrun ≤ 255 ∧ k.foreignDrive ≤ 255 ∧ k.txGiveup ≤ 255 ∧
      k.jabber ≤ 255 ∧ k.soundUnderrun ≤ 255 ∧ k.dropoutCount ≤ 255 := by
  simp [Counters.Bounded, Counters.toList]

theorem Counters.zero_bounded : Counters.zero.Bounded := (Counters.bounded_iff _).mpr (by decide)

namespace Controller

variable {c d : Controller}

/-- Each count raises one counter, and no further than 255. -/
theorem counts_bounded (h : c.counters.Bounded) :
    c.countCheckFail.counters.Bounded ∧ c.countMalformed.counters.Bounded ∧ c.countRxOverrun.counters.Bounded ∧
      c.countForeignDrive.counters.Bounded ∧ c.countTxGiveup.counters.Bounded ∧ c.countJabber.counters.Bounded ∧
      (∀ n, (c.countSoundUnderruns n).counters.Bounded) ∧ c.countDropout.counters.Bounded := by
  obtain ⟨check, malformed, overrun, foreign, giveup, jabber, underrun, dropout⟩ := (c.counters.bounded_iff).mp h
  simp only [Counters.bounded_iff]
  exact ⟨⟨countUp_le _, malformed, overrun, foreign, giveup, jabber, underrun, dropout⟩,
    ⟨check, countUp_le _, overrun, foreign, giveup, jabber, underrun, dropout⟩,
    ⟨check, malformed, countUp_le _, foreign, giveup, jabber, underrun, dropout⟩,
    ⟨check, malformed, overrun, countUp_le _, giveup, jabber, underrun, dropout⟩,
    ⟨check, malformed, overrun, foreign, countUp_le _, jabber, underrun, dropout⟩,
    ⟨check, malformed, overrun, foreign, giveup, countUp_le _, underrun, dropout⟩,
    fun n => ⟨check, malformed, overrun, foreign, giveup, jabber, Nat.min_le_left _ _, dropout⟩,
    ⟨check, malformed, overrun, foreign, giveup, jabber, underrun, countUp_le _⟩⟩

theorem chargeBusy_bounded (h : c.counters.Bounded) (kind : TxKind) : (c.chargeBusy kind).counters.Bounded := by
  unfold Controller.chargeBusy
  dsimp only
  split
  · exact (counts_bounded (c := c.onAir _) h).2.2.2.2.1
  · exact h

theorem takesFrame_bounded (h : c.counters.Bounded) (takes : c.TakesFrame d) : d.counters.Bounded := by
  obtain ⟨-, malformed, -, foreign, -, -, -, -⟩ := counts_bounded h
  cases takes with
  | drives frame cls =>
    unfold Controller.takeDrive
    split
    · exact h
    · simpa using h
    · split
      · simpa using h
      · exact foreign
  | couples consistId members =>
    unfold Controller.judgeCouple
    split_ifs
    · exact malformed
    · exact h
    · exact h
    · simpa using h
    · exact h
  | _ => simpa using h

theorem Acts.counters_bounded (h : c.counters.Bounded) (acts : c.Acts d) : d.counters.Bounded := by
  obtain ⟨check, malformed, overrun, -, -, jabber, underruns, dropout⟩ := counts_bounded h
  cases acts with
  | receives f =>
    unfold Controller.receiveFrame Controller.offerFrame
    split_ifs
    · exact h
    · exact check
    · exact malformed
    · exact h
    · exact h
    · exact overrun
  | dispatches f rest _ head takes => exact takesFrame_bounded (c := c.withFifo rest) h takes
  | chargesBusy kind => exact chargeBusy_bounded h kind
  | handsOver t =>
    unfold Controller.handOver
    dsimp only
    split
    · exact h
    · exact h
    · exact Counters.zero_bounded
  | failsTransmission t => exact chargeBusy_bounded (c := c.onAir _) h t.kind
  | cutsOff t => exact chargeBusy_bounded (c := (c.onAir _).onAir _) h t.kind
  | quiets => exact jabber
  | samples => exact underruns _
  | dropsOut =>
    have counted : c.detectDropout.counters = c.countDropout.counters := by simp [Controller.detectDropout]
    exact counted ▸ dropout
  | restarts => simpa using h
  | brownsOut => exact Counters.zero_bounded
  | startsCold => exact Counters.zero_bounded
  | _ => simpa using h

end Controller

/-- Settles O11: the Air Interface and the counters, each kept by every operation. -/
theorem everyStepKeepsTheAirInterfaceBounded : Obligations.EveryStepKeepsTheAirInterfaceBounded :=
  fun _ _ air counters next =>
    ⟨step_keeps Controller.AirSound.acts air next, (step_acts next).counters_bounded counters⟩

end Sys2Proof.Machine
end

section
/-! PROOFS. The heater is off under shed, purge, fault, OFF and parking (R149, R150, R153): the Smoke Controller by itself
first, then the events from other units, then the part. -/

namespace Sys2Proof.Machine

/-! ### The Smoke Controller by itself -/

/-- `Controller.HeaterSafe` of the Smoke Controller alone, at a shed level and in a part mode. -/
structure SmokeController.SafeAt (level : Nat) (mode : PartMode) (k : SmokeController) : Prop where
  heater : k.heater = true → k.state = .heating ∨ k.state = .ready
  heating : k.state = .heating ∨ k.state = .ready → level = 0 ∧ mode = .run
  shed : k.state = .shed → 0 < level ∧ mode = .run
  purge : k.state = .purge → k.fanDuty = 600

theorem Controller.heaterSafe_iff (c : Controller) :
    c.HeaterSafe ↔ c.smoke.SafeAt c.supply.shedLevel c.command.partMode :=
  ⟨fun h => ⟨h.heater, h.heating, h.shed, h.purge⟩, fun h => ⟨h.heater, h.heating, h.shed, h.purge⟩⟩

namespace SmokeController.SafeAt

variable {level : Nat} {mode : PartMode} {k : SmokeController}

/-- OFF and FAULT with the heater off are safe at every level and in every mode. -/
theorem of_resting (state : k.state = .off ∨ k.state = .fault) (heater : k.heater = false) : k.SafeAt level mode := by
  constructor <;> rcases state with state | state <;> simp [state, heater]

theorem enterOff (k : SmokeController) : k.enterOff.SafeAt level mode := of_resting (.inl rfl) rfl

theorem enterFault (k : SmokeController) : k.enterFault.SafeAt level mode := of_resting (.inr rfl) rfl

theorem warm (k : SmokeController) : k.warm.SafeAt level mode := by
  refine of_resting ?_ rfl
  unfold SmokeController.warm
  dsimp only
  split
  · exact .inr rfl
  · exact .inl rfl

theorem enterPurge (k : SmokeController) : k.enterPurge.SafeAt level mode where
  heater := nofun
  heating := nofun
  shed := nofun
  purge _ := rfl

theorem enterHeating (k : SmokeController) : k.enterHeating.SafeAt 0 .run where
  heater := nofun
  heating _ := ⟨rfl, rfl⟩
  shed := nofun
  purge := nofun

theorem enterShed (k : SmokeController) (fan : Nat) (above : 0 < level) : (k.enterShed fan level).SafeAt level .run where
  heater := nofun
  heating := nofun
  shed _ := ⟨above, rfl⟩
  purge := nofun

/-- Temperature, timers, window and puff may change; the fan too, outside PURGE. -/
theorem of_eq {j : SmokeController} (h : k.SafeAt level mode) (state : j.state = k.state) (heater : j.heater = k.heater)
    (fan : k.state = .purge → j.fanDuty = k.fanDuty) : j.SafeAt level mode where
  heater := by rw [heater, state]; exact h.heater
  heating := by rw [state]; exact h.heating
  shed := by rw [state]; exact h.shed
  purge := by rw [state]; exact fun purging => (fan purging).trans (h.purge purging)

/-- Where smoke heats or is shed the part runs, so the return to RUN changes nothing. -/
theorem run (h : k.SafeAt level mode) : k.SafeAt level .run where
  heater := h.heater
  heating heats := ⟨(h.heating heats).1, rfl⟩
  shed sheds := ⟨(h.shed sheds).1, rfl⟩
  purge := h.purge

/-- OFF, PURGE and FAULT are safe at every level and in every mode. -/
theorem elsewhere (h : k.SafeAt level mode) (state : k.state = .off ∨ k.state = .purge ∨ k.state = .fault) (next : Nat)
    (other : PartMode) : k.SafeAt next other where
  heater := h.heater
  heating := by rcases state with state | state | state <;> simp [state]
  shed := by rcases state with state | state | state <;> simp [state]
  purge := h.purge

/-- Smoke follows the shed level (R153). -/
theorem underShed (h : k.SafeAt level mode) (fan next : Nat) : (k.underShed fan next).SafeAt next mode := by
  have sheds : ∀ duty : Nat, next ≠ 0 → mode = .run →
      SafeAt next mode { k with
        state := .shed, heater := false, fanDuty := duty, heatUpTimer := none, puffTimer := none, dryWindow := [] } := by
    intro duty above running
    exact ⟨nofun, nofun, fun _ => ⟨Nat.pos_of_ne_zero above, running⟩, nofun⟩
  unfold SmokeController.underShed
  dsimp only
  split
  · next state =>
    have running := (h.heating (.inl state)).2
    split
    · next zero => exact ⟨h.heater, fun _ => ⟨zero, running⟩, by simp [state], by simp [state]⟩
    · next above => exact sheds _ above running
  · next state =>
    have running := (h.heating (.inr state)).2
    split
    · next zero => exact ⟨h.heater, fun _ => ⟨zero, running⟩, by simp [state], by simp [state]⟩
    · next above => exact sheds _ above running
  · next state =>
    have running := (h.shed state).2
    split
    · next zero => exact ⟨nofun, fun _ => ⟨zero, running⟩, nofun, nofun⟩
    · next above =>
      have off : k.heater = false := by
        by_contra on
        have := h.heater (by simpa using on)
        simp [state] at this
      exact ⟨by simp [off], by simp [state], fun _ => ⟨Nat.pos_of_ne_zero above, running⟩, by simp [state]⟩
  · next state => exact h.elsewhere (.inl state) next mode
  · next state => exact h.elsewhere (.inr (.inl state)) next mode
  · next state => exact h.elsewhere (.inr (.inr state)) next mode

/-- READY is chosen and the heater switched in HEATING and READY only (R149). -/
theorem switchHeater (h : k.SafeAt level mode) (heats : k.state = .heating ∨ k.state = .ready) (target fan : Nat) :
    (k.switchHeater target fan).SafeAt level mode := by
  have state : (k.switchHeater target fan).state = .heating ∨ (k.switchHeater target fan).state = .ready := by
    unfold SmokeController.switchHeater
    dsimp only
    split
    · exact .inr rfl
    · exact heats
  refine ⟨fun _ => state, fun _ => h.heating heats, ?_, ?_⟩ <;> rcases state with state | state <;> simp [state]

end SmokeController.SafeAt

/-! ### Events from other units -/

namespace Controller.HeaterSafe

variable {c d : Controller}

theorem safeAt (h : c.HeaterSafe) : c.smoke.SafeAt c.supply.shedLevel c.command.partMode := (c.heaterSafe_iff).mp h

theorem of_safeAt (level : d.supply.shedLevel = c.supply.shedLevel) (mode : d.command.partMode = c.command.partMode)
    (safe : d.smoke.SafeAt c.supply.shedLevel c.command.partMode) : d.HeaterSafe :=
  (d.heaterSafe_iff).mpr (level ▸ mode ▸ safe)

theorem of_eq (h : c.HeaterSafe) (smoke : d.smoke = c.smoke) (level : d.supply.shedLevel = c.supply.shedLevel)
    (mode : d.command.partMode = c.command.partMode) : d.HeaterSafe :=
  of_safeAt level mode (smoke ▸ h.safeAt)

theorem of_cold (smoke : d.smoke = .cold) : d.HeaterSafe := by
  rw [Controller.heaterSafe_iff, smoke]
  exact .of_resting (.inl rfl) rfl

theorem changeSmoke {f : SmokeController → SmokeController}
    (safe : (f c.smoke).SafeAt c.supply.shedLevel c.command.partMode) : (c.changeSmoke f).HeaterSafe :=
  of_safeAt (c := c) (by simp) (by simp) (by simpa [Controller.changeSmoke] using safe)

theorem startSmoke (running : c.command.partMode = .run) : c.startSmoke.HeaterSafe := by
  refine changeSmoke ?_
  rw [running]
  split
  · next zero => rw [zero]; exact .enterHeating _
  · next above => exact .enterShed _ _ (Nat.pos_of_ne_zero above)

theorem smokeEdge (h : c.HeaterSafe) (rising : Bool) : (c.smokeEdge rising).HeaterSafe := by
  unfold Controller.smokeEdge
  split
  · split
    · next asked => exact startSmoke asked.1
    · exact h
  · split
    · exact changeSmoke (.enterOff _)
    · exact changeSmoke (.enterOff _)
    · exact changeSmoke (.enterOff _)
    · exact h

theorem setShedLevel (h : c.HeaterSafe) (level : Nat) : (c.setShedLevel level).HeaterSafe := by
  have outcome : c.setShedLevel level = c ∨ (c.setShedLevel level).smoke = c.smoke.underShed c.settings.fanIdle level := by
    unfold Controller.setShedLevel
    split
    · exact .inl rfl
    · exact .inr (by simp [Controller.smokeShed_under])
  obtain same | smoke := outcome
  · rwa [same]
  · rw [Controller.heaterSafe_iff, smoke]
    simp only [setShedLevel_supply, setShedLevel_frame]
    exact h.safeAt.underShed _ level

theorem unpark (h : c.HeaterSafe) : c.unpark.HeaterSafe := by
  have running : (c.setMode .run).fileStatus.triggerAmbient.HeaterSafe := by
    rw [Controller.heaterSafe_iff]
    simp only [triggerAmbient_frame, fileStatus_frame, setMode_frame]
    exact h.safeAt.run
  have resumed : ((c.setMode .run).fileStatus.triggerAmbient.smokeUnpark).HeaterSafe := by
    unfold Controller.smokeUnpark
    split
    · exact startSmoke (by simp [Controller.setMode])
    · exact running
  exact resumed.of_eq (by simp [Controller.unpark]) (by simp [Controller.unpark]) (by simp [Controller.unpark])

/-- Smoke that heats or is shed turns off as the part parks (R154). -/
theorem enterParked (h : c.HeaterSafe) : c.enterParked.HeaterSafe := by
  have smoke : c.enterParked.smoke = ((((c.setMode .parked).fileStatus).onSound (·.park)).smokePark).smoke := by
    simp [Controller.enterParked]
  rw [Controller.heaterSafe_iff, smoke]
  unfold Controller.smokePark
  split
  · simpa [Controller.changeSmoke] using .enterOff _
  · simpa [Controller.changeSmoke] using .enterOff _
  · simpa [Controller.changeSmoke] using .enterOff _
  · next heating ready shed =>
    simp only [onSound_smoke, fileStatus_frame, setMode_frame] at heating ready shed ⊢
    refine h.safeAt.elsewhere ?_ _ _
    cases state : c.smoke.state with
    | heating => exact absurd state heating
    | ready => exact absurd state ready
    | shed => exact absurd state shed
    | off => exact .inl rfl
    | purge => exact .inr (.inl rfl)
    | fault => exact .inr (.inr rfl)

/-! ### Driving -/

theorem deliverEdge (h : c.HeaterSafe) (action : FunctionAction) (rising before : Bool) :
    (c.deliverEdge action rising before).HeaterSafe := by
  cases action with
  | smokeEnable =>
    simp only [Controller.deliverEdge]
    split
    · exact h
    · exact h.smokeEdge _
  | lights | sound | dim | soundOn =>
    simp only [Controller.deliverEdge]
    exact h.of_eq (by (try split) <;> simp) (by simp [apply_ite Controller.supply]) (by simp [apply_ite Controller.command])
  | none | shunt => exact h

theorem applyFunctions (h : c.HeaterSafe) (value mask : BitVec 24) : (c.applyFunctions value mask).HeaterSafe := by
  refine List.foldlRecOn (motive := Controller.HeaterSafe) _ _ h fun e safe i _ => ?_
  unfold Controller.applyFunction
  split
  · exact deliverEdge (c := e.onCommand _) (safe.of_eq rfl rfl rfl) _ _ _
  · exact safe

theorem takeDrive (h : c.HeaterSafe) (frame : DriveFrame) (cls : DestinationClass) : (c.takeDrive frame cls).HeaterSafe := by
  unfold Controller.takeDrive
  split
  · exact h
  · exact h.applyFunctions _ _
  · next via _ =>
    split
    · have recorded : (c.recordDrive frame via).HeaterSafe := h.of_eq rfl rfl rfl
      have noticed := (recorded.applyFunctions frame.functions (c.pathMask (.binding via))).of_eq
        (d := ((c.recordDrive frame via).applyFunctions frame.functions (c.pathMask (.binding via))).noticeDrive
          frame.step via |>.restartPark frame.step) (by simp) (by simp) (by simp)
      unfold Controller.acceptDrive
      dsimp only
      split
      · exact noticed.unpark
      · exact noticed
    · exact h.of_eq (by simp) (by simp) (by simp)

theorem judgeCouple (h : c.HeaterSafe) (consistId : Nat) (members : List (Nat × Orientation)) :
    (c.judgeCouple consistId members).HeaterSafe := by
  have taken : (c.takeCouple consistId members).HeaterSafe := by
    unfold Controller.takeCouple
    dsimp only
    split
    · exact unpark (h.of_eq (by simp) (by simp) (by simp))
    · exact h.of_eq (by simp) (by simp) (by simp)
  unfold Controller.judgeCouple
  split_ifs
  · exact h.of_eq (by simp) (by simp) (by simp)
  · exact h
  · exact h
  · exact taken
  · exact h.of_eq rfl rfl rfl

theorem takesFrame (h : c.HeaterSafe) (takes : c.TakesFrame d) : d.HeaterSafe := by
  cases takes with
  | drives frame cls => exact h.takeDrive frame cls
  | couples consistId members => exact h.judgeCouple consistId members
  | _ => exact h.of_eq (by simp) (by simp) (by simp)

/-! ### Samples, beats and the supply -/

theorem startPurge (c : Controller) : c.startPurge.HeaterSafe :=
  (changeSmoke (c := c) (.enterPurge _)).of_eq rfl rfl rfl

/-- A sample measures before it judges: temperature and window are free. -/
theorem measured (h : c.HeaterSafe) (t : Nat) (window : SmokeController → List Nat) :
    (c.onSmoke fun k => { k with temperature := t, dryWindow := window k }).HeaterSafe :=
  of_safeAt (c := c) rfl rfl (h.safeAt.of_eq rfl rfl fun _ => rfl)

theorem smokeTick (h : c.HeaterSafe) (reading : Nat) : (c.smokeTick reading).HeaterSafe := by
  unfold Controller.smokeTick
  dsimp only
  split
  · exact (changeSmoke (.enterFault _)).of_eq rfl rfl rfl
  · have safe := h.measured (temperatureOf c.settings.temperatureTable reading)
      fun k => nextWindow k.heater (temperatureOf c.settings.temperatureTable reading) k.dryWindow
    split
    · next heats =>
      split
      · exact startPurge _
      · exact of_safeAt (c := c) rfl rfl (safe.safeAt.switchHeater heats _ _)
    · exact safe

theorem puffBeat (h : c.HeaterSafe) (labour : LabourLevel) : (c.puffBeat labour).HeaterSafe := by
  unfold Controller.puffBeat
  split
  · next ready => exact of_safeAt (c := c) rfl rfl (h.safeAt.of_eq rfl rfl (by simp [ready]))
  · exact h

theorem emitBeat (h : c.HeaterSafe) : c.emitBeat.HeaterSafe := by
  have heard : (((c.onBeat (·.space)).onSound (·.beatTrigger c.motion.labour c.beat.phase))).HeaterSafe := h.of_eq rfl rfl rfl
  exact (heard.puffBeat c.motion.labour).of_eq (by simp [Controller.emitBeat, Controller.deliverBeat])
    (by simp [Controller.emitBeat]) (by simp [Controller.emitBeat])

theorem settleBeats (h : c.HeaterSafe) : c.settleBeats.HeaterSafe :=
  settleBeats_keeps h (fun _ => h.of_eq (by simp) (by simp) (by simp))
    (fun safe _ => safe.of_eq (by simp) (by simp) (by simp))
    fun safe => safe.emitBeat.of_eq rfl rfl rfl

theorem acceptPulse (h : c.HeaterSafe) : c.acceptPulse.HeaterSafe := by
  have onBeat : ∀ {e : Controller}, e.HeaterSafe → ∀ f, (e.onBeat f).HeaterSafe := fun safe _ => safe.of_eq rfl rfl rfl
  unfold Controller.acceptPulse
  dsimp only
  split
  · exact onBeat (onBeat h _) _
  · split
    · unfold Controller.countPulse
      split
      · exact (onBeat (onBeat h _) _).emitBeat
      · exact onBeat (onBeat h _) _
    · exact onBeat h _

theorem enterHold (h : c.HeaterSafe) : c.enterHold.HeaterSafe :=
  setShedLevel (h.of_eq (by simp) (by simp) (by simp)) 4

theorem judgeLadder (h : c.HeaterSafe) : c.judgeLadder.HeaterSafe := by
  unfold Controller.judgeLadder
  dsimp only
  split
  · exact h.enterHold
  · exact h.setShedLevel _

theorem supplyTick (h : c.HeaterSafe) (vin vres : Nat) : (c.supplyTick vin vres).HeaterSafe := by
  unfold Controller.supplyTick
  dsimp only
  split
  · exact h.of_eq rfl (by simp [apply_ite SupplyMonitor.shedLevel, SupplyMonitor.qualifySample]) rfl
  · split
    · exact judgeLadder (h.of_eq rfl rfl rfl)
    · exact h.of_eq rfl rfl rfl

theorem endPurge (h : c.HeaterSafe) (purging : c.smoke.state = .purge) : c.endPurge.HeaterSafe := by
  have off : c.smoke.heater = false := by
    by_contra on
    have := h.heater (by simpa using on)
    simp [purging] at this
  refine changeSmoke (.of_resting ?_ off)
  dsimp only
  split
  · exact .inr rfl
  · exact .inl rfl

theorem endPuff (h : c.HeaterSafe) (ready : c.smoke.state = .ready) : c.endPuff.HeaterSafe :=
  of_safeAt (c := c) rfl rfl (h.safeAt.of_eq rfl rfl (by simp [ready]))

theorem warmRestart (c : Controller) : c.warmRestart.HeaterSafe := by
  have smoke : c.warmRestart.smoke = c.smoke.warm := by simp [Controller.warmRestart_eq, Controller.restarted, Controller.changeSmoke]
  rw [Controller.heaterSafe_iff, smoke]
  exact .warm _

/-- In START nothing heats and nothing is shed, so the level may become 0. -/
theorem qualifySupply (h : c.HeaterSafe) (starting : c.command.partMode = .start) : c.qualifySupply.HeaterSafe := by
  have state : c.smoke.state = .off ∨ c.smoke.state = .purge ∨ c.smoke.state = .fault := by
    have heating := h.heating
    have shed := h.shed
    rw [starting] at heating shed
    cases state : c.smoke.state <;> simp [state] at heating shed ⊢
  rw [Controller.heaterSafe_iff]
  simp only [Controller.qualifySupply, judgeLights_frame, onSupply_smoke, onSupply_supply, onSupply_command]
  exact h.safeAt.elsewhere state _ _

theorem enterRun (h : c.HeaterSafe) : c.enterRun.HeaterSafe := by
  rw [Controller.heaterSafe_iff]
  simpa [Controller.enterRun, Controller.setMode] using h.safeAt.run

theorem acts (h : c.HeaterSafe) (acts : c.Acts d) : d.HeaterSafe := by
  cases acts with
  | millisecond => exact of_safeAt (c := c) rfl rfl (h.safeAt.of_eq rfl rfl fun _ => rfl)
  | dispatches f rest _ head takes => exact takesFrame (c := c.withFifo rest) (h.of_eq rfl rfl rfl) takes
  | parks => exact h.enterParked
  | pulses => exact h.settleBeats.acceptPulse
  | beats => exact h.emitBeat.of_eq rfl rfl rfl
  | smokes reading => exact h.smokeTick reading
  | purges => exact startPurge c
  | endsPurge purging => exact h.endPurge purging
  | endsPuff ready => exact h.endPuff ready
  | samplesSupply vin vres => exact h.supplyTick vin vres
  | dropsOut => exact judgeLadder (h.of_eq (by simp) (by simp) (by simp))
  | endsHold => exact setShedLevel (h.of_eq (by simp) (by simp) (by simp)) 3
  | stepsDown => exact (h.setShedLevel _).of_eq rfl rfl rfl
  | restarts => exact warmRestart c
  | brownsOut => exact of_cold rfl
  | startsCold => exact of_cold rfl
  | qualifies starting => exact h.qualifySupply starting
  | runs => exact h.enterRun
  | _ => exact h.of_eq (by simp) (by simp) (by simp)

end Controller.HeaterSafe

/-- Settles O8: `Controller.HeaterSafe.acts` for every operation. -/
theorem everyStepKeepsTheHeaterSafe : Obligations.EveryStepKeepsTheHeaterSafe :=
  fun _ _ safe next => step_keeps Controller.HeaterSafe.acts safe next

end Sys2Proof.Machine
end

section
/-! PROOFS. Every output is lit exactly as its inputs call for (R157 to R159): what a judgement reads, that each operation which
moves one of those inputs judges the lights again, and what the light timers leave. -/

namespace Sys2Proof.Machine

/-! ### What a judgement reads -/

/-- All that `Controller.isLit` looks at. -/
def Controller.lightInputs (c : Controller) :
    List OutputRecord × (Nat → Bool) × PartMode × Direction × ConsistState × Option Role × Nat :=
  (c.settings.outputs, fun k => anyFunctionOn c.settings.functionMap c.command.functions (FunctionAction.lightsOutput k),
    c.command.partMode, c.motion.travel, c.consist.state, c.consist.membership.map (·.role), c.supply.shedLevel)

theorem Controller.isLit_congr {c d : Controller} (same : d.lightInputs = c.lightInputs) (k : Nat) : d.isLit k = c.isLit k := by
  simp only [Controller.lightInputs, Prod.mk.injEq] at same
  obtain ⟨outputs, functions, mode, travel, state, role, level⟩ := same
  simp only [Controller.isLit, Controller.onCondition, Controller.lightsFunctionLevel, Controller.outputRecord, outputs,
    congrFun functions k, mode, travel, state, role, level]

@[simp] theorem ConsistUnit.mapOthers_role (f : MemberRecord → MemberRecord) (k : ConsistUnit) :
    (k.mapOthers f).membership.map (·.role) = k.membership.map (·.role) := by
  simp [ConsistUnit.mapOthers, Function.comp_def]

theorem getLsbD_flip (functions : BitVec 24) {i j : Nat} (other : j ≠ i) :
    (functions ^^^ (1#24 <<< i)).getLsbD j = functions.getLsbD j := by
  have unset : (1#24 <<< i).getLsbD j = false := by
    rw [BitVec.getLsbD_shiftLeft, BitVec.getLsbD_one]
    by_cases below : j < i
    · simp [below]
    · have : j - i ≠ 0 := by omega
      simp [this]
  rw [BitVec.getLsbD_xor, unset, Bool.xor_false]

/-- A function whose action is not LIGHTS has no part in the lights-function levels (R32). -/
theorem anyFunctionOn_lights_flip {map : List FunctionAction} (functions : BitVec 24) {i : Nat}
    (unlit : ∀ mask, map.getD i .none ≠ .lights mask) (k : Nat) :
    anyFunctionOn map (functions ^^^ (1#24 <<< i)) (FunctionAction.lightsOutput k)
      = anyFunctionOn map functions (FunctionAction.lightsOutput k) := by
  have dark : FunctionAction.lightsOutput k (map.getD i .none) = false := by
    cases action : map.getD i .none with
    | lights mask => exact absurd action (unlit mask)
    | _ => rfl
  rw [anyFunctionOn, anyFunctionOn, Bool.eq_iff_iff]
  simp only [List.any_eq_true, List.mem_range, Bool.and_eq_true]
  refine exists_congr fun j => and_congr_right fun inside => ?_
  by_cases same : j = i
  · subst same
    rw [dark]
    simp
  · rw [getLsbD_flip functions same]

/-! ### Sound lights -/

/-- The lights as every step leaves them: judged, with each output's timer and level as its lit flag asks for. -/
structure Controller.LightsSound (c : Controller) : Prop where
  judged : c.LightsJudged
  outputs : ∀ o ∈ c.light.outputs, o.Sound

/-- An output that is not turned on or off by the tick keeps its timer running or stopped (R159). -/
theorem lightOutputTick_lit (c : Controller) (k register : Nat) (o : LightOutput) :
    (lightOutputTick c k register o).1.lit = o.lit := by
  unfold lightOutputTick
  dsimp only
  split
  · rfl
  · split <;> rfl

theorem lightOutputTick_sound {o : LightOutput} (h : o.Sound) (c : Controller) (k register : Nat) :
    (lightOutputTick c k register o).1.Sound := by
  have timed : o.effectTimer ≠ none → o.lit = true := fun runs => by
    by_contra dark
    exact runs (h.1 (by simpa using dark)).2
  unfold lightOutputTick
  dsimp only
  split
  · exact h
  · next t runs =>
    have lit : o.lit = true := timed (by rw [runs]; exact nofun)
    split
    · exact ⟨by simp [lit], fun _ => rfl⟩
    · exact ⟨by simp [lit], fun _ => rfl⟩

namespace Controller.LightsSound

variable {c d : Controller}

theorem of_eq (h : c.LightsSound) (outputs : d.light.outputs = c.light.outputs) (inputs : d.lightInputs = c.lightInputs) :
    d.LightsSound where
  judged k o found := by
    rw [outputs] at found
    rw [isLit_congr inputs]
    exact h.judged k o found
  outputs := outputs ▸ h.outputs

theorem judgeLights (sound : ∀ o ∈ c.light.outputs, o.Sound) : c.judgeLights.LightsSound where
  judged := c.judgeLights_judged
  outputs o member := by
    obtain ⟨k, found⟩ := List.mem_iff_getElem?.mp member
    simp only [Controller.judgeLights, Controller.onLight, List.getElem?_mapIdx, Option.map_eq_some_iff] at found
    obtain ⟨before, stood, rfl⟩ := found
    exact LightOutput.judge_sound _ _ (sound before (List.mem_of_getElem? stood))

/-- Each output kept lit or dark and sound keeps the lights judged where nothing else of the part moves. -/
theorem onOutputs (h : c.LightsSound) (inputs : d.lightInputs = c.lightInputs)
    (each : ∀ (k : Nat) (o : LightOutput), d.light.outputs[k]? = some o →
      ∃ before : LightOutput, c.light.outputs[k]? = some before ∧ o.lit = before.lit ∧ o.Sound) :
    d.LightsSound where
  judged k o found := by
    obtain ⟨before, stood, lit, -⟩ := each k o found
    rw [lit, isLit_congr inputs]
    exact h.judged k before stood
  outputs o member := by
    obtain ⟨k, found⟩ := List.mem_iff_getElem?.mp member
    obtain ⟨-, -, -, sound⟩ := each k o found
    exact sound

/-- With every output dark and no function on, nothing is lit. -/
theorem of_dark (outputs : d.light.outputs = List.replicate 8 LightOutput.dark) (functions : d.command.functions = 0#24) :
    d.LightsSound where
  judged k o found := by
    have dark : o = LightOutput.dark := List.eq_of_mem_replicate (outputs ▸ List.mem_of_getElem? found)
    have off : d.isLit k = false := by
      simp [Controller.isLit, Controller.onCondition, Controller.lightsFunctionLevel, anyFunctionOn, functions]
    rw [dark, off]
    rfl
  outputs o member := by
    have dark : o = LightOutput.dark := List.eq_of_mem_replicate (outputs ▸ member)
    rw [dark]
    exact ⟨fun _ => ⟨rfl, rfl⟩, nofun⟩

/-! ### The Light Controller's own timers -/

theorem lightTick (h : c.LightsSound) : c.lightTick.LightsSound := by
  obtain ⟨-, length, ticked⟩ := lightOutputsTick_outcome c 0 c.light.randomRegister c.light.outputs
  refine h.onOutputs (by simp [Controller.lightInputs]) fun k o found => ?_
  change (lightOutputsTick c 0 c.light.randomRegister c.light.outputs).1[k]? = some o at found
  have inside : k < c.light.outputs.length := length ▸ (List.getElem?_eq_some_iff.mp found).1
  have stood := List.getElem?_eq_getElem inside
  rw [ticked k _ stood] at found
  cases found
  exact ⟨_, stood, lightOutputTick_lit .., lightOutputTick_sound (h.outputs _ (List.mem_of_getElem? stood)) ..⟩

theorem endFlare (h : c.LightsSound) : c.endFlare.LightsSound := by
  refine h.onOutputs (by simp [Controller.lightInputs]) fun k o found => ?_
  simp only [Controller.endFlare, Controller.onLight, List.getElem?_mapIdx, Option.map_eq_some_iff] at found
  obtain ⟨before, stood, rfl⟩ := found
  have sound := h.outputs _ (List.mem_of_getElem? stood)
  refine ⟨before, stood, ?_⟩
  split
  · next raised =>
    obtain ⟨lit, -⟩ := raised
    exact ⟨rfl, by simp [lit], fun _ => sound.2 lit⟩
  · exact ⟨rfl, sound⟩

/-- A beat raises the FLICKER outputs at their next tick, through the flare timer only (R163). -/
theorem emitBeat (h : c.LightsSound) : c.emitBeat.LightsSound := by
  have flare : ∀ (labour : LabourLevel) (e : Controller), (e.flareBeat labour).light.outputs = e.light.outputs := by
    intro labour e
    simp only [Controller.flareBeat, Controller.onLight]
    split <;> rfl
  exact h.of_eq (by simp [Controller.emitBeat, Controller.deliverBeat, flare]) (by simp [Controller.lightInputs])

theorem timedBeat (h : c.LightsSound) : c.timedBeat.LightsSound := h.emitBeat.of_eq rfl rfl

theorem settleBeats (h : c.LightsSound) : c.settleBeats.LightsSound :=
  settleBeats_keeps h (fun _ => h.of_eq (by simp) (by simp [Controller.lightInputs]))
    (fun sound _ => sound.of_eq (by simp) (by simp [Controller.lightInputs])) timedBeat

theorem acceptPulse (h : c.LightsSound) : c.acceptPulse.LightsSound := by
  unfold Controller.acceptPulse
  dsimp only
  split
  · exact h.of_eq rfl rfl
  · split
    · unfold Controller.countPulse
      split
      · exact emitBeat (h.of_eq rfl rfl)
      · exact h.of_eq rfl rfl
    · exact h.of_eq rfl rfl

/-! ### Shed level, part mode, functions -/

theorem setShedLevel (h : c.LightsSound) (level : Nat) : (c.setShedLevel level).LightsSound := by
  unfold Controller.setShedLevel
  split
  · exact h
  · exact judgeLights (by simpa using h.outputs)

theorem unpark (sound : ∀ o ∈ c.light.outputs, o.Sound) : c.unpark.LightsSound := judgeLights (by simpa using sound)

theorem applyFunction (h : c.LightsSound) (value mask : BitVec 24) (i : Nat) : (c.applyFunction value mask i).LightsSound := by
  unfold Controller.applyFunction
  split
  · dsimp only
    generalize flipped : (c.onCommand fun u => { u with functions := u.functions ^^^ (1#24 <<< i) }) = e
    have outputs : e.light.outputs = c.light.outputs := by rw [← flipped]; rfl
    have sound : ∀ o ∈ e.light.outputs, o.Sound := outputs ▸ h.outputs
    have stands (unlit : ∀ m, c.settings.functionMap.getD i .none ≠ .lights m) : e.LightsSound := by
      refine h.of_eq outputs ?_
      rw [← flipped]
      simp only [Controller.lightInputs, Controller.onCommand, anyFunctionOn_lights_flip _ unlit]
    cases action : c.settings.functionMap.getD i .none with
    | lights m => exact judgeLights sound
    | dim =>
      simp only [Controller.deliverEdge]
      split
      · exact stands (by rw [action]; exact nofun)
      · exact judgeLights sound
    | none | shunt => exact stands (by rw [action]; exact nofun)
    | sound | soundOn | smokeEnable =>
      simp only [Controller.deliverEdge]
      split
      · exact (stands (by rw [action]; exact nofun)).of_eq (by simp) (by simp [Controller.lightInputs])
      · exact (stands (by rw [action]; exact nofun)).of_eq (by simp) (by simp [Controller.lightInputs])
  · exact h

theorem applyFunctions (h : c.LightsSound) (value mask : BitVec 24) : (c.applyFunctions value mask).LightsSound :=
  List.foldlRecOn (motive := Controller.LightsSound) _ _ h fun _ sound i _ => sound.applyFunction value mask i

theorem takeDrive (h : c.LightsSound) (frame : DriveFrame) (cls : DestinationClass) : (c.takeDrive frame cls).LightsSound := by
  unfold Controller.takeDrive
  split
  · exact h
  · exact h.applyFunctions _ _
  · next via _ =>
    split
    · have recorded : (c.recordDrive frame via).LightsSound := h.of_eq (by simp) (by simp [Controller.lightInputs])
      have noticed := (recorded.applyFunctions frame.functions (c.pathMask (.binding via))).of_eq
        (d := ((c.recordDrive frame via).applyFunctions frame.functions (c.pathMask (.binding via))).noticeDrive
          frame.step via |>.restartPark frame.step) (by simp) (by simp [Controller.lightInputs])
      unfold Controller.acceptDrive
      dsimp only
      split
      · exact unpark noticed.outputs
      · exact noticed
    · exact h.of_eq (by simp) (by simp [Controller.lightInputs])

/-! ### The consist state -/

theorem setConsistState (sound : ∀ o ∈ c.light.outputs, o.Sound) (state : ConsistState) :
    (c.setConsistState state).LightsSound := by
  have judged : ((c.onConsist fun k => { k with state := state }).afterStateChange.fileStatus.judgeLights).LightsSound :=
    judgeLights (by simpa using sound)
  unfold Controller.setConsistState
  dsimp only
  split
  · exact judged.of_eq rfl rfl
  · exact judged

/-- A change of the consist record that keeps state and role keeps the lights. -/
theorem onConsist (h : c.LightsSound) {f : ConsistUnit → ConsistUnit} (state : (f c.consist).state = c.consist.state)
    (role : (f c.consist).membership.map (·.role) = c.consist.membership.map (·.role)) : (c.onConsist f).LightsSound :=
  h.of_eq rfl (by simp [Controller.lightInputs, state, role])

theorem startJoins (h : c.LightsSound) : c.startJoins.LightsSound := h.of_eq rfl rfl

theorem enterFormed (h : c.LightsSound) : c.enterFormed.LightsSound := by
  unfold Controller.enterFormed
  split
  · exact setConsistState (c := c.onConsist _) h.outputs _
  · exact h

theorem advanceNegotiation (h : c.LightsSound) : c.advanceNegotiation.LightsSound := by
  have acknowledged : c.enterAcknowledge.LightsSound := by
    unfold Controller.enterAcknowledge
    split
    · exact (setConsistState h.outputs _).startJoins
    · exact h
  exact acknowledged.enterFormed

theorem resumeNegotiation (h : c.LightsSound) : c.resumeNegotiation.LightsSound := by
  unfold Controller.resumeNegotiation
  split
  · exact (h.onConsist (f := fun k => { k with negotiationTimer := some 5000 }) rfl rfl).startJoins.advanceNegotiation
  · exact h

theorem dissolve (h : c.LightsSound) : c.dissolve.LightsSound := by
  have returned : c.returnToSolo.LightsSound := setConsistState (by simpa using h.outputs) _
  exact returned.of_eq rfl rfl

theorem breakConsist (h : c.LightsSound) (address : Nat) : (c.breakConsist address).LightsSound :=
  setConsistState (c := (c.onConsist _).onLatches _) h.outputs _

theorem judgeRenegotiation (h : c.LightsSound) : c.judgeRenegotiation.LightsSound := by
  unfold Controller.judgeRenegotiation Controller.renegotiate
  split
  · exact (setConsistState (c := c.onConsist _) h.outputs _).startJoins
  · exact h

theorem onMember (h : c.LightsSound) (address : Nat) (f : MemberRecord → MemberRecord) :
    (c.onConsist (·.onMember address f)).LightsSound :=
  h.onConsist rfl (ConsistUnit.mapOthers_role ..)

theorem loseMember (h : c.LightsSound) (address : Nat) : (c.loseMember address).LightsSound :=
  h.onConsist rfl (ConsistUnit.mapOthers_role ..)

theorem rehearMember (h : c.LightsSound) (address : Nat) : (c.rehearMember address).LightsSound := by
  have reheard := h.onMember address fun o => { o with mark := .reheard }
  unfold Controller.rehearMember Controller.judgeLost
  split
  · exact judgeRenegotiation (reheard.onConsist rfl rfl)
  · exact reheard

theorem superviseStatus (h : c.LightsSound) (o : MemberRecord) (f : StatusFields) : (c.superviseStatus o f).LightsSound := by
  unfold Controller.superviseStatus
  split
  · unfold Controller.statusInAcknowledge
    split
    · exact (h.onMember o.address fun o => { o with ackHeard := true }).enterFormed
    · exact h
  · unfold Controller.statusInFormed
    split
    · split
      · exact h.onMember ..
      · exact h
      · exact h.breakConsist _
    · exact h.breakConsist _
  · unfold Controller.statusInBroken
    split
    · split
      · exact h.onMember ..
      · exact h.loseMember _
    · exact h.rehearMember _
    · exact h
  · exact h

theorem statusNotice (h : c.LightsSound) (source : Nat) (f : StatusFields) (previous : Option Bool) :
    (c.statusNotice source f previous).LightsSound := by
  unfold Controller.statusNotice
  split
  · exact h
  · split
    · exact h
    · next o _ => exact (h.superviseStatus o f).of_eq (by simp) (by simp [Controller.lightInputs])

theorem joinNotice (h : c.LightsSound) (source : Nat) (j : JoinFields) : (c.joinNotice source j).LightsSound := by
  have heard := (h.onMember source fun o =>
    { o with ability := some j.ability, ackHeard := o.ackHeard || j.ack }).advanceNegotiation
  unfold Controller.joinNotice
  split
  · exact h
  · split
    · exact heard
    · exact heard
    · split
      · exact h.rehearMember source
      · exact h
    · exact h

theorem judgeCouple (h : c.LightsSound) (consistId : Nat) (members : List (Nat × Orientation)) :
    (c.judgeCouple consistId members).LightsSound := by
  have taken : (c.takeCouple consistId members).LightsSound := by
    unfold Controller.takeCouple
    dsimp only
    split
    · exact unpark (startJoins (setConsistState (by simpa using h.outputs) _)).outputs
    · exact startJoins (setConsistState (by simpa using h.outputs) _)
  unfold Controller.judgeCouple
  split_ifs
  · exact h.of_eq (by simp) (by simp [Controller.lightInputs])
  · exact h
  · exact h
  · exact taken
  · exact h.of_eq rfl rfl

theorem takesFrame (h : c.LightsSound) (takes : c.TakesFrame d) : d.LightsSound := by
  cases takes with
  | drives frame cls => exact h.takeDrive frame cls
  | couples consistId members => exact h.judgeCouple consistId members
  | uncouples => exact h.dissolve
  | joins f cls =>
    have recorded : (c.onPeers (recordLoco (frameSource f.bytes)
        (LocoEntry.heardJoin (joinFields (payloadOf f.bytes))))).LightsSound := h.of_eq rfl rfl
    unfold Controller.dispatchJoin
    dsimp only
    split
    · exact recorded.joinNotice _ _
    · exact recorded
  | hears f => exact statusNotice (c := c.onPeers _) (h.of_eq rfl rfl) _ _ _
  | _ => exact h.of_eq (by simp) (by simp [Controller.lightInputs])

/-! ### The supply and the part -/

theorem setSupplyState (h : c.LightsSound) (state : SupplyState) : (c.setSupplyState state).LightsSound := by
  have changed : (c.onSupply fun u => { u with state := state }).LightsSound := h.of_eq rfl rfl
  cases state with
  | normal => exact changed.resumeNegotiation
  | dropout | hold | settle =>
    exact changed.of_eq (by simp [Controller.setSupplyState]) (by simp [Controller.setSupplyState, Controller.lightInputs])

theorem supplyNormal (h : c.LightsSound) : c.supplyNormal.LightsSound :=
  setSupplyState (c := c.onSupply _) (h.of_eq rfl rfl) _

theorem enterHold (h : c.LightsSound) : c.enterHold.LightsSound :=
  setShedLevel (setSupplyState (c := c.onSupply _) (h.of_eq rfl rfl) _) 4

theorem judgeLadder (h : c.LightsSound) : c.judgeLadder.LightsSound := by
  unfold Controller.judgeLadder
  dsimp only
  split
  · exact h.enterHold
  · exact h.setShedLevel _

theorem supplyTick (h : c.LightsSound) (vin vres : Nat) : (c.supplyTick vin vres).LightsSound := by
  unfold Controller.supplyTick
  dsimp only
  split
  · exact h.of_eq rfl (by
      simp [Controller.lightInputs, apply_ite SupplyMonitor.shedLevel, SupplyMonitor.qualifySample])
  · split
    · exact judgeLadder (h.of_eq rfl rfl)
    · exact h.of_eq rfl rfl

theorem warmRestart (c : Controller) : c.warmRestart.LightsSound := by
  have restarted : ∀ o ∈ c.restarted.light.outputs, o.Sound := by
    have dark : ∀ o ∈ ((((((c.onAir (·.warm)).onCommand (·.warm)).onLight (·.warm)).onMotion (·.warm)).setMotionState
        .idle).onBeat (·.warm c.settings.preload)).light.outputs, o.Sound := by
      simp only [Controller.onBeat_light, Controller.setMotionState_frame, Controller.onMotion_light,
        Controller.onLight_light, LightController.warm, List.mem_map]
      rintro o ⟨before, -, rfl⟩
      exact ⟨fun _ => ⟨rfl, rfl⟩, nofun⟩
    simp only [Controller.restarted, Controller.fileStatus_frame, Controller.onSupply_light, Controller.changeSmoke_frame,
      Controller.onSound_light]
    unfold Controller.warmConsist
    split
    · exact dark
    · exact (setConsistState (by simpa using dark) _).outputs
  rw [Controller.warmRestart_eq]
  exact judgeLights (by simpa using restarted)

theorem acts (h : c.LightsSound) (acts : c.Acts d) : d.LightsSound := by
  cases acts with
  | millisecond => exact h.of_eq rfl (by simp [Controller.lightInputs, Controller.millisecond, ConsistUnit.millisecond,
      CommandUnit.millisecond, SupplyMonitor.millisecond]; rfl)
  | dispatches f rest _ head takes => exact takesFrame (c := c.withFifo rest) (h.of_eq rfl rfl) takes
  | parks => exact judgeLights (by simpa using h.outputs)
  | regulates => exact judgeRenegotiation (judgeLights (by simpa using h.outputs))
  | pulses => exact h.settleBeats.acceptPulse
  | beats => exact h.timedBeat
  | failsNegotiation => exact dissolve (h.of_eq rfl rfl)
  | missesMember address =>
    unfold Controller.expireMember
    split
    · exact h.breakConsist address
    · exact h.loseMember address
    · exact h
  | ticksLights => exact h.lightTick
  | endsFlare => exact h.endFlare
  | samplesSupply vin vres => exact h.supplyTick vin vres
  | dropsOut => exact judgeLadder (setSupplyState (c := c.countDropout.onSupply _) (h.of_eq rfl rfl) _)
  | picksUp => exact h.supplyNormal
  | endsHold => exact setShedLevel (setSupplyState (c := c.onSupply _) (h.of_eq rfl rfl) _) 3
  | settles => exact h.supplyNormal.of_eq (by simp) (by simp [Controller.lightInputs])
  | stepsDown => exact (h.setShedLevel _).of_eq rfl rfl
  | restarts => exact warmRestart c
  | brownsOut => exact of_dark rfl rfl
  | startsCold => exact of_dark rfl rfl
  | qualifies => exact judgeLights h.outputs
  | runs => exact judgeLights (by simpa [Controller.setMode] using h.outputs)
  | nothing => exact h
  | _ => exact h.of_eq (by simp) (by simp [Controller.lightInputs])

end Controller.LightsSound

/-- Settles O12: `Controller.LightsSound.acts` for every operation. -/
theorem everyStepKeepsTheLightsJudged : Obligations.EveryStepKeepsTheLightsJudged := fun _ _ judged outputs next =>
  have after := step_keeps Controller.LightsSound.acts ⟨judged, outputs⟩ next
  ⟨after.judged, after.outputs⟩

end Sys2Proof.Machine
end

section
/-! PROOFS. The motion state is true of the ramped speed and a standing locomotive is at labour level COAST (R41, R55, R74):
what an event does to a running drive, then the stages of the control period, then the part. -/

namespace Sys2Proof.Machine

/-! ### What stops the drive -/

/-- The drive is off and the locomotive stands, outside a calibration. -/
structure MotionUnit.Standing (m : MotionUnit) : Prop where
  state : m.state ≠ .moving
  uncalibrated : m.state.isCalibrating = false
  ramp : m.ramp = 0
  duty : m.duty = 0
  labour : m.labour = .coast

/-- The same drive: what the invariants of the Motion Unit look at. -/
structure MotionUnit.SameDrive (m n : MotionUnit) : Prop where
  state : n.state = m.state
  ramp : n.ramp = m.ramp
  duty : n.duty = m.duty
  setpoint : n.setpoint = m.setpoint
  labour : n.labour = m.labour
  stallCount : n.stallCount = m.stallCount

theorem Controller.leaveCalibration_standing (c : Controller) : (c.leaveCalibration .idle).motion.Standing := by
  rw [Controller.leaveCalibration_motion]
  exact ⟨nofun, rfl, rfl, rfl, rfl⟩

theorem Controller.latchFault_standing (cause : FaultCause) (c : Controller) : (c.latchFault cause).motion.Standing := by
  rw [Controller.latchFault_motion]
  exact ⟨nofun, rfl, rfl, rfl, rfl⟩

theorem Controller.abortCalibration_standing (c : Controller) :
    c.abortCalibration = c ∨ (c.motion.state.isCalibrating = true ∧ c.abortCalibration.motion.Standing) := by
  obtain ⟨-, same⟩ | ⟨calibrating, motion⟩ := c.abortCalibration_cases
  · exact .inl same
  · exact .inr ⟨calibrating, motion ▸ ⟨nofun, rfl, rfl, rfl, rfl⟩⟩

theorem Controller.emergencyStop_standing (c : Controller) :
    c.emergencyStop = c ∨ c.emergencyStop.motion.Standing := by
  obtain ⟨-, same⟩ | ⟨-, motion⟩ | ⟨-, motion⟩ := c.emergencyStop_motion
  · exact .inl same
  · exact .inr (motion ▸ ⟨nofun, rfl, rfl, rfl, rfl⟩)
  · exact .inr (motion ▸ ⟨nofun, rfl, rfl, rfl, rfl⟩)

/-- A drive notice releases a stop or aborts a calibration (R57). -/
theorem Controller.driveNotice_motion (step : Nat) (c : Controller) :
    c.driveNotice step = c ∨
      (c.motion.state.stopped = true ∧ (c.driveNotice step).motion = { c.motion with state := .idle }) ∨
      (c.motion.state.isCalibrating = true ∧ (c.driveNotice step).motion.Standing) := by
  unfold Controller.driveNotice
  split
  · next state => split <;> simp [state, MotionState.stopped]
  · next state => split <;> simp [state, MotionState.stopped]
  · next state =>
    split
    · exact .inr (.inr ⟨by rw [state]; rfl, leaveCalibration_standing c⟩)
    · exact .inl rfl
  · exact .inl rfl
  · exact .inl rfl

/-- The new values of a calibration are held in STORE only. -/
theorem MotionUnit.stored_state {m : MotionUnit} {v : CalValues} (stored : m.stored = some v) : m.state = .calibrating .store := by
  unfold MotionUnit.stored at stored
  by_contra other
  simp [other] at stored

/-- A completed write leaves the drive alone, or ends the calibration in STORE. -/
theorem Controller.writeComplete_drive (c : Controller) :
    c.motion.SameDrive c.writeComplete.motion ∨
      (c.motion.state = .calibrating .store ∧ c.writeComplete.motion.Standing) := by
  unfold Controller.writeComplete
  split
  · exact .inl ⟨rfl, rfl, rfl, rfl, rfl, rfl⟩
  · exact .inl ⟨rfl, rfl, rfl, rfl, rfl, rfl⟩
  · split
    · next stored => exact .inr ⟨MotionUnit.stored_state stored, leaveCalibration_standing _⟩
    · exact .inl ⟨rfl, rfl, rfl, rfl, rfl, rfl⟩

/-- So does a write that is not completed in time. -/
theorem Controller.writeTimeout_drive (c : Controller) :
    c.motion.SameDrive c.writeTimeout.motion ∨
      (c.motion.state = .calibrating .store ∧ c.writeTimeout.motion.Standing) := by
  unfold Controller.writeTimeout
  split
  · exact .inl ⟨rfl, rfl, rfl, rfl, rfl, rfl⟩
  · exact .inl ⟨rfl, rfl, rfl, rfl, rfl, rfl⟩
  · split
    · next stored => exact .inr ⟨MotionUnit.stored_state stored, leaveCalibration_standing _⟩
    · exact .inl ⟨rfl, rfl, rfl, rfl, rfl, rfl⟩

/-- A marker notice reaches the block record only (R46). -/
theorem Controller.dispatchMarker_drive (f : RxFrame) (c : Controller) : c.motion.SameDrive (c.dispatchMarker f).motion := by
  unfold Controller.dispatchMarker Controller.markerNotice
  dsimp only
  split_ifs <;> exact ⟨rfl, rfl, rfl, rfl, rfl, rfl⟩

theorem Controller.directionStage_drive (c : Controller) : c.motion.SameDrive c.directionStage.motion := by
  unfold Controller.directionStage
  split <;> exact ⟨rfl, rfl, rfl, rfl, rfl, rfl⟩

@[simp] theorem Controller.supplyNormal_motion (c : Controller) : c.supplyNormal.motion = c.motion := by
  simp [Controller.supplyNormal, Controller.setSupplyState]

/-! ### The Motion Unit by itself -/

/-- `Controller.MotionSound` of the Motion Unit alone; `resting` is what asks for COAST besides standstill. -/
structure MotionUnit.TrueAt (resting : Prop) (m : MotionUnit) : Prop where
  idle : m.state = .idle → m.rampedSpeed = 0
  moving : m.state = .moving → 0 < m.rampedSpeed
  held : m.state.stopped = true ∨ m.state.isCalibrating = true → m.ramp = 0
  coast : m.rampedSpeed = 0 ∨ resting → m.labour = .coast

/-- HOLD, SETTLE or START. -/
def Controller.Resting (c : Controller) : Prop :=
  c.supply.state = .hold ∨ c.supply.state = .settle ∨ c.command.partMode = .start

theorem Controller.motionSound_iff (c : Controller) : c.MotionSound ↔ c.motion.TrueAt c.Resting :=
  ⟨fun h => ⟨h.idle, h.moving, h.held, h.coast⟩, fun h => ⟨h.idle, h.moving, h.held, h.coast⟩⟩

namespace MotionUnit

variable {resting : Prop} {m n : MotionUnit}

theorem Standing.trueAt (h : m.Standing) : m.TrueAt resting where
  idle _ := by simp [MotionUnit.rampedSpeed, h.ramp]
  moving moves := absurd moves h.state
  held _ := h.ramp
  coast _ := h.labour

namespace TrueAt

theorem of_same (h : m.TrueAt resting) (same : m.SameDrive n) : n.TrueAt resting where
  idle := by simpa [MotionUnit.rampedSpeed, same.state, same.ramp] using h.idle
  moving := by simpa [MotionUnit.rampedSpeed, same.state, same.ramp] using h.moving
  held := by simpa [same.state, same.ramp] using h.held
  coast := by simpa [MotionUnit.rampedSpeed, same.ramp, same.labour] using h.coast

theorem mono (h : m.TrueAt resting) {other : Prop} (rests : other → resting) : m.TrueAt other :=
  ⟨h.idle, h.moving, h.held, fun rest => h.coast (rest.imp_right rests)⟩

theorem coasting (h : m.TrueAt resting) (labour : m.labour = .coast) {other : Prop} : m.TrueAt other :=
  ⟨h.idle, h.moving, h.held, fun _ => labour⟩

/-- Where R is held at 0, the state may be any but MOVING. -/
theorem setState (h : m.TrueAt resting) {state : MotionState} (held : m.ramp = 0) (still : state ≠ .moving) :
    TrueAt resting { m with state := state } where
  idle _ := by simp [MotionUnit.rampedSpeed, held]
  moving moves := absurd moves still
  held _ := held
  coast := h.coast

end TrueAt

end MotionUnit

/-! ### The ramp -/

/-- The motion state follows v_r as it leaves or reaches 0 (R41, R53). -/
theorem Controller.judgeDeparture_motion (before : Nat) (c : Controller) :
    (c.judgeDeparture before).motion
      = { c.motion with
          state :=
            if before = 0 ∧ 0 < c.motion.rampedSpeed then .moving
            else if 0 < before ∧ c.motion.rampedSpeed = 0 then .idle
            else c.motion.state } := by
  unfold Controller.judgeDeparture
  split_ifs <;> simp

/-- A change of R in IDLE or MOVING, judged for departure and arrival, keeps the state true of v_r. -/
theorem Controller.judgeDeparture_state {c d : Controller} {resting : Prop} (h : c.motion.TrueAt resting)
    (free : c.motion.state = .idle ∨ c.motion.state = .moving) (state : d.motion.state = c.motion.state) :
    ((d.judgeDeparture c.motion.rampedSpeed).motion.state = .idle ∧ d.motion.rampedSpeed = 0) ∨
      ((d.judgeDeparture c.motion.rampedSpeed).motion.state = .moving ∧ 0 < d.motion.rampedSpeed) := by
  rw [Controller.judgeDeparture_motion]
  dsimp only
  rcases Nat.eq_zero_or_pos d.motion.rampedSpeed with zero | above <;> rcases free with free | free
  · have := h.idle free
    simp [zero, this, state, free]
  · have := h.moving free
    simp [zero, this]
  · have := h.idle free
    simp [above, this]
  · have := h.moving free
    have running : c.motion.rampedSpeed ≠ 0 := by omega
    have running' : d.motion.rampedSpeed ≠ 0 := by omega
    simp [above, running, running', state, free]

/-- After the ramp stage the state is true of v_r. -/
theorem Controller.rampStage_motion {c : Controller} {resting : Prop} (h : c.motion.TrueAt resting) (waiting : Bool) :
    ((c.rampStage waiting).motion.state = .idle ∧ (c.rampStage waiting).motion.rampedSpeed = 0) ∨
      ((c.rampStage waiting).motion.state = .moving ∧ 0 < (c.rampStage waiting).motion.rampedSpeed) ∨
      ((c.rampStage waiting).motion.state = c.motion.state ∧ (c.rampStage waiting).motion.ramp = 0 ∧
        (c.motion.state.stopped = true ∨ c.motion.state.isCalibrating = true)) := by
  have free (state : c.motion.state = .idle ∨ c.motion.state = .moving) (r : Nat) (sense : RampSense) :
      let moved := (c.onMotion fun m => { m with ramp := r, rampSense := sense }).judgeDeparture c.motion.rampedSpeed
      (moved.motion.state = .idle ∧ moved.motion.rampedSpeed = 0) ∨
        (moved.motion.state = .moving ∧ 0 < moved.motion.rampedSpeed) := by
    have judged := judgeDeparture_state (d := c.onMotion fun m => { m with ramp := r, rampSense := sense }) h state rfl
    have ramp : ((c.onMotion fun m => { m with ramp := r, rampSense := sense }).judgeDeparture
        c.motion.rampedSpeed).motion.rampedSpeed = r / 16 := by
      rw [judgeDeparture_motion]
      rfl
    dsimp only
    rw [ramp]
    exact judged
  cases state : c.motion.state with
  | eStopped | faulted | calibrating =>
    simp [Controller.rampStage, state, MotionState.stopped, MotionState.isCalibrating]
  | idle =>
    simp only [Controller.rampStage, state]
    split
    · exact (free (.inl state) _ _).elim .inl fun moves => .inr (.inl moves)
    · exact .inl ⟨state, h.idle state⟩
  | moving =>
    simp only [Controller.rampStage, state]
    split
    · exact (free (.inr state) _ _).elim .inl fun moves => .inr (.inl moves)
    · exact .inr (.inl ⟨state, h.moving state⟩)

/-! ### Regulation and labour -/

/-- Outside CALIBRATING the drive has a raw duty only in IDLE and MOVING, with a supply that drives and a setpoint above 0
(R65). -/
theorem Controller.regulationStage_none {c : Controller} (uncalibrated : c.motion.state.isCalibrating = false)
    (off : c.motion.state.stopped = true ∨ c.supply.state.drives = false ∨ c.motion.setpoint = 0) :
    c.regulationStage.rawDuty = none := by
  unfold Controller.regulationStage
  split
  · rfl
  · rfl
  · next state => simp [state, MotionState.isCalibrating] at uncalibrated
  · next stopped faulted _ =>
    split
    · next drives =>
      have zero : c.motion.setpoint = 0 := by
        rcases off with off | off | off
        · cases state : c.motion.state <;> simp_all [MotionState.stopped]
        · simp [off] at drives
        · exact off
      simp [regulator, zero]
    · rfl

@[simp] theorem Controller.limitsStage_duty (current : Nat) (c : Controller) :
    (c.limitsStage current).motion.duty
      = limitDuty c.settings.dutyCap c.motion.duty (c.settings.currentLimit < filterCurrent c.motion.filteredCurrent current)
          c.regulationStage.rawDuty :=
  rfl

/-- The part as the limits stage of a period leaves it, which the calibration stage leaves alone but for its record. -/
def Controller.limited (bemf current : Nat) (c : Controller) : Controller :=
  (c.ramped.measurementStage bemf).limitsStage current

theorem Controller.controlPeriod_motion (bemf current : Nat) (c : Controller) :
    (c.controlPeriod bemf current).motion = ((c.limited bemf current).calibrationStage.labourStage).motion := by
  simp [Controller.controlPeriod_eq, Controller.limited]

@[simp] theorem Controller.limited_frame (bemf current : Nat) (c : Controller) :
    (c.limited bemf current).settings = c.settings ∧ (c.limited bemf current).supply = c.supply ∧
      (c.limited bemf current).motion.state = c.ramped.motion.state ∧
      (c.limited bemf current).motion.ramp = c.ramped.motion.ramp := by
  simp [Controller.limited]

/-- The duty of a period is 0 outside CALIBRATING where the drive must be off (R65). -/
theorem Controller.limited_duty {bemf current : Nat} {c : Controller}
    (uncalibrated : c.ramped.motion.state.isCalibrating = false)
    (off : c.ramped.motion.state.stopped = true ∨ c.supply.state.drives = false ∨ (c.limited bemf current).motion.setpoint = 0) :
    (c.limited bemf current).motion.duty = 0 := by
  unfold Controller.limited at off ⊢
  rw [Controller.limitsStage_duty, Controller.regulationStage_none]
  · rfl
  · simpa using uncalibrated
  · simpa using off

/-- COAST at standstill and with the duty at 0 (R74). -/
theorem Controller.labourStage_coast {c : Controller} (stands : c.motion.rampedSpeed = 0 ∨ c.motion.duty = 0) :
    c.labourStage.motion.labour = .coast := by
  simp only [Controller.labourStage, Controller.onMotion]
  rw [if_pos (stands.imp_right .inr)]

namespace Controller.MotionSound

variable {c d : Controller}

theorem trueAt (h : c.MotionSound) : c.motion.TrueAt c.Resting := (c.motionSound_iff).mp h

theorem of_trueAt (h : d.motion.TrueAt d.Resting) : d.MotionSound := (d.motionSound_iff).mpr h

theorem of_standing (stands : d.motion.Standing) : d.MotionSound := of_trueAt stands.trueAt

theorem of_same (h : c.MotionSound) (same : c.motion.SameDrive d.motion) (supply : d.supply.state = c.supply.state)
    (mode : d.command.partMode = c.command.partMode) : d.MotionSound :=
  of_trueAt ((h.trueAt.of_same same).mono (by simp [Controller.Resting, supply, mode]))

theorem of_eq (h : c.MotionSound) (motion : d.motion = c.motion) (supply : d.supply.state = c.supply.state)
    (mode : d.command.partMode = c.command.partMode) : d.MotionSound :=
  h.of_same (motion ▸ ⟨rfl, rfl, rfl, rfl, rfl, rfl⟩) supply mode

/-- A new part mode other than START, with the drive as it is. -/
theorem of_started (h : c.MotionSound) (motion : d.motion = c.motion) (supply : d.supply.state = c.supply.state)
    (started : d.command.partMode ≠ .start) : d.MotionSound := by
  refine of_trueAt ?_
  rw [motion]
  exact h.trueAt.mono (by simp only [Controller.Resting, supply, started, or_false]; tauto)

/-- A supply that drives, with the drive as it is. -/
theorem of_supplied (h : c.MotionSound) (motion : d.motion = c.motion)
    (supplied : d.supply.state = .normal ∨ d.supply.state = .dropout) (mode : d.command.partMode = c.command.partMode) :
    d.MotionSound := by
  refine of_trueAt ?_
  rw [motion]
  refine h.trueAt.mono fun rests => .inr (.inr ?_)
  rcases supplied with supplied | supplied <;> simpa [Controller.Resting, supplied, mode] using rests

/-- An event that leaves the part alone or stops the drive. -/
theorem of_cases (h : c.MotionSound) (cases : d = c ∨ d.motion.Standing) : d.MotionSound := by
  rcases cases with rfl | stands
  · exact h
  · exact of_standing stands

/-! ### Driving -/

theorem emergencyStop (h : c.MotionSound) : c.emergencyStop.MotionSound := h.of_cases c.emergencyStop_standing

theorem abortCalibration (h : c.MotionSound) : c.abortCalibration.MotionSound :=
  h.of_cases (c.abortCalibration_standing.imp_right (·.2))

theorem driveNotice (h : c.MotionSound) (step : Nat) : (c.driveNotice step).MotionSound := by
  obtain same | ⟨stopped, motion⟩ | ⟨-, stands⟩ := c.driveNotice_motion step
  · rwa [same]
  · refine of_trueAt ?_
    rw [motion]
    exact (h.trueAt.setState (h.held (.inl stopped)) (by decide)).mono
      (by simp only [Controller.Resting, Controller.driveNotice_frame]; exact id)
  · exact of_standing stands

theorem takeDrive (h : c.MotionSound) (frame : DriveFrame) (cls : DestinationClass) : (c.takeDrive frame cls).MotionSound := by
  unfold Controller.takeDrive
  split
  · exact h
  · exact h.of_eq (by simp) (by simp) (by simp)
  · next via _ =>
    split
    · have applied : ((c.recordDrive frame via).applyFunctions frame.functions (c.pathMask (.binding via))).MotionSound :=
        h.of_eq (by simp) (by simp) (by simp)
      have noticed := (applied.driveNotice frame.step).of_eq (d := (((c.recordDrive frame via).applyFunctions frame.functions
        (c.pathMask (.binding via))).noticeDrive frame.step via).restartPark frame.step)
        (by cases via <;> simp [Controller.noticeDrive]) (by simp) (by simp)
      unfold Controller.acceptDrive
      dsimp only
      split
      · exact noticed.of_started (by simp) (by simp) (by simp [Controller.unpark, Controller.setMode])
      · exact noticed
    · exact h.of_eq (by simp) (by simp) (by simp)

theorem judgeCouple (h : c.MotionSound) (consistId : Nat) (members : List (Nat × Orientation)) :
    (c.judgeCouple consistId members).MotionSound := by
  have taken : (c.takeCouple consistId members).MotionSound := by
    unfold Controller.takeCouple
    dsimp only
    split
    · exact h.of_started (by simp) (by simp) (by simp [Controller.unpark, Controller.setMode])
    · exact h.of_eq (by simp) (by simp) (by simp)
  unfold Controller.judgeCouple
  split_ifs
  · exact h.of_eq (by simp) (by simp) (by simp)
  · exact h
  · exact h
  · exact taken
  · exact h.of_eq rfl rfl rfl

theorem takesFrame (h : c.MotionSound) (takes : c.TakesFrame d) : d.MotionSound := by
  cases takes with
  | drives frame cls => exact h.takeDrive frame cls
  | halts source number =>
    unfold Controller.takeHalt
    split
    · exact h
    · split
      · exact emergencyStop (h.of_eq rfl rfl rfl)
      · exact h.of_eq rfl rfl rfl
  | calibrates source =>
    unfold Controller.takeCalibrate
    split
    · refine of_trueAt ?_
      rw [Controller.startCalibration, Controller.setMotionState_motion]
      exact ⟨nofun, nofun, fun _ => rfl, fun _ => rfl⟩
    · exact h.of_eq rfl rfl rfl
  | couples consistId members => exact h.judgeCouple consistId members
  | hears f =>
    have recorded : (c.onPeers (recordLoco (frameSource f.bytes)
        (LocoEntry.heardStatus (statusFields (payloadOf f.bytes))))).MotionSound := h.of_eq rfl rfl rfl
    unfold Controller.dispatchStatus Controller.statusNotice
    dsimp only
    split
    · exact recorded
    · split
      · exact recorded
      · unfold Controller.shareStop
        split
        · exact emergencyStop (h.of_eq (by simp) (by simp) (by simp))
        · exact h.of_eq (by simp) (by simp) (by simp)
  | passes f => exact h.of_same (c.dispatchMarker_drive f) (by simp) (by simp)
  | _ => exact h.of_eq (by simp) (by simp) (by simp)

/-! ### The control period -/

theorem ramped (h : c.MotionSound) :
    (c.ramped.motion.state = .idle ∧ c.ramped.motion.rampedSpeed = 0) ∨
      (c.ramped.motion.state = .moving ∧ 0 < c.ramped.motion.rampedSpeed) ∨
      (c.ramped.motion.state = c.motion.state ∧ c.ramped.motion.ramp = 0 ∧
        (c.motion.state.stopped = true ∨ c.motion.state.isCalibrating = true)) := by
  have directed := c.begun.directionStage_drive
  have begun : c.begun.directionStage.motion.TrueAt c.Resting :=
    MotionUnit.TrueAt.of_same (m := c.begun.motion) (h.trueAt.of_same ⟨rfl, rfl, rfl, rfl, rfl, rfl⟩) directed
  have stage := Controller.rampStage_motion begun c.begun.reversalWaiting
  rwa [show c.begun.directionStage.motion.state = c.motion.state from directed.state] at stage

theorem controlPeriod (h : c.MotionSound) (started : c.command.partMode ≠ .start) (bemf current : Nat) :
    (c.controlPeriod bemf current).MotionSound := by
  have state : (c.controlPeriod bemf current).motion.state = c.ramped.motion.state := by
    simp [Controller.controlPeriod_motion]
  have ramp : (c.controlPeriod bemf current).motion.ramp = c.ramped.motion.ramp := by
    simp [Controller.controlPeriod_motion]
  have coast (stands : c.ramped.motion.rampedSpeed = 0 ∨ (c.limited bemf current).motion.duty = 0) :
      (c.controlPeriod bemf current).motion.labour = .coast := by
    rw [Controller.controlPeriod_motion]
    exact Controller.labourStage_coast (by simpa [MotionUnit.rampedSpeed] using stands)
  have unsupplied (free : c.ramped.motion.state.isCalibrating = false) (rest : (c.controlPeriod bemf current).Resting) :
      (c.limited bemf current).motion.duty = 0 := by
    simp only [Controller.Resting, Controller.controlPeriod_frame, started, or_false] at rest
    refine Controller.limited_duty free (.inr (.inl ?_))
    rcases rest with rest | rest <;> rw [rest] <;> rfl
  refine of_trueAt ?_
  obtain ⟨idle, zero⟩ | ⟨moving, above⟩ | ⟨same, zero, held⟩ := h.ramped
  · have labour := coast (.inl zero)
    constructor <;> simp [state, ramp, idle, labour, MotionUnit.rampedSpeed, MotionState.stopped, MotionState.isCalibrating]
    simpa [MotionUnit.rampedSpeed] using zero
  · refine ⟨by simp [state, moving], fun _ => by simpa [MotionUnit.rampedSpeed, ramp] using above,
      by simp [state, moving, MotionState.stopped, MotionState.isCalibrating], fun stands => coast (stands.imp ?_ ?_)⟩
    · exact fun zero => by simpa [MotionUnit.rampedSpeed, ramp] using zero
    · exact unsupplied (by rw [moving]; rfl)
  · have labour := coast (.inl (by simp [MotionUnit.rampedSpeed, zero]))
    refine ⟨fun idle => ?_, fun moving => ?_, fun _ => by rw [ramp, zero], fun _ => labour⟩
    · simp [MotionUnit.rampedSpeed, ramp, zero]
    · rw [state, same] at moving
      simp [moving, MotionState.stopped, MotionState.isCalibrating] at held

/-! ### The supply -/

theorem setShedLevel (h : c.MotionSound) (level : Nat) : (c.setShedLevel level).MotionSound :=
  h.of_eq (by simp) (by simp) (by simp)

theorem enterHold (h : c.MotionSound) : c.enterHold.MotionSound := by
  refine setShedLevel (of_trueAt ?_) 4
  have aborted : ((c.onSupply fun u => { u with holdTimer := some 3000 }).onSupply fun u =>
      { u with state := .hold }).abortCalibration.motion.TrueAt c.Resting := by
    obtain same | ⟨-, stands⟩ := Controller.abortCalibration_standing
      ((c.onSupply fun u => { u with holdTimer := some 3000 }).onSupply fun u => { u with state := .hold })
    · rw [same]
      exact h.trueAt
    · exact stands.trueAt
  exact ⟨aborted.idle, aborted.moving, aborted.held, fun _ => rfl⟩

theorem judgeLadder (h : c.MotionSound) : c.judgeLadder.MotionSound := by
  unfold Controller.judgeLadder
  dsimp only
  split
  · exact h.enterHold
  · exact h.setShedLevel _

theorem supplyTick (h : c.MotionSound) (vin vres : Nat) : (c.supplyTick vin vres).MotionSound := by
  unfold Controller.supplyTick
  dsimp only
  split
  · next starting => exact of_trueAt (h.trueAt.coasting (h.coast (.inr (.inr (.inr starting)))))
  · split
    · exact judgeLadder (h.of_eq rfl rfl rfl)
    · exact h.of_eq rfl rfl rfl

theorem reseat (h : c.MotionSound) (coasting : c.motion.labour = .coast) : c.reseat.MotionSound := by
  unfold Controller.reseat
  dsimp only
  generalize seat : (c.onMotion fun m => { m with ramp := min m.ramp (16 * m.measuredSpeed) }) = seated
  have state : seated.motion.state = c.motion.state := by rw [← seat]; rfl
  have labour : seated.motion.labour = .coast := by rw [← seat]; exact coasting
  split
  · next free =>
    have judged := Controller.judgeDeparture_state h.trueAt free state
    have motion := seated.judgeDeparture_motion c.motion.rampedSpeed
    generalize seated.judgeDeparture c.motion.rampedSpeed = e at judged motion
    have ramp : e.motion.ramp = seated.motion.ramp := by rw [motion]
    have labour : e.motion.labour = .coast := by rw [motion]; exact labour
    refine of_trueAt ?_
    rcases judged with ⟨idle, zero⟩ | ⟨moving, above⟩
    · have zero : e.motion.rampedSpeed = 0 := by simpa [MotionUnit.rampedSpeed, ramp] using zero
      constructor <;> simp [idle, zero, labour, MotionState.stopped, MotionState.isCalibrating]
    · have above : 0 < e.motion.rampedSpeed := by simpa [MotionUnit.rampedSpeed, ramp] using above
      constructor <;> simp [moving, above, labour, MotionState.stopped, MotionState.isCalibrating]
  · next still =>
    have held : c.motion.ramp = 0 := by
      refine h.held ?_
      cases stands : c.motion.state with
      | idle | moving => exact absurd stands (by tauto)
      | eStopped | faulted => exact .inl rfl
      | calibrating => exact .inr rfl
    refine of_trueAt ((h.trueAt.setState held (state := seated.motion.state) ?_).coasting coasting |>.of_same ?_)
    · rw [state]
      exact fun moves => still (.inr moves)
    · rw [← seat]
      exact ⟨rfl, by simp [Controller.onMotion, held], rfl, rfl, rfl, rfl⟩

theorem warmRestart (c : Controller) : c.warmRestart.MotionSound := by
  refine of_standing ?_
  have motion : c.warmRestart.motion = { c.motion.warm with state := .idle } := by
    simp [Controller.warmRestart_eq, Controller.restarted]
  rw [motion]
  exact ⟨nofun, rfl, rfl, rfl, rfl⟩

theorem acts (h : c.MotionSound) (acts : c.Acts d) : d.MotionSound := by
  cases acts with
  | millisecond => exact h.of_same ⟨rfl, rfl, rfl, rfl, rfl, rfl⟩ rfl rfl
  | dispatches f rest _ head takes => exact takesFrame (c := c.withFifo rest) (h.of_eq rfl rfl rfl) takes
  | parks => exact h.of_started (by simp) (by simp) (by simp [Controller.enterParked, Controller.setMode])
  | regulates bemf current started => exact h.controlPeriod started bemf current
  | losesBlock => exact h.of_same ⟨rfl, rfl, rfl, rfl, rfl, rfl⟩ rfl rfl
  | stalls => exact of_standing (c.latchFault_standing _)
  | overloads => exact of_standing (c.latchFault_standing _)
  | measures r spun =>
    have calibrating : c.motion.state.isCalibrating = true := by rw [spun]; rfl
    exact of_trueAt ((h.trueAt.setState (state := .calibrating .measure) (h.held (.inr calibrating)) (by decide)).of_same
      ⟨rfl, rfl, rfl, rfl, rfl, rfl⟩)
  | stores r measured =>
    have held := h.held (.inr (by rw [measured]; rfl))
    have labour := h.coast (.inl (by simp [MotionUnit.rampedSpeed, held]))
    exact of_trueAt ⟨nofun, nofun, fun _ => held, fun _ => labour⟩
  | refuses => exact of_standing (Controller.leaveCalibration_standing _)
  | writes =>
    obtain same | ⟨-, stands⟩ := c.writeComplete_drive
    · exact h.of_same same (by simp) (by simp)
    · exact of_standing stands
  | failsToWrite =>
    obtain same | ⟨-, stands⟩ := c.writeTimeout_drive
    · exact h.of_same same (by simp) (by simp)
    · exact of_standing stands
  | pulses =>
    have settled : c.settleBeats.MotionSound := settleBeats_keeps h
      (fun _ => (abortCalibration (c := (c.onBeat _).onLatches _) (h.of_eq rfl rfl rfl)).of_eq rfl rfl rfl)
      (fun sound _ => sound.of_eq rfl rfl rfl) fun sound => sound.of_eq (by simp) (by simp) (by simp)
    exact settled.of_eq (by simp) (by simp) (by simp)
  | failsSensor => exact (abortCalibration (c := (c.onBeat _).onLatches _) (h.of_eq rfl rfl rfl)).of_eq rfl rfl rfl
  | samplesSupply vin vres => exact h.supplyTick vin vres
  | dropsOut =>
    have dropped : ((c.countDropout.onSupply fun u => { u with settleTimer := none, stepDownTimer := none }).onSupply fun u =>
        { u with state := .dropout }).MotionSound := h.of_supplied rfl (.inr rfl) rfl
    exact dropped.abortCalibration.judgeLadder
  | picksUp => exact h.of_supplied (by simp) (.inl (by simp [Controller.supplyNormal])) (by simp)
  | endsHold holding =>
    have settling : ((c.onSupply fun u => { u with holdTimer := none, settleTimer := some 100 }).onSupply fun u =>
        { u with state := .settle }).MotionSound := of_trueAt (h.trueAt.coasting (h.coast (.inr (.inl holding))))
    exact settling.abortCalibration.setShedLevel 3
  | settles settling =>
    have normal : c.supplyNormal.MotionSound := h.of_supplied (by simp) (.inl (by simp [Controller.supplyNormal])) (by simp)
    exact normal.reseat (by simpa using h.coast (.inr (.inr (.inl settling))))
  | restarts => exact warmRestart c
  | brownsOut => exact of_standing ⟨nofun, rfl, rfl, rfl, rfl⟩
  | startsCold => exact of_standing ⟨nofun, rfl, rfl, rfl, rfl⟩
  | qualifies starting => exact of_trueAt (h.trueAt.coasting (h.coast (.inr (.inr (.inr starting)))))
  | runs => exact h.of_started (by simp) (by simp) (by simp [Controller.enterRun, Controller.setMode])
  | _ => exact h.of_eq (by simp) (by simp) (by simp)

end Controller.MotionSound

/-- Settles O7: `Controller.MotionSound.acts` for every operation. -/
theorem everyStepKeepsTheMotionStateTrue : Obligations.EveryStepKeepsTheMotionStateTrue :=
  fun _ _ sound next => step_keeps Controller.MotionSound.acts sound next

end Sys2Proof.Machine
end

section
/-! PROOFS. The duty stays within its cap and is 0 where section 4.3 says so (R60, R65, R80), and in START nothing drives: the
Motion Unit against a cap and a supply state, then the part. -/

namespace Sys2Proof.Machine

theorem Controller.abortCalibration_uncalibrated (c : Controller) :
    c.abortCalibration.motion.state.isCalibrating = false := by
  obtain ⟨uncalibrated, same⟩ | ⟨-, motion⟩ := c.abortCalibration_cases
  · rw [same]; exact uncalibrated
  · rw [motion]; rfl

/-! ### What medium access leaves of the FIFO -/

theorem AirInterface.openWindow_rxFifo (a : AirInterface) : a.openWindow.rxFifo = a.rxFifo := by
  unfold AirInterface.openWindow
  split <;> rfl

theorem AirInterface.fallInQuiet_rxFifo (left : Nat) (a : AirInterface) : (a.fallInQuiet left).rxFifo = a.rxFifo := by
  unfold AirInterface.fallInQuiet
  split <;> rfl

theorem Controller.beginTransmission_rxFifo (kind : TxKind) (c : Controller) :
    (c.beginTransmission kind).air.rxFifo = c.air.rxFifo := by
  unfold Controller.beginTransmission
  split <;> cases kind <;> rfl

/-! ### The Motion Unit under a cap and a supply -/

/-- `Controller.DriveSafe` but for START, of the Motion Unit alone. -/
structure MotionUnit.SafeUnder (cap : Nat) (supply : SupplyState) (m : MotionUnit) : Prop where
  capped : m.duty ≤ cap
  stopped : m.state.stopped = true → m.duty = 0
  unsupplied : supply = .hold ∨ supply = .settle → m.duty = 0
  setpoint : m.setpoint = 0 → m.state.isCalibrating = false → m.duty = 0
  calibrating : m.state.isCalibrating = true → supply = .normal

theorem Controller.driveSafe_iff (c : Controller) :
    c.DriveSafe ↔ c.motion.SafeUnder c.settings.dutyCap c.supply.state ∧ (c.command.partMode = .start → c.Waiting) :=
  ⟨fun h => ⟨⟨h.capped, h.stopped, h.unsupplied, h.setpoint, h.calibrating⟩, h.waiting⟩,
    fun h => ⟨h.1.capped, h.1.stopped, h.1.unsupplied, h.1.setpoint, h.1.calibrating, h.2⟩⟩

namespace MotionUnit.SafeUnder

variable {cap : Nat} {supply other : SupplyState} {m n : MotionUnit}

/-- With the duty at 0 all that is left is that no calibration runs without the supply. -/
theorem of_off (off : m.duty = 0) (calibrating : m.state.isCalibrating = true → supply = .normal) : m.SafeUnder cap supply :=
  ⟨off ▸ Nat.zero_le _, fun _ => off, fun _ => off, fun _ _ => off, calibrating⟩

theorem of_standing (stands : m.Standing) : m.SafeUnder cap supply :=
  of_off stands.duty (by simp [stands.uncalibrated])

/-- A calibration runs under the cap, in NORMAL only. -/
theorem of_calibrating (capped : m.duty ≤ cap) (calibrating : m.state.isCalibrating = true) (normal : supply = .normal) :
    m.SafeUnder cap supply := by
  refine ⟨capped, fun stopped => ?_, by simp [normal], by simp [calibrating], fun _ => normal⟩
  cases state : m.state <;> simp [state, MotionState.stopped, MotionState.isCalibrating] at stopped calibrating

theorem of_same (h : m.SafeUnder cap supply) (same : m.SameDrive n) : n.SafeUnder cap supply := by
  obtain ⟨state, -, duty, setpoint, -, -⟩ := same
  exact ⟨duty ▸ h.capped, state ▸ duty ▸ h.stopped, duty ▸ h.unsupplied, setpoint ▸ state ▸ duty ▸ h.setpoint,
    state ▸ h.calibrating⟩

/-- Outside a calibration the drive may go on into DROPOUT, and everywhere into NORMAL. -/
theorem supplied (h : m.SafeUnder cap supply) (drives : other = .normal ∨ other = .dropout ∧ m.state.isCalibrating = false) :
    m.SafeUnder cap other := by
  refine ⟨h.capped, h.stopped, fun rests => ?_, h.setpoint, fun calibrating => ?_⟩
  · rcases drives with rfl | ⟨rfl, -⟩ <;> simp at rests
  · rcases drives with normal | ⟨-, free⟩
    · exact normal
    · simp [free] at calibrating

end MotionUnit.SafeUnder

/-- In IDLE and MOVING the state does not count. -/
theorem MotionUnit.SafeUnder.free {cap : Nat} {supply : SupplyState} {m n : MotionUnit} (h : m.SafeUnder cap supply)
    (before : m.state = .idle ∨ m.state = .moving) (after : n.state = .idle ∨ n.state = .moving) (duty : n.duty = m.duty)
    (setpoint : n.setpoint = m.setpoint) : n.SafeUnder cap supply := by
  have free (k : MotionUnit) (runs : k.state = .idle ∨ k.state = .moving) :
      k.state.stopped = false ∧ k.state.isCalibrating = false := by
    rcases runs with runs | runs <;> rw [runs] <;> exact ⟨rfl, rfl⟩
  obtain ⟨unstopped, uncalibrated⟩ := free n after
  refine ⟨duty ▸ h.capped, by simp [unstopped], duty ▸ h.unsupplied, fun zero _ => ?_, by simp [uncalibrated]⟩
  rw [duty]
  exact h.setpoint (setpoint ▸ zero) (free m before).2

theorem Controller.supplyNormal_supply (c : Controller) :
    c.supplyNormal.supply.state = .normal := by
  simp [Controller.supplyNormal]

namespace Controller.DriveSafe

variable {c d : Controller}

theorem safeUnder (h : c.DriveSafe) : c.motion.SafeUnder c.settings.dutyCap c.supply.state := ((c.driveSafe_iff).mp h).1

/-- From the first RUN on the drive is all that counts. -/
theorem of_started (safe : d.motion.SafeUnder d.settings.dutyCap d.supply.state) (started : d.command.partMode ≠ .start) :
    d.DriveSafe := (d.driveSafe_iff).mpr ⟨safe, fun starting => absurd starting started⟩

/-- The drive, the supply state, the part mode and the FIFO are all that the invariant looks at. -/
theorem of_same (h : c.DriveSafe) (same : c.motion.SameDrive d.motion) (settings : d.settings = c.settings)
    (supply : d.supply.state = c.supply.state) (mode : d.command.partMode = c.command.partMode)
    (fifo : d.air.rxFifo = c.air.rxFifo ∨ c.command.partMode ≠ .start) : d.DriveSafe := by
  refine (d.driveSafe_iff).mpr ⟨?_, fun starting => ?_⟩
  · rw [settings, supply]
    exact h.safeUnder.of_same same
  · rw [mode] at starting
    have waiting := h.waiting starting
    obtain ⟨state, ramp, duty, -, -, stallCount⟩ := same
    exact ⟨(fifo.resolve_right (by simp [starting])).trans waiting.fifo, state ▸ waiting.still, duty.trans waiting.noDuty,
      ramp.trans waiting.noRamp, stallCount.trans waiting.noStall, supply ▸ waiting.supply⟩

theorem of_eq (h : c.DriveSafe) (motion : d.motion = c.motion) (settings : d.settings = c.settings)
    (supply : d.supply.state = c.supply.state) (mode : d.command.partMode = c.command.partMode)
    (fifo : d.air.rxFifo = c.air.rxFifo) : d.DriveSafe :=
  h.of_same (motion ▸ ⟨rfl, rfl, rfl, rfl, rfl, rfl⟩) settings supply mode (.inl fifo)

/-- In START no calibration runs and the supply neither drops nor holds. -/
theorem started_of_calibrating (h : c.DriveSafe) (calibrating : c.motion.state.isCalibrating = true) :
    c.command.partMode ≠ .start := fun starting => by
  rcases (h.waiting starting).still with state | state <;> simp [state, MotionState.isCalibrating] at calibrating

theorem started_of_supply (h : c.DriveSafe) (dropped : c.supply.state = .dropout ∨ c.supply.state = .hold) :
    c.command.partMode ≠ .start := fun starting => by
  rcases (h.waiting starting).supply with supply | supply <;> simp [supply] at dropped

/-- An event that stops a running drive, from the first RUN on. -/
theorem of_standing (stands : d.motion.Standing) (started : d.command.partMode ≠ .start) : d.DriveSafe :=
  of_started (.of_standing stands) started

/-! ### Driving -/

theorem emergencyStop (h : c.DriveSafe) (started : c.command.partMode ≠ .start) : c.emergencyStop.DriveSafe := by
  obtain same | stands := c.emergencyStop_standing
  · rwa [same]
  · exact of_standing stands (by simpa using started)

theorem abortCalibration (h : c.DriveSafe) : c.abortCalibration.DriveSafe := by
  obtain same | ⟨calibrating, stands⟩ := c.abortCalibration_standing
  · rwa [same]
  · exact of_standing stands (by simpa using h.started_of_calibrating calibrating)

theorem driveNotice (h : c.DriveSafe) (started : c.command.partMode ≠ .start) (step : Nat) :
    (c.driveNotice step).DriveSafe := by
  obtain same | ⟨stopped, motion⟩ | ⟨-, stands⟩ := c.driveNotice_motion step
  · rwa [same]
  · refine of_started ?_ (by simpa using started)
    rw [motion]
    exact .of_off (h.stopped stopped) nofun
  · exact of_standing stands (by simpa using started)

theorem takeDrive (h : c.DriveSafe) (started : c.command.partMode ≠ .start) (frame : DriveFrame) (cls : DestinationClass) :
    (c.takeDrive frame cls).DriveSafe := by
  unfold Controller.takeDrive
  split
  · exact h
  · exact h.of_eq (by simp) (by simp) (by simp) (by simp) (by simp)
  · next via _ =>
    split
    · have applied : ((c.recordDrive frame via).applyFunctions frame.functions (c.pathMask (.binding via))).DriveSafe :=
        h.of_eq (by simp) (by simp) (by simp) (by simp) (by simp)
      have noticed := (applied.driveNotice (by simpa using started) frame.step).of_eq
        (d := (((c.recordDrive frame via).applyFunctions frame.functions
          (c.pathMask (.binding via))).noticeDrive frame.step via).restartPark frame.step)
        (by cases via <;> simp [Controller.noticeDrive]) (by simp) (by simp) (by simp) (by simp)
      unfold Controller.acceptDrive
      dsimp only
      split
      · exact of_started (by simpa using noticed.safeUnder) (by simp [Controller.unpark, Controller.setMode])
      · exact noticed
    · exact h.of_eq (by simp) (by simp) (by simp) (by simp) (by simp)

theorem takeCalibrate (h : c.DriveSafe) (started : c.command.partMode ≠ .start) (source : Nat) :
    (c.takeCalibrate source).DriveSafe := by
  unfold Controller.takeCalibrate
  split
  · next may =>
    simp only [Controller.mayCalibrate, Bool.and_eq_true, beq_iff_eq] at may
    obtain ⟨-, normal⟩ := may
    refine of_started (.of_calibrating ?_ ?_ ?_) (by simpa using started)
    · simpa using h.capped
    · simp [Controller.startCalibration, MotionState.isCalibrating]
    · simpa using normal
  · exact h.of_eq rfl rfl rfl rfl rfl

theorem judgeCouple (h : c.DriveSafe) (consistId : Nat) (members : List (Nat × Orientation)) :
    (c.judgeCouple consistId members).DriveSafe := by
  have taken : (c.takeCouple consistId members).DriveSafe := by
    unfold Controller.takeCouple
    dsimp only
    split
    · exact of_started (by simpa using h.safeUnder) (by simp [Controller.unpark, Controller.setMode])
    · exact h.of_eq (by simp) (by simp) (by simp) (by simp) (by simp)
  unfold Controller.judgeCouple
  split_ifs
  · exact h.of_eq (by simp) (by simp) (by simp) (by simp) (by simp)
  · exact h
  · exact h
  · exact taken
  · exact h.of_eq rfl rfl rfl rfl rfl

theorem takesFrame (h : c.DriveSafe) (started : c.command.partMode ≠ .start) (takes : c.TakesFrame d) : d.DriveSafe := by
  cases takes with
  | drives frame cls => exact h.takeDrive started frame cls
  | halts source number =>
    unfold Controller.takeHalt
    split
    · exact h
    · split
      · exact emergencyStop (c := c.onCommand _) (h.of_eq rfl rfl rfl rfl rfl) started
      · exact h.of_eq rfl rfl rfl rfl rfl
  | calibrates source => exact h.takeCalibrate started source
  | couples consistId members => exact h.judgeCouple consistId members
  | hears f =>
    have recorded : (c.onPeers (recordLoco (frameSource f.bytes)
        (LocoEntry.heardStatus (statusFields (payloadOf f.bytes))))).DriveSafe := h.of_eq rfl rfl rfl rfl rfl
    unfold Controller.dispatchStatus Controller.statusNotice
    dsimp only
    split
    · exact recorded
    · split
      · exact recorded
      · unfold Controller.shareStop
        split
        · exact emergencyStop (h.of_eq (by simp) (by simp) (by simp) (by simp) (by simp)) (by simpa using started)
        · exact h.of_eq (by simp) (by simp) (by simp) (by simp) (by simp)
  | passes f => exact h.of_same (c.dispatchMarker_drive f) (by simp) (by simp) (by simp) (.inl (by simp))
  | _ => exact h.of_eq (by simp) (by simp) (by simp) (by simp) (by simp)

/-! ### The control period -/

/-- The ramp stage neither begins nor ends a calibration or a stop. -/
theorem ramped_state (c : Controller) :
    c.ramped.motion.state = c.motion.state ∨
      (c.motion.state.isCalibrating = false ∧ (c.ramped.motion.state = .idle ∨ c.ramped.motion.state = .moving)) := by
  have judged (before : Nat) (e : Controller) : (e.judgeDeparture before).motion.state = e.motion.state ∨
      ((e.judgeDeparture before).motion.state = .idle ∨ (e.judgeDeparture before).motion.state = .moving) := by
    rw [Controller.judgeDeparture_motion]
    dsimp only
    split_ifs
    · exact .inr (.inr rfl)
    · exact .inr (.inl rfl)
    · exact .inl rfl
  have state : c.begun.directionStage.motion.state = c.motion.state := c.begun.directionStage_drive.state
  unfold Controller.ramped Controller.rampStage
  split
  · exact .inl state
  · exact .inl state
  · exact .inl state
  · next stopped faulted calibrating =>
    have free : c.motion.state.isCalibrating = false := by
      rw [state] at calibrating
      cases running : c.motion.state with
      | calibrating phase => exact absurd running (calibrating phase)
      | _ => rfl
    split
    · obtain same | moves := judged c.begun.directionStage.motion.rampedSpeed (c.begun.directionStage.onMotion _)
      · exact .inl (same.trans state)
      · exact .inr ⟨free, moves⟩
    · exact .inl state

theorem controlPeriod (h : c.DriveSafe) (started : c.command.partMode ≠ .start) (bemf current : Nat) :
    (c.controlPeriod bemf current).DriveSafe := by
  have motion := c.controlPeriod_motion bemf current
  have state : (c.controlPeriod bemf current).motion.state = c.ramped.motion.state := by simp [motion]
  have duty : (c.controlPeriod bemf current).motion.duty = (c.limited bemf current).motion.duty := by simp [motion]
  have setpoint : (c.controlPeriod bemf current).motion.setpoint = (c.limited bemf current).motion.setpoint := by
    simp [motion]
  have calibrating (running : c.ramped.motion.state.isCalibrating = true) : c.supply.state = .normal := by
    obtain same | ⟨-, idle | moving⟩ := ramped_state c
    · exact h.calibrating (same ▸ running)
    · simp [idle, MotionState.isCalibrating] at running
    · simp [moving, MotionState.isCalibrating] at running
  refine of_started ⟨?_, fun stopped => ?_, fun rests => ?_, fun zero free => ?_, ?_⟩ (by simpa using started)
  · rw [duty, Controller.limited, Controller.limitsStage_duty]
    simpa using limitDuty_le ..
  · rw [state] at stopped
    rw [duty, Controller.limited_duty _ (.inl stopped)]
    cases running : c.ramped.motion.state <;> simp [running, MotionState.stopped] at stopped <;> rfl
  · simp only [Controller.controlPeriod_frame] at rests
    have free : c.ramped.motion.state.isCalibrating = false := by
      by_contra running
      have := calibrating (by simpa using running)
      simp [this] at rests
    rw [duty, Controller.limited_duty free (.inr (.inl ?_))]
    rcases rests with rests | rests <;> rw [rests] <;> rfl
  · rw [state] at free
    rw [setpoint] at zero
    rw [duty, Controller.limited_duty free (.inr (.inr zero))]
  · rw [state]
    simpa using calibrating

/-! ### Calibration and its write -/

theorem of_write (h : c.DriveSafe)
    (cases : c.motion.SameDrive d.motion ∨ (c.motion.state = .calibrating .store ∧ d.motion.Standing))
    (settings : d.settings = c.settings) (supply : d.supply.state = c.supply.state)
    (mode : d.command.partMode = c.command.partMode) (fifo : d.air.rxFifo = c.air.rxFifo) : d.DriveSafe := by
  obtain same | ⟨store, stands⟩ := cases
  · exact h.of_same same settings supply mode (.inl fifo)
  · exact of_standing stands (mode ▸ h.started_of_calibrating (by rw [store]; rfl))

/-! ### The supply -/

theorem setShedLevel (h : c.DriveSafe) (level : Nat) : (c.setShedLevel level).DriveSafe :=
  h.of_eq (by simp) (by simp) (by simp) (by simp) (by simp)

/-- HOLD switches the drive off, and a calibration ends with it (R80, R167). -/
theorem enterHold (started : c.command.partMode ≠ .start) : c.enterHold.DriveSafe := by
  refine setShedLevel (of_started (.of_off rfl fun calibrating => ?_) (by simpa using started)) 4
  simp [Controller.setSupplyState, Controller.abortCalibration_uncalibrated] at calibrating

theorem judgeLadder (h : c.DriveSafe) (started : c.command.partMode ≠ .start) : c.judgeLadder.DriveSafe := by
  unfold Controller.judgeLadder
  dsimp only
  split
  · exact enterHold started
  · exact h.setShedLevel _

theorem supplyTick (h : c.DriveSafe) (vin vres : Nat) : (c.supplyTick vin vres).DriveSafe := by
  unfold Controller.supplyTick
  dsimp only
  split
  · next starting =>
    have waiting := h.waiting starting
    have free : c.motion.state.isCalibrating = false := by rcases waiting.still with state | state <;> rw [state] <;> rfl
    have supply (vin : Nat) (u : SupplyMonitor) (before : u.state = .settle ∨ u.state = .normal) :
        (u.qualifySample vin).state = .settle ∨ (u.qualifySample vin).state = .normal := by
      unfold SupplyMonitor.qualifySample
      split
      · exact before
      · exact .inl rfl
    refine (Controller.driveSafe_iff _).mpr ⟨.of_off waiting.noDuty ?_, fun _ => ?_⟩
    · exact fun calibrating => absurd (calibrating.symm.trans free) nofun
    · exact ⟨waiting.fifo, waiting.still, waiting.noDuty, waiting.noRamp, waiting.noStall, supply vin _ waiting.supply⟩
  · next started =>
    split
    · exact judgeLadder (h.of_eq rfl rfl rfl rfl rfl) started
    · exact h.of_eq rfl rfl rfl rfl rfl

theorem supplyNormal (h : c.DriveSafe) : c.supplyNormal.DriveSafe := by
  refine (Controller.driveSafe_iff _).mpr ⟨?_, fun starting => ?_⟩
  · simpa [Controller.supplyNormal_supply] using h.safeUnder.supplied (.inl rfl)
  · have waiting := h.waiting (by simpa using starting)
    exact ⟨by simpa using waiting.fifo, by simpa using waiting.still, by simpa using waiting.noDuty,
      by simpa using waiting.noRamp, by simpa using waiting.noStall, .inr (by rw [Controller.supplyNormal_supply])⟩

/-- The re-seat moves R and the state that it shows, in IDLE and MOVING only; in START there is nothing to move. -/
theorem reseat (h : c.DriveSafe) : c.reseat.DriveSafe := by
  by_cases starting : c.command.partMode = .start
  · have noRamp := (h.waiting starting).noRamp
    refine h.of_same ?_ (by simp) (by simp) (by simp) (.inl (by simp))
    unfold Controller.reseat
    dsimp only
    split
    · rw [Controller.judgeDeparture_motion]
      constructor <;> simp [noRamp, MotionUnit.rampedSpeed]
    · constructor <;> simp [noRamp]
  · refine of_started ?_ (by simpa using starting)
    simp only [Controller.reseat_frame]
    unfold Controller.reseat
    dsimp only
    split
    · next free =>
      refine h.safeUnder.free free ?_ (by simp) (by simp)
      rw [Controller.judgeDeparture_motion]
      dsimp only
      split_ifs
      · exact .inr rfl
      · exact .inl rfl
      · exact free
    · exact ⟨h.capped, h.stopped, h.unsupplied, h.setpoint, h.calibrating⟩

theorem detectDropout (h : c.DriveSafe) (started : c.command.partMode ≠ .start) : c.detectDropout.DriveSafe := by
  have dropped : ((c.countDropout.onSupply fun u => { u with settleTimer := none, stepDownTimer := none }).setSupplyState
      .dropout).DriveSafe := by
    refine of_started ?_ (by simpa using started)
    simp only [Controller.setSupplyState_frame, Controller.setSupplyState_supply, Controller.onSupply_settings,
      Controller.countDropout_frame]
    unfold Controller.setSupplyState
    obtain ⟨free, same⟩ | ⟨-, motion⟩ := Controller.abortCalibration_cases
      ((c.countDropout.onSupply fun u => { u with settleTimer := none, stepDownTimer := none }).onSupply fun u =>
        { u with state := .dropout })
    · dsimp only
      rw [same]
      exact h.safeUnder.supplied (.inr ⟨rfl, free⟩)
    · dsimp only
      rw [motion]
      exact .of_off rfl nofun
  exact dropped.judgeLadder (by simpa using started)

theorem endHold (h : c.DriveSafe) (holding : c.supply.state = .hold) : c.endHold.DriveSafe := by
  have off : c.motion.duty = 0 := h.unsupplied (.inl holding)
  have started := h.started_of_supply (.inr holding)
  have aborted (e : Controller) (duty : e.motion.duty = 0) : e.abortCalibration.motion.duty = 0 := by
    obtain ⟨-, same⟩ | ⟨-, motion⟩ := e.abortCalibration_cases
    · rwa [same]
    · rw [motion]
  refine setShedLevel (of_started (.of_off (aborted ((c.onSupply _).onSupply _) off) fun calibrating => ?_)
    (by simpa using started)) 3
  simp [Controller.abortCalibration_uncalibrated] at calibrating

/-- The cold start and power-on: nothing drives. -/
theorem of_cold {inForce : CalValues} {defaults : Bool} (motion : d.motion = .cold inForce defaults)
    (fifo : d.air.rxFifo = []) (supply : d.supply.state = .settle) : d.DriveSafe := by
  refine (Controller.driveSafe_iff _).mpr ⟨?_, fun _ => ⟨fifo, ?_, ?_, ?_, ?_, .inl supply⟩⟩ <;> rw [motion]
  · exact .of_off rfl nofun
  · exact .inl rfl
  all_goals rfl

theorem acts (h : c.DriveSafe) (acts : c.Acts d) : d.DriveSafe := by
  cases acts with
  | nothing => exact h
  | millisecond => exact h.of_same ⟨rfl, rfl, rfl, rfl, rfl, rfl⟩ rfl rfl rfl (.inl rfl)
  | receives f =>
    by_cases starting : c.command.partMode = .start
    · simpa [Controller.receiveFrame, starting] using h
    · exact h.of_same (by simpa using ⟨rfl, rfl, rfl, rfl, rfl, rfl⟩) (by simp) (by simp) (by simp) (.inr starting)
  | dispatches f rest _ head takes =>
    have started : c.command.partMode ≠ .start := fun starting => by simp [(h.waiting starting).fifo] at head
    exact takesFrame (c := c.withFifo rest) (h.of_same ⟨rfl, rfl, rfl, rfl, rfl, rfl⟩ rfl rfl rfl (.inr started)) started takes
  | parks running => exact of_started (by simpa using h.safeUnder) (by simp [Controller.enterParked, Controller.setMode])
  | regulates bemf current started => exact h.controlPeriod started bemf current
  | losesBlock => exact h.of_same ⟨rfl, rfl, rfl, rfl, rfl, rfl⟩ rfl rfl rfl (.inl rfl)
  | stalls stalled =>
    refine of_standing (c.latchFault_standing _) ?_
    intro starting
    have := (h.waiting (by simpa using starting)).noStall
    omega
  | overloads => 
    by_cases starting : c.command.partMode = .start
    · have waiting := h.waiting starting
      exact (Controller.driveSafe_iff _).mpr ⟨.of_standing (c.latchFault_standing _), fun _ =>
        ⟨by simpa using waiting.fifo, .inr (by simp), by simp, by simp, by simp, by simpa using waiting.supply⟩⟩
    · exact of_standing (c.latchFault_standing _) (by simpa using starting)
  | measures r spun => 
    have running : c.motion.state.isCalibrating = true := by rw [spun]; rfl
    exact of_started (.of_calibrating h.capped rfl (h.calibrating running)) (h.started_of_calibrating running)
  | stores r measured => 
    have running : c.motion.state.isCalibrating = true := by rw [measured]; rfl
    exact of_started (.of_off rfl fun _ => h.calibrating running) (h.started_of_calibrating running)
  | refuses measured =>
    exact of_standing (Controller.leaveCalibration_standing _)
      (by simpa using h.started_of_calibrating (by rw [measured]; rfl))
  | writes => exact h.of_write c.writeComplete_drive (by simp) (by simp) (by simp) (by simp)
  | failsToWrite => exact h.of_write c.writeTimeout_drive (by simp) (by simp) (by simp) (by simp)
  | pulses =>
    have settled : c.settleBeats.DriveSafe := settleBeats_keeps h
      (fun _ => (abortCalibration (c := (c.onBeat _).onLatches _) (h.of_eq rfl rfl rfl rfl rfl)).of_eq rfl rfl rfl rfl rfl)
      (fun sound _ => sound.of_eq rfl rfl rfl rfl rfl)
      fun sound => sound.of_eq (by simp) (by simp) (by simp) (by simp) (by simp)
    exact settled.of_eq (by simp) (by simp) (by simp) (by simp) (by simp)
  | failsSensor =>
    exact (abortCalibration (c := (c.onBeat _).onLatches _) (h.of_eq rfl rfl rfl rfl rfl)).of_eq rfl rfl rfl rfl rfl
  | samplesSupply vin vres => exact h.supplyTick vin vres
  | dropsOut => exact h.detectDropout ‹_›
  | picksUp => exact h.supplyNormal
  | endsHold holding => exact h.endHold holding
  | settles settling => exact h.supplyNormal.reseat
  | restarts holding => 
    have motion : c.warmRestart.motion = { c.motion.warm with state := .idle } := by
      simp [Controller.warmRestart_eq, Controller.restarted]
    refine of_standing (motion ▸ ⟨nofun, rfl, rfl, rfl, rfl⟩) ?_
    simp [Controller.warmRestart_eq, Controller.restarted, CommandUnit.warm]
  | brownsOut => exact of_cold rfl rfl rfl
  | startsCold => exact of_cold rfl rfl rfl
  | qualifies starting => 
    have waiting := h.waiting starting
    refine (Controller.driveSafe_iff _).mpr ⟨h.safeUnder.supplied (.inl rfl), fun _ => ?_⟩
    exact ⟨waiting.fifo, waiting.still, waiting.noDuty, waiting.noRamp, waiting.noStall, .inr rfl⟩
  | runs => exact of_started (by simpa using h.safeUnder) (by simp [Controller.enterRun, Controller.setMode])
  | opensWindow => exact h.of_eq rfl rfl rfl rfl (AirInterface.openWindow_rxFifo _)
  | chargesBusy kind => exact h.of_eq (by simp) (by simp) (by simp) (by simp) (c.chargeBusy_air kind).1
  | transmits kind => exact h.of_eq (by simp) (by simp) (by simp) (by simp) (c.beginTransmission_rxFifo kind)
  | failsTransmission t => exact h.of_eq (by simp) (by simp) (by simp) (by simp) (c.failTransmission_air t).1
  | cutsOff t => exact h.of_eq (by simp) (by simp) (by simp) (by simp) (Controller.failTransmission_air t _).1
  | endsTransmission | leavesQuiet | quiets => exact h.of_eq rfl rfl rfl rfl rfl
  | fallsInQuiet left => exact h.of_eq rfl rfl rfl rfl (AirInterface.fallInQuiet_rxFifo left _)
  | _ => exact h.of_eq (by simp) (by simp) (by simp) (by simp) (by simp)

end Controller.DriveSafe

/-- Settles O6: `Controller.DriveSafe.acts` for every operation. -/
theorem everyStepKeepsTheDriveSafe : Obligations.EveryStepKeepsTheDriveSafe :=
  fun _ _ safe next => step_keeps Controller.DriveSafe.acts safe next

end Sys2Proof.Machine
end

section
/-! PROOFS. The state after reset meets every invariant, and what a step does when no command waits (log 1). -/

namespace Sys2Proof.Machine

/-! ### After reset -/

/-- Settles O4: `State.reset` by evaluation, unit by unit. -/
theorem resetIsAnUnloadedColdStart : Obligations.ResetIsAnUnloadedColdStart := by
  refine ⟨rfl, rfl, rfl, rfl, rfl, rfl, rfl, ⟨rfl, rfl, rfl, rfl, rfl, rfl, rfl, rfl, fun v member => ?_⟩, rfl, rfl, rfl, rfl, rfl⟩
  obtain rfl : v = Voice.cold := List.eq_of_mem_replicate member
  exact ⟨rfl, rfl, rfl, rfl, rfl, rfl, rfl, rfl, rfl, rfl, rfl, rfl⟩

/-- Settles O5: each invariant at the cold-start state of its unit. -/
theorem resetIsSound : Obligations.ResetIsSound := by
  have lights : State.reset.LightsSound := .of_dark rfl rfl
  exact ⟨.of_cold rfl rfl rfl, .of_standing ⟨nofun, rfl, rfl, rfl, rfl⟩, .of_cold rfl,
    .cold (show 1 ≤ Settings.builtIn.preload by decide) (.inr rfl) rfl,
    .of_whole (c := State.reset.toController) rfl (.cold _), .cold _ _ rfl, Counters.zero_bounded, lights.judged, lights.outputs,
    SoundEngine.VoicesSound.cold _ _⟩

/-! ### Timers of one millisecond (log 2) -/

theorem lowerTimer_eq (timer : Option Nat) : lowerTimer timer = timer.map fun n => if n ≤ 1 then n else n - 1 := by
  match timer with
  | none => rfl
  | some 0 => rfl
  | some 1 => rfl
  | some (n + 2) => rfl

theorem timerDue_iff (timer : Option Nat) : timerDue timer = true ↔ ∃ n, timer = some n ∧ n ≤ 1 := by
  cases timer <;> simp [timerDue]

theorem TxState.lower_eq (t : TxState) :
    t.lower = match t with
      | .backoff n => .backoff (if n ≤ 1 then n else n - 1)
      | .quiet n => .quiet (n - 1)
      | other => other := by
  match t with
  | .backoff 0 => rfl
  | .backoff 1 => rfl
  | .backoff (n + 2) => rfl
  | .quiet 0 => rfl
  | .quiet (n + 1) => rfl
  | .idle => rfl
  | .listen _ => rfl
  | .sending => rfl

theorem WriteState.lower_eq (w : WriteState) :
    w.lower = match w with
      | .writing record n => .writing record (if n ≤ 1 then n else n - 1)
      | .restoring record n => .restoring record (if n ≤ 1 then n else n - 1)
      | .none => .none := by
  match w with
  | .none => rfl
  | .writing _ 0 => rfl
  | .writing _ 1 => rfl
  | .writing _ (n + 2) => rfl
  | .restoring _ 0 => rfl
  | .restoring _ 1 => rfl
  | .restoring _ (n + 2) => rfl

theorem WriteState.due_iff (w : WriteState) :
    w.due = true ↔ ∃ record n, (w = .writing record n ∨ w = .restoring record n) ∧ n ≤ 1 := by
  cases w <;> simp [WriteState.due]

/-! ### What is due -/

theorem dueWhen_eq_some {due : Bool} {i j : Instr} : dueWhen due i = some j ↔ due = true ∧ i = j := by
  cases due <;> simp [dueWhen]

theorem dueWhen_eq_none {due : Bool} {i : Instr} : dueWhen due i = none ↔ due = false := by
  cases due <;> simp [dueWhen]

theorem AirInterface.transmitterDue_eq_some {a : AirInterface} {i : Instr} :
    a.transmitterDue = some i ↔ (∃ n, a.transmitter = .backoff n ∧ n ≤ 1) ∧ i = .backoffEnd := by
  unfold AirInterface.transmitterDue
  rw [eq_comm (a := i)]
  cases state : a.transmitter <;> simp [dueWhen_eq_some]

theorem AirInterface.chosenSlot_eq_none {a : AirInterface} :
    a.chosenSlot = none ↔
      a.joinSlot.requested = false ∧ a.statusSlot.requested = false ∧ a.diagSlot.requested = false := by
  unfold AirInterface.chosenSlot
  split_ifs <;> simp_all

theorem chooseVoice_eq_none (voices : List Voice) (k : Nat) :
    chooseVoice k voices = none ↔ ∀ v ∈ voices, v.eligible = false := by
  induction voices generalizing k with
  | nil => simp [chooseVoice]
  | cons v rest ih =>
    simp only [chooseVoice, List.forall_mem_cons]
    rw [← ih (k + 1)]
    cases v.eligible
    · simp
    · simp only [if_true, Bool.true_eq_false, false_and, iff_false]
      split
      · split <;> exact nofun
      · exact nofun

/-- The expiries of a millisecond, each with its timer. -/
theorem Controller.mem_expiries {c : Controller} {i : Instr} :
    i ∈ c.expiries ↔
      (timerDue (c.command.binding.map (·.supervision)) = true ∧ Instr.supervisionExpiry = i) ∨
        (timerDue c.supply.holdTimer = true ∧ Instr.warmRestart = i) ∨
        (timerDue c.supply.settleTimer = true ∧ Instr.settleEnd = i) ∨
        (timerDue c.supply.stepDownTimer = true ∧ Instr.stepDownExpiry = i) ∨
        (c.motion.write.due = true ∧ Instr.writeTimeout = i) ∨
        (timerDue c.consist.negotiationTimer = true ∧ Instr.negotiationTimeout = i) ∨
        (timerDue c.consist.joinTimer = true ∧ Instr.joinTimerExpiry = i) ∨
        (timerDue c.smoke.heatUpTimer = true ∧ Instr.heatUpTimeout = i) ∨
        (timerDue c.smoke.purgeTimer = true ∧ Instr.purgeEnd = i) ∨
        (timerDue c.smoke.puffTimer = true ∧ Instr.puffEnd = i) ∨
        (c.command.parkTimer.any (c.settings.parkLimit ≤ · + 1) = true ∧ Instr.parkDelayExpiry = i) ∨
        (timerDue c.air.statusTimer = true ∧ Instr.statusIntervalExpiry = i) ∨
        ((∃ n, c.air.transmitter = .backoff n ∧ n ≤ 1) ∧ i = .backoffEnd) ∨
        ∃ o ∈ c.consist.others, timerDue o.timer = true ∧ Instr.memberTimerExpiry o.address = i := by
  simp only [Controller.expiries, List.mem_append, List.mem_filterMap, id_eq, List.mem_map, List.mem_filter, exists_eq_right,
    List.mem_cons, List.not_mem_nil, or_false, eq_comm (a := some i), dueWhen_eq_some, AirInterface.transmitterDue_eq_some,
    or_assoc, and_assoc]

/-! ### The idle step -/

/-- Settles O3: `State.idleStep` with the timers of `Controller.millisecond` and the members of `Controller.expiries` said
case by case. -/
theorem idleStepTakesUpDueEvents : Obligations.IdleStepTakesUpDueEvents := by
  intro s waiting lower last
  have idle : step s = .next s.idleStep := by rw [step, waiting]
  refine ⟨fun i due => by rw [idle, State.idleStep, due], fun none => ?_, ?_⟩
  · have due := none
    unfold Controller.dueEvent at due
    rw [List.findSome?_eq_none_iff] at due
    simp only [List.mem_cons, List.not_mem_nil, or_false, forall_eq_or_imp, forall_eq, id_eq, dueWhen_eq_none] at due
    obtain ⟨stall, -, -, -, dropout, pickup, hold, fault, recovery, -, -, flare, dispatch, listen, fill⟩ := due
    refine ⟨by simpa using stall, ?_, ?_, ?_, ?_, ?_, ?_, ?_, by simpa using flare, ?_⟩
    · intro f head
      simpa [Controller.dispatchDue, head] using dispatch
    · intro state
      rw [← AirInterface.chosenSlot_eq_none]
      simpa [state] using listen
    · intro free
      rw [← chooseVoice_eq_none s.sound.voices 0]
      simpa [free] using fill
    · rintro (state | state)
      · simpa [state] using pickup
      · simpa [state] using hold
    · rintro started (state | state)
      · simpa [started, state] using dropout
      · simpa [started, state] using dropout
    · intro mode sensor
      simpa [BeatCounter.faultFound, mode, sensor] using fault
    · intro sensor
      simpa [BeatCounter.recovered, sensor] using recovery
    · rw [idle, State.idleStep, none]
      simp only [Controller.millisecond, AirInterface.millisecond, CommandUnit.millisecond, ConsistUnit.millisecond,
        ConsistUnit.mapOthers, SmokeController.millisecond, SupplyMonitor.millisecond, lowerTimer_eq, TxState.lower_eq,
        WriteState.lower_eq]
      rfl
  · simp only [Controller.mem_expiries, timerDue_iff, WriteState.due_iff, last, reduceCtorEq, and_false, and_true, or_false,
      false_or, exists_false, Option.map_eq_some_iff, Option.any_eq_true, decide_eq_true_eq, not_false_eq_true, true_and,
      exists_exists_and_eq_and, Instr.memberTimerExpiry.injEq]
    exact ⟨Iff.rfl, fun address => exists_congr fun o => and_congr_right fun _ => and_comm⟩

end Sys2Proof.Machine
end

section
/-! PROOFS. The Air Interface's commands (R1 to R20, R179, R182): the checks of a delivered frame, frames that are not handed
over, the peer table, medium access and transmission. -/

namespace Sys2Proof.Machine

/-- A command that changes the part to `d` and leaves the queue. -/
theorem State.next_update {s : State} {f : Controller → Controller} {d : Controller} (changed : f s.toController = d) :
    (Host.Outcome.next (s.update f) : Host.Outcome State Fault Refusal) = .next { toController := d, pending := s.pending } := by
  rw [State.update, changed]

/-! ### Receiving (R1 to R5) -/

/-- Settles O14: the branches of `receiveFrame` in their order. -/
theorem deliveredFramesAreCheckedInOrder : Obligations.DeliveredFramesAreCheckedInOrder := by
  intro bytes strength s
  refine ⟨fun starting => State.next_update (if_pos starting), fun started => ?_⟩
  have checked : s.toController.receiveFrame { bytes := bytes, strength := strength }
      = if !frameCheck bytes then s.toController.countCheckFail
        else if !structurallySound bytes then s.toController.countMalformed
        else if frameSource bytes = s.settings.ownAddress then s.toController.latchConflict
        else s.toController.offerFrame { bytes := bytes, strength := strength } := if_neg started
  refine ⟨fun damaged => ?_, fun whole malformed => ?_, fun whole sound own => ?_, fun whole sound foreign => ⟨fun room => ?_,
    fun full => ?_⟩⟩
  · exact State.next_update (checked.trans (by rw [damaged]; rfl))
  · exact State.next_update (checked.trans (by rw [whole, malformed]; rfl))
  · exact State.next_update (checked.trans (by rw [whole, sound, if_pos own]; rfl))
  · exact State.next_update (checked.trans (by rw [whole, sound, if_neg foreign]; exact if_pos room))
  · exact State.next_update (checked.trans (by rw [whole, sound, if_neg foreign]; exact if_neg (Nat.not_lt.mpr full)))

/-! ### Frames that are not handed over (R7) -/

/-- A unit that ignores the frame's class leaves the part without the frame and otherwise as it was. -/
theorem State.HeadIs.discards {s : State} {f : RxFrame} {rest : List RxFrame} {kind : FrameKind} {cls : DestinationClass}
    (head : s.HeadIs f rest kind cls) {act : RxFrame → DestinationClass → Controller → Controller}
    (ignored : ∀ c, act f cls c = c) :
    (Host.Outcome.next (s.update (·.dispatch kind act)) : Host.Outcome State Fault Refusal)
      = .next { s with air := { s.air with rxFifo := rest } } :=
  State.next_update ((head.dispatch act).trans (ignored _))

theorem Controller.takeDrive_unaddressed {cls : DestinationClass} (unaddressed : cls ≠ .own ∧ cls ≠ .ownConsist)
    (d : DriveFrame) (c : Controller) : c.takeDrive d cls = c := by
  have unpathed : drivePath c.consist.state cls = none := by
    obtain ⟨foreign, other⟩ := unaddressed
    cases cls with
    | own => exact absurd rfl foreign
    | ownConsist => exact absurd rfl other
    | _ => rfl
  rw [Controller.takeDrive, unpathed]

theorem Controller.takeRelease_unaddressed {cls : DestinationClass} (unaddressed : cls ≠ .own ∧ cls ≠ .ownConsist)
    (source : Nat) (c : Controller) : c.takeRelease source cls = c := by
  refine Controller.takeRelease_ignored fun b _ matching => ?_
  obtain ⟨-, via⟩ := matching
  rcases (cls.via_eq_some b.via).mp via with ⟨own, -⟩ | ⟨consist, -⟩
  · exact unaddressed.1 own
  · exact unaddressed.2 consist

/-- Settles O15: each unit by the destination classes that R7 hands over to it. -/
theorem framesOfOtherClassesAreDiscarded : Obligations.FramesOfOtherClassesAreDiscarded := by
  intro s f rest fifo
  have head {kind : FrameKind} {cls : DestinationClass} (hkind : frameKind f.bytes = some kind)
      (hcls : s.classify (frameDestination f.bytes) = cls) : s.HeadIs f rest kind cls := ⟨fifo, hkind, hcls⟩
  generalize s.classify (frameDestination f.bytes) = cls at head
  refine ⟨fun kind => (head kind rfl).discards fun _ => rfl, fun other => ?_, fun other => ?_, fun all => ?_, fun consist => ?_⟩
  · have unaddressed : cls ≠ .own ∧ cls ≠ .ownConsist := by rcases other with rfl | rfl <;> decide
    have unhalted : cls.halts = false := by rcases other with rfl | rfl <;> rfl
    exact ⟨fun kind => (head kind rfl).discards (Controller.takeDrive_unaddressed unaddressed _),
      fun kind => (head kind rfl).discards (Controller.takeRelease_unaddressed unaddressed _),
      fun kind => (head kind rfl).discards fun _ => by rw [unhalted]; rfl,
      fun kind => (head kind rfl).discards fun _ => if_neg unaddressed.1,
      fun kind => (head kind rfl).discards fun _ => if_neg unaddressed.1,
      fun kind => (head kind rfl).discards fun _ => if_neg unaddressed.2⟩
  · have unlisted : cls.isConsist = false := by rcases other with rfl | rfl | rfl <;> rfl
    have unaddressed : cls ≠ .ownConsist := by rcases other with rfl | rfl | rfl <;> decide
    exact ⟨fun kind => (head kind rfl).discards fun _ => by rw [unlisted]; rfl,
      fun kind => (head kind rfl).discards fun _ => if_neg unaddressed⟩
  · have unaddressed : cls ≠ .own ∧ cls ≠ .ownConsist := by subst all; decide
    exact ⟨fun kind => (head kind rfl).discards (Controller.takeDrive_unaddressed unaddressed _),
      fun kind => (head kind rfl).discards (Controller.takeRelease_unaddressed unaddressed _),
      fun kind => (head kind rfl).discards fun _ => if_neg unaddressed.1,
      fun kind => (head kind rfl).discards fun _ => if_neg unaddressed.1⟩
  · have foreign : cls ≠ .own := by subst consist; decide
    exact ⟨fun kind => (head kind rfl).discards fun _ => if_neg foreign,
      fun kind => (head kind rfl).discards fun _ => if_neg foreign⟩

/-! ### The peer table (R9 to R13) -/

/-- A JOIN with its sender recorded, and the member notice where it is addressed to the own consist (R10). -/
theorem exec_join_of_headIs {s : State} {f : RxFrame} {rest : List RxFrame} {cls : DestinationClass}
    (head : s.HeadIs f rest .join cls) :
    exec .join s = .next (s.update fun c => (c.onAir fun a => { a with rxFifo := rest }).dispatchJoin f cls) :=
  congrArg Host.Outcome.next (head.update_dispatch _)

theorem exec_status_of_headIs {s : State} {f : RxFrame} {rest : List RxFrame} {cls : DestinationClass}
    (head : s.HeadIs f rest .status cls) :
    exec .status s = .next (s.update fun c => (c.onAir fun a => { a with rxFifo := rest }).dispatchStatus f) :=
  congrArg Host.Outcome.next (head.update_dispatch _)

/-- The peer table with the sender of a frame recorded. -/
def Controller.withPeers (table : PeerTable) (c : Controller) : Controller := c.onAir fun a => { a with peers := table }

theorem Controller.onPeers_recordLoco {c : Controller} {address i : Nat} (entry : EntryAt c.air.peers address i)
    (record : LocoEntry → LocoEntry) :
    c.onPeers (recordLoco address record)
      = c.withPeers (c.air.peers.set i (some (.loco (record (entryBefore c.air.peers address i))))) := by
  rw [Controller.onPeers, Controller.withPeers, Controller.onAir, Controller.onAir, recordLoco_of_entryAt record entry]

theorem Controller.onPeers_recordMarker {c : Controller} {address i : Nat} (entry : EntryAt c.air.peers address i) :
    c.onPeers (recordMarker address) = c.withPeers (c.air.peers.set i (some (.marker address 0))) := by
  rw [Controller.onPeers, Controller.withPeers, Controller.onAir, Controller.onAir, recordMarker_of_entryAt entry]

/-- Settles O16: the record goes to the entry of the sender, and the member notice that may follow leaves the table (R9, R10,
R12). -/
theorem peersAreRecordedAsHeard : Obligations.PeersAreRecordedAsHeard := by
  intro s f rest cls
  refine ⟨exists_entryAt _, ?_⟩
  intro i entry before joined reported
  let taken : Controller := s.toController.onAir fun a => { a with rxFifo := rest }
  have joins : taken.onPeers (recordLoco (frameSource f.bytes) (LocoEntry.heardJoin (joinFields (payloadOf f.bytes))))
      = taken.withPeers joined := Controller.onPeers_recordLoco (c := taken) entry _
  have reports : taken.onPeers (recordLoco (frameSource f.bytes) (LocoEntry.heardStatus (statusFields (payloadOf f.bytes))))
      = taken.withPeers reported := Controller.onPeers_recordLoco (c := taken) entry _
  have joinedAt : (taken.dispatchJoin f cls)
      = if cls = .ownConsist then (taken.withPeers joined).joinNotice (frameSource f.bytes) (joinFields (payloadOf f.bytes))
        else taken.withPeers joined := by
    rw [Controller.dispatchJoin, joins]
  have reportedAt : (taken.dispatchStatus f)
      = (taken.withPeers reported).statusNotice (frameSource f.bytes) (statusFields (payloadOf f.bytes))
          (previousEStop (frameSource f.bytes) taken.air.peers) := by
    rw [Controller.dispatchStatus, reports]
  refine ⟨fun head => ⟨_, exec_join_of_headIs head, ?_⟩, fun head => ⟨_, exec_status_of_headIs head, ?_⟩,
    fun head foreign => ?_, fun head solo => ?_⟩
  · change (taken.dispatchJoin f cls).air.peers = joined
    rw [joinedAt]
    split <;> simp [Controller.withPeers]
  · change (taken.dispatchStatus f).air.peers = reported
    rw [reportedAt]
    simp [Controller.withPeers]
  · rw [exec_join_of_headIs head]
    exact State.next_update (joinedAt.trans (if_neg foreign))
  · rw [exec_status_of_headIs head]
    exact State.next_update (reportedAt.trans (if_pos solo))

theorem BlockRecord.accepts_iff (threshold : Nat) (n : MarkerFrame) (b : BlockRecord) :
    b.accepts threshold n = true ↔ b.markerAddress = some n.address ∨ threshold ≤ n.strength := by
  simp [BlockRecord.accepts]

/-- A notice's values change none of what STATUS announces (R46; the aspect: log 19). -/
theorem BlockRecord.follow_announced_iff (n : MarkerFrame) (b : BlockRecord) :
    (b.follow n).announced = b.announced ↔
      b.blockId = some n.blockId ∧ b.effectiveAspect = n.aspect ∧ b.markerAddress = some n.address := by
  have young : (b.follow n).effectiveAspect = n.aspect := if_neg (by simp [BlockRecord.follow])
  simp only [BlockRecord.announced, Prod.mk.injEq, young]
  simp only [BlockRecord.follow, eq_comm]

/-- Settles O17: a pinned sender is ignored; any other is recorded, and its notice judged by R46. -/
theorem markerPassesOrRefreshesTheBlock : Obligations.MarkerPassesOrRefreshesTheBlock := by
  intro s f rest fifo kind
  have head : s.HeadIs f rest .marker _ := ⟨fifo, kind, rfl⟩
  have dispatched : exec .marker s
      = .next (s.update fun c => (c.onAir fun a => { a with rxFifo := rest }).dispatchMarker f) :=
    congrArg Host.Outcome.next (head.update_dispatch _)
  refine ⟨fun pinned => ?_, ?_⟩
  · rw [dispatched]
    exact State.next_update (if_pos pinned)
  · intro i unpinned entry peers followed aspect same taken
    have recorded : (s.toController.onAir fun a => { a with rxFifo := rest }).dispatchMarker f
        = ((s.toController.onAir fun a => { a with rxFifo := rest }).withPeers peers).markerNotice (markerFrame f) := by
      have stays : ¬peerPinned (frameSource f.bytes) s.air.peers = true := by simp [unpinned]
      exact (if_neg stays).trans (congrArg (Controller.markerNotice (markerFrame f))
        (Controller.onPeers_recordMarker (c := s.toController.onAir fun a => { a with rxFifo := rest }) entry))
    have accepted : s.motion.block.accepts s.settings.passingThreshold (markerFrame f) = true ↔ taken :=
      BlockRecord.accepts_iff ..
    have announced : (s.motion.block.follow (markerFrame f)).announced = s.motion.block.announced ↔ same :=
      BlockRecord.follow_announced_iff ..
    rw [dispatched]
    refine ⟨fun weak => ?_, fun strong stands => ?_, fun strong changes => ?_⟩
    · exact State.next_update (recorded.trans (if_neg (mt accepted.mp weak)))
    · exact State.next_update (recorded.trans ((if_pos (accepted.mpr strong)).trans (if_pos (announced.mpr stands))))
    · exact State.next_update (recorded.trans ((if_pos (accepted.mpr strong)).trans (if_neg (mt announced.mp changes))))

theorem agePeer_marker (address n : Nat) :
    agePeer (some (.marker address n)) = if 99 ≤ n then none else some (.marker address (n + 1)) := by
  have limit : 100 ≤ saturatingSucc 255 n ↔ 99 ≤ n := by unfold saturatingSucc; omega
  simp only [agePeer, limit]
  split
  · rfl
  · next young =>
    have next : saturatingSucc 255 n = n + 1 := Nat.min_eq_right (by omega)
    rw [next]

theorem agePeer_loco (e : LocoEntry) :
    agePeer (some (.loco e))
      = if e.pinned = false ∧ (∃ n, e.age = some n ∧ 39 ≤ n) then none
        else
          some
            (.loco
              { e with
                age := e.age.map fun n => min 255 (n + 1)
                statusAge := e.statusAge.map fun n => min 255 (n + 1) }) := by
  have raised : raiseAge = Option.map fun n => min 255 (n + 1) := rfl
  obtain ⟨address, age, statusAge, pinned, status, joined⟩ := e
  cases age with
  | none => simp [agePeer, raised]
  | some n =>
    have limit : 40 ≤ min 255 (n + 1) ↔ 39 ≤ n := by omega
    simp [agePeer, raised, limit]

/-- Settles O18: each entry by `agePeer`. -/
theorem peersAgeAndAreForgotten : Obligations.PeersAgeAndAreForgotten := by
  intro s started
  refine ⟨_, State.next_update (if_neg started), rfl, List.length_map .., fun k => ?_⟩
  have aged (e : Option PeerEntry) (stood : s.air.peers[k]? = some e) :
      (s.air.peers.map agePeer)[k]? = some (agePeer e) := by
    rw [List.getElem?_map, stood]
    rfl
  exact ⟨fun a n stood => (aged _ stood).trans (congrArg some (agePeer_marker a n)),
    fun e stood => (aged _ stood).trans (congrArg some (agePeer_loco e)), aged none⟩

/-! ### Medium access (R15 to R17) -/

theorem AirInterface.openWindow_eq (a : AirInterface) :
    a.openWindow
      = { a with
          transmitter :=
            if a.joinSlot.requested then .listen .join
            else if a.statusSlot.requested then .listen .status
            else if a.diagSlot.requested then .listen .diagReport
            else .idle } := by
  unfold AirInterface.openWindow AirInterface.chosenSlot
  split_ifs <;> rfl

theorem Controller.chargeBusy_backsOff {c : Controller} {kind : TxKind} (below : (c.air.slot kind).attempts < 7) :
    c.chargeBusy kind
      = c.onAir fun a =>
          { a.setSlot kind { requested := true, attempts := (a.slot kind).attempts + 1 } with
            backoffRegister := nextRandom a.backoffRegister
            transmitter := .backoff (backoffTime (nextRandom a.backoffRegister)) } :=
  if_neg (by omega)

theorem Controller.chargeBusy_givesUp {c : Controller} {kind : TxKind} (full : 7 ≤ (c.air.slot kind).attempts) :
    c.chargeBusy kind = (c.onAir fun a => { a.setSlot kind TxSlot.empty with transmitter := .idle }).countTxGiveup :=
  if_pos (by omega)

/-- Settles O19: a window by `openWindow`, a busy one by the two branches of `chargeBusy`. -/
theorem listenWindowsAreChosenAndCharged : Obligations.ListenWindowsAreChosenAndCharged := by
  intro s opened
  have opens : s.toController.onAir (·.openWindow) = opened.toController :=
    congrArg (fun air => { s.toController with air := air }) s.air.openWindow_eq
  refine ⟨fun idle => State.next_update ((if_pos idle).trans opens), fun left backoff => State.next_update ?_,
    fun kind listens => ?_⟩
  · dsimp only
    rw [backoff]
    exact opens
  · have charged : exec (.listenWindowEnd true) s = .next (s.update fun _ => s.toController.chargeBusy kind) := by
      refine State.next_update ?_
      dsimp only
      rw [listens]
      rfl
    exact ⟨fun below => charged.trans (State.next_update (Controller.chargeBusy_backsOff below)),
      fun full => charged.trans (State.next_update (Controller.chargeBusy_givesUp full))⟩

/-- Settles O20: the two branches of `beginTransmission`. -/
theorem clearWindowsTransmitFromCurrentState : Obligations.ClearWindowsTransmitFromCurrentState := by
  intro s kind listens
  have begun : exec (.listenWindowEnd false) s = .next (s.update fun _ => s.toController.beginTransmission kind) := by
    refine State.next_update ?_
    dsimp only
    rw [listens]
    rfl
  have unaddressed : s.ownConsistAddress = none ↔ s.consist.membership = none := by
    simp [Controller.ownConsistAddress, ConsistUnit.consistId]
  refine ⟨fun addressed => begun.trans (State.next_update (if_neg ?_)), fun join alone => begun.trans (State.next_update ?_)⟩
  · rintro ⟨join, none⟩
    rw [unaddressed] at none
    rcases addressed with other | member
    · exact other join
    · simp [none] at member
  · rw [join]
    exact if_pos ⟨rfl, unaddressed.mpr alone⟩

/-! ### Hand-over and what can go wrong (R18, R182) -/

theorem AirInterface.feeding_of_sending {a : AirInterface} {t : Transmission} (sending : a.transmitter = .sending)
    (outgoing : a.outgoing = some t) (unfinished : t.handedOver = false) : a.feeding = some t := by
  rw [AirInterface.feeding, sending, outgoing]
  simp [unfinished]

theorem clearLatch_iff (now carried standing : Bool) :
    clearLatch now carried standing = true ↔ now = true ∧ (carried = false ∨ standing = true) := by
  cases now <;> cases carried <;> cases standing <;> decide

theorem SmokeState.faulty_iff (k : SmokeState) : k.faulty = true ↔ k = .purge ∨ k = .fault := by
  cases k <;> decide

/-- Settles O21: `handOver` by the kind of the frame, each latch by `clearLatch_iff` and its standing condition. -/
theorem handoverClearsWhatWasReported : Obligations.HandoverClearsWhatWasReported := by
  intro s t sending outgoing
  refine ⟨fun unfinished => ?_, fun finished => ?_⟩
  · intro air
    have fed : exec .frameHandover s = .next (s.update fun _ => s.toController.handOver t) := by
      refine State.next_update ?_
      dsimp only
      rw [AirInterface.feeding_of_sending sending outgoing unfinished]
    obtain ⟨kind, attempts, querier, frame, carried, handedOver⟩ := t
    refine ⟨fun join => fed.trans (State.next_update ?_), fun status => fed.trans (State.next_update ?_), fun report => ?_⟩
    · obtain rfl : kind = .join := join
      rfl
    · obtain rfl : kind = .status := status
      rfl
    · obtain rfl : kind = .diagReport := report
      refine ⟨_, fed.trans (State.next_update (d := { s.toController with
          air := air, counters := Counters.zero, latches := s.latches.afterHandover carried s.standing }) rfl), rfl, ?_⟩
      simp [Latches.afterHandover, clearLatch_iff, Controller.standing, SmokeState.faulty_iff]
  · refine State.next_update ?_
    dsimp only
    rw [sending, outgoing]
    exact if_pos finished

theorem AirInterface.putBack_slot (t : Transmission) (a : AirInterface) : ((a.putBack t).slot t.kind).attempts = t.attempts := by
  obtain ⟨kind, attempts, querier, frame, carried, handedOver⟩ := t
  cases kind <;> rfl

/-- A slot written over the request just put back. -/
theorem AirInterface.putBack_setSlot (t : Transmission) (slot : TxSlot) (a : AirInterface) :
    (a.putBack t).setSlot t.kind slot
      = { a.setSlot t.kind slot with
          querier := if t.kind = .diagReport ∧ a.diagSlot.requested = false then t.querier else a.querier
          outgoing := none
          transmitRequest := false } := by
  obtain ⟨kind, attempts, querier, frame, carried, handedOver⟩ := t
  cases kind <;> simp [AirInterface.putBack, AirInterface.setSlot]

theorem AirInterface.setSlot_transmitActive (kind : TxKind) (slot : TxSlot) (line : Bool) (a : AirInterface) :
    ({ a with transmitActive := line } : AirInterface).setSlot kind slot
      = { a.setSlot kind slot with transmitActive := line } := by
  cases kind <;> rfl

/-- The querier that stands once a transmission has been put back: a newer one stands (R18). -/
def AirInterface.querierAfter (t : Transmission) (a : AirInterface) : Nat :=
  if t.kind = .diagReport ∧ a.diagSlot.requested = false then t.querier else a.querier

theorem Controller.failTransmission_backsOff {c : Controller} {t : Transmission} (below : t.attempts < 7) :
    c.failTransmission t
      = { c with
          air :=
            { c.air.setSlot t.kind { requested := true, attempts := t.attempts + 1 } with
              querier := c.air.querierAfter t
              outgoing := none
              transmitRequest := false
              backoffRegister := nextRandom c.air.backoffRegister
              transmitter := .backoff (backoffTime (nextRandom c.air.backoffRegister)) } } := by
  unfold Controller.failTransmission
  rw [Controller.chargeBusy_backsOff (by rwa [Controller.onAir_air, AirInterface.putBack_slot])]
  simp only [Controller.onAir, AirInterface.putBack_slot, AirInterface.putBack_setSlot]
  obtain ⟨kind, attempts, querier, frame, carried, handedOver⟩ := t
  cases kind <;> rfl

theorem Controller.failTransmission_givesUp {c : Controller} {t : Transmission} (full : 7 ≤ t.attempts) :
    c.failTransmission t
      = { c with
          air :=
            { c.air.setSlot t.kind TxSlot.empty with
              querier := c.air.querierAfter t, outgoing := none, transmitRequest := false, transmitter := .idle }
          counters := { c.counters with txGiveup := countUp c.counters.txGiveup } } := by
  unfold Controller.failTransmission
  rw [Controller.chargeBusy_givesUp (by rwa [Controller.onAir_air, AirInterface.putBack_slot])]
  simp only [Controller.onAir, AirInterface.putBack_setSlot, Controller.countTxGiveup, Controller.onCounters]
  rfl

/-- Settles O22: the request is put back, then charged by `chargeBusy`. -/
theorem failedTransmissionsGoBackIntoTheirSlot : Obligations.FailedTransmissionsGoBackIntoTheirSlot := by
  intro s t sending outgoing unfinished querier
  have feeding := AirInterface.feeding_of_sending sending outgoing unfinished
  have timedOut : exec .txActiveTimeout s = .next (s.update fun _ => s.toController.failTransmission t) := by
    refine State.next_update ?_
    dsimp only
    rw [feeding]
  have cutOff : exec .txCutOff s
      = .next (s.update fun _ => (s.toController.onAir fun a => { a with transmitActive := false }).failTransmission t) := by
    refine State.next_update ?_
    dsimp only
    rw [feeding]
  refine ⟨fun below => ⟨?_, ?_⟩, fun full => ⟨?_, ?_⟩⟩
  · exact timedOut.trans (State.next_update (Controller.failTransmission_backsOff below))
  · refine cutOff.trans (State.next_update ((Controller.failTransmission_backsOff below).trans ?_))
    simp only [Controller.onAir, AirInterface.setSlot_transmitActive]
    rfl
  · exact timedOut.trans (State.next_update (Controller.failTransmission_givesUp full))
  · refine cutOff.trans (State.next_update ((Controller.failTransmission_givesUp full).trans ?_))
    simp only [Controller.onAir, AirInterface.setSlot_transmitActive]
    rfl

/-! ### Jabber (R19) -/

/-- Settles O23: each command by the transmitter state and the line. -/
theorem jabberQuietsTheTransmitter : Obligations.JabberQuietsTheTransmitter := by
  intro s quiet idle
  have ended : s.air.quietOver = true ↔ s.air.transmitter = .quiet 0 ∧ s.air.transmitActive = false := s.air.quietOver_iff
  refine ⟨fun fresh => ?_, fun standing high => ?_, fun run low => ?_, fun more => ?_, fun run => ?_, fun left more within => ?_,
    fun other => ?_⟩
  · exact State.next_update (if_neg (mt s.air.jabbering_iff.mp fresh))
  · exact State.next_update (if_pos (s.air.jabbering_iff.mpr ⟨standing, high⟩))
  · exact State.next_update (if_pos (ended.mpr ⟨run, low⟩))
  · refine State.next_update (if_neg ?_)
    rw [ended]
    rintro ⟨run, low⟩
    rcases more with other | high
    · exact other run
    · simp [high] at low
  · refine State.next_update ?_
    dsimp only
    rw [run]
    rfl
  · refine State.next_update ?_
    dsimp only
    rw [within]
    have running : left ≠ 0 := by omega
    simp only [Controller.onAir, AirInterface.fallInQuiet, if_neg running]
    rw [within]
  · refine State.next_update ?_
    split
    · next left state => exact absurd ⟨left, state⟩ other
    · rfl

/-! ### The STATUS interval (R179) -/

/-- Settles O24: the request merges with a waiting one, and the timer takes the interval in force. -/
theorem statusIsRequestedAtIntervals : Obligations.StatusIsRequestedAtIntervals := by
  intro s n timer
  refine State.next_update ?_
  dsimp only
  rw [timer]
  rfl

end Sys2Proof.Machine
end

section
/-! PROOFS. Stops, faults, the calibration and its write (R26 to R29, R35, R38, R47, R56, R70 to R81), each command's whole
effect. -/

namespace Sys2Proof.Machine

/-! ### What a change of the motion state touches (R41) -/

theorem Controller.judgePark_stirring {c : Controller} (stirring : c.motion.state ≠ .idle) :
    c.judgePark = { c with command := { c.command with parkTimer := none } } := by
  have unmet : c.parkConditions = false := by simp [Controller.parkConditions, stirring]
  rw [Controller.judgePark, unmet]
  rfl

/-- Beside the motion state only the STATUS slot and timer and the park timer can change. -/
theorem Controller.setMotionState_eq (state : MotionState) (c : Controller) :
    c.setMotionState state
      = { c with
          air :=
            { c.air with
              statusSlot := (c.setMotionState state).air.statusSlot
              statusTimer := (c.setMotionState state).air.statusTimer }
          command := { c.command with parkTimer := (c.setMotionState state).command.parkTimer }
          motion := { c.motion with state := state } } := by
  unfold Controller.setMotionState
  split <;> rfl

/-- A state other than IDLE, entered with a change of its flags: a STATUS request, and the park timer stops. -/
theorem Controller.setMotionState_flagged {state : MotionState} {c : Controller} (changed : c.motion.state.flags ≠ state.flags)
    (stirring : state ≠ .idle) :
    c.setMotionState state
      = { c with
          air :=
            { c.air with
              statusSlot := c.air.statusSlot.file
              statusTimer :=
                c.air.statusTimer.map (min · (c.onMotion fun m => { m with state := state }).statusInterval) }
          command := { c.command with parkTimer := none }
          motion := { c.motion with state := state } } := by
  rw [Controller.setMotionState, if_neg changed, Controller.afterStateChange, Controller.judgePark_stirring stirring]
  rfl

/-- The STATUS interval of a locomotive that neither moves nor calibrates, in RUN. -/
theorem Controller.statusInterval_standing {c : Controller} (run : c.command.partMode = .run) (still : c.motion.state ≠ .moving)
    (uncalibrated : c.motion.state.isCalibrating = false) :
    c.statusInterval = if c.consist.state = .solo then 1000 else 200 := by
  by_cases solo : c.consist.state = .solo <;> simp [Controller.statusInterval, run, still, uncalibrated, solo]

/-! ### HALT (R28, R29, R56) -/

theorem exec_halt_of_headIs {s : State} {f : RxFrame} {rest : List RxFrame} {cls : DestinationClass}
    (head : s.HeadIs f rest .halt cls) (halts : cls = .all ∨ cls = .own ∨ cls = .ownConsist) :
    exec .halt s
      = .next
          (s.update fun c =>
            (c.onAir fun a => { a with rxFifo := rest }).takeHalt (frameSource f.bytes) (byteAt (payloadOf f.bytes) 0)) := by
  have handed : cls.halts = true := by rcases halts with rfl | rfl | rfl <;> rfl
  refine congrArg Host.Outcome.next ((head.update_dispatch _).trans ?_)
  simp only [handed, if_true]

/-- A stopped locomotive takes nothing from an emergency stop (R56). -/
theorem Controller.emergencyStop_stopped {c : Controller} (stopped : c.motion.state.stopped = true) : c.emergencyStop = c := by
  cases state : c.motion.state <;> simp_all [Controller.emergencyStop, MotionState.stopped]

/-- A locomotive that stands ready or runs in RUN comes to a stop, with R, I and the duty at 0 (R56). -/
theorem Controller.emergencyStop_running {c : Controller} (run : c.command.partMode = .run)
    (running : c.motion.state = .idle ∨ c.motion.state = .moving) :
    c.emergencyStop
      = { c with
          air :=
            { c.air with
              statusSlot := c.air.statusSlot.file
              statusTimer := c.air.statusTimer.map (min · (if c.consist.state = .solo then 1000 else 200)) }
          command := { c.command with parkTimer := none }
          motion := { c.motion with state := .eStopped, ramp := 0, duty := 0, integrator := 0, labour := .coast }
          sound := c.sound.motionTrigger .eStop } := by
  have stop : c.emergencyStop = (c.standStill.setMotionState .eStopped).raise .eStop := by
    rcases running with state | state <;> rw [Controller.emergencyStop, state]
  have unflagged : c.standStill.motion.state.flags ≠ MotionState.flags .eStopped := by
    rcases running with state | state <;> simp [state, MotionState.flags]
  have interval : (c.standStill.onMotion fun m => { m with state := .eStopped }).statusInterval
      = if c.consist.state = .solo then 1000 else 200 :=
    Controller.statusInterval_standing run (show MotionState.eStopped ≠ .moving by decide) rfl
  rw [stop, Controller.setMotionState_flagged unflagged nofun, interval]
  rfl

theorem MotionState.flags_of_isCalibrating {state : MotionState} (calibrating : state.isCalibrating = true) :
    state.flags = (false, false, false, true) := by
  cases state with
  | calibrating phase => rfl
  | _ => contradiction

/-- A calibration that ends in a state other than IDLE, as the flags change (R80). -/
theorem Controller.leaveCalibration_flagged {state : MotionState} {c : Controller} (changed : c.motion.state.flags ≠ state.flags)
    (stirring : state ≠ .idle) :
    c.leaveCalibration state
      = { c with
          air :=
            { c.air with
              statusSlot := c.air.statusSlot.file
              statusTimer := (c.leaveCalibration state).air.statusTimer }
          command := { c.command with parkTimer := none }
          motion :=
            { c.motion with state := state, duty := 0, ramp := 0, integrator := 0, calibration := none, labour := .coast } } := by
  have left : c.leaveCalibration state = _ :=
    Controller.setMotionState_flagged (c := c.onMotion fun m =>
      { m with duty := 0, ramp := 0, integrator := 0, calibration := none, labour := .coast }) changed stirring
  rw [left]
  rfl

/-- A calibrating locomotive loses its calibration to the stop (R80). -/
theorem Controller.emergencyStop_calibrating {c : Controller} (calibrating : c.motion.state.isCalibrating = true) :
    c.emergencyStop
        = { c with
            air :=
              { c.air with
                statusSlot := c.emergencyStop.air.statusSlot, statusTimer := c.emergencyStop.air.statusTimer }
            command := { c.command with parkTimer := none }
            motion :=
              { c.motion with
                state := .eStopped, duty := 0, ramp := 0, integrator := 0, calibration := none, labour := .coast }
            sound := c.sound.motionTrigger .eStop }
      ∧ c.emergencyStop.air.statusSlot.requested = true := by
  have stop : c.emergencyStop = (c.leaveCalibration .eStopped).raise .eStop := by
    cases state : c.motion.state <;> simp_all [Controller.emergencyStop, MotionState.isCalibrating]
  have changed : c.motion.state.flags ≠ MotionState.flags .eStopped := by
    rw [MotionState.flags_of_isCalibrating calibrating]; decide
  rw [stop, Controller.leaveCalibration_flagged changed nofun]
  exact ⟨rfl, TxSlot.file_requested _⟩

/-- Settles O31: a pair already held, a part that is not in RUN or is stopped already, and the two ways to stop. -/
theorem haltStopsOnceForEachInstance : Obligations.HaltStopsOnceForEachInstance := by
  intro s f rest cls head halts pair
  rw [exec_halt_of_headIs head halts]
  have remember (anew : s.command.lastHalt ≠ some pair) :
      (s.toController.onAir fun a => { a with rxFifo := rest }).takeHalt (frameSource f.bytes) (byteAt (payloadOf f.bytes) 0)
        = if s.command.partMode = .run then
            ({ s.toController with
                air := { s.air with rxFifo := rest }, command := { s.command with lastHalt := some pair } }).emergencyStop
          else
            { s.toController with
              air := { s.air with rxFifo := rest }, command := { s.command with lastHalt := some pair } } :=
    if_neg anew
  refine ⟨fun again => State.next_update (if_pos again), fun anew unmoved => ?_, fun anew run running => ?_,
    fun anew run calibrating => ?_⟩
  · refine State.next_update ((remember anew).trans ?_)
    by_cases run : s.command.partMode = .run
    · rw [if_pos run]
      exact Controller.emergencyStop_stopped (unmoved.resolve_left (not_not_intro run))
    · exact if_neg run
  · exact State.next_update ((remember anew).trans ((if_pos run).trans (Controller.emergencyStop_running run running)))
  · have stopped := Controller.emergencyStop_calibrating
      (c := { s.toController with
              air := { s.air with rxFifo := rest }, command := { s.command with lastHalt := some pair } }) calibrating
    obtain ⟨change, requested⟩ := stopped
    exact ⟨_, State.next_update ((remember anew).trans (if_pos run)), congrArg (State.mk · s.pending) change, requested⟩

/-! ### CALIBRATE (R35, R75) -/

theorem Controller.mayCalibrate_iff (source : Nat) (c : Controller) :
    c.mayCalibrate source = true
      ↔ c.command.partMode = .run ∧ c.consist.state = .solo
        ∧ (∃ b, c.command.binding = some b ∧ b.throttle = source ∧ b.via = .own) ∧ c.motion.state = .idle
        ∧ c.beat.mode = .event ∧ c.beat.sensor = .ok ∧ c.supply.state = .normal := by
  simp only [Controller.mayCalibrate, Bool.and_eq_true, beq_iff_eq, Option.map_eq_some_iff, Prod.mk.injEq, and_assoc]

theorem exec_calibrate_of_headIs {s : State} {f : RxFrame} {rest : List RxFrame} (head : s.HeadIs f rest .calibrate .own) :
    exec .calibrate s
      = .next (s.update fun c => (c.onAir fun a => { a with rxFifo := rest }).takeCalibrate (frameSource f.bytes)) :=
  congrArg Host.Outcome.next (head.update_dispatch _)

/-- Settles O32: under the conditions the calibration starts from IDLE, whose flags it changes. -/
theorem calibrateStartsOrIsRefused : Obligations.CalibrateStartsOrIsRefused := by
  intro s f rest head
  rw [exec_calibrate_of_headIs head]
  have may := Controller.mayCalibrate_iff (frameSource f.bytes) (s.toController.onAir fun a => { a with rxFifo := rest })
  refine ⟨fun allowed => ?_, fun barred => State.next_update (if_neg (mt may.mp barred))⟩
  have unflagged : s.motion.state.flags ≠ MotionState.flags (.calibrating .spinup) := by
    obtain ⟨-, -, -, idle, -⟩ := allowed
    rw [idle]; decide
  have started : (s.toController.onAir fun a => { a with rxFifo := rest }).startCalibration = _ :=
    Controller.setMotionState_flagged (c := (s.toController.onAir fun a => { a with rxFifo := rest }).onMotion _) unflagged
      nofun
  refine ⟨_, State.next_update ((if_pos (may.mpr allowed)).trans started), rfl, TxSlot.file_requested _⟩

/-! ### Supervision and parking (R26, R27, R37, R38) -/

/-- The states that parking turns off (R154). -/
def SmokeState.works (state : SmokeState) : Prop := state = .heating ∨ state = .ready ∨ state = .shed

/-- Parking turns smoke that works off, and no smoke flag changes with it (R154). -/
theorem Controller.smokePark_works {c : Controller} (works : c.smoke.state.works) :
    c.smokePark = c.onSmoke (·.enterOff) := by
  rcases works with state | state | state <;>
    · simp only [Controller.smokePark, Controller.changeSmoke, Controller.announceSmoke, state]
      rfl

theorem Controller.smokePark_idle {c : Controller} (idle : ¬c.smoke.state.works) : c.smokePark = c := by
  cases state : c.smoke.state <;> simp_all [SmokeState.works, Controller.smokePark]

/-- A part mode other than RUN stops the park timer (R37). -/
theorem Controller.enterParked_eq (c : Controller) :
    c.enterParked
      = (({ c with
            air := { c.air with statusSlot := c.air.statusSlot.file, statusTimer := c.air.statusTimer.map (min · 5000) }
            command := { c.command with partMode := .parked, parkTimer := none }
            sound := c.sound.park }).smokePark).judgeLights := rfl

/-- Settles O34. -/
theorem timersUnbindAndPark : Obligations.TimersUnbindAndPark := by
  intro s
  refine ⟨fun b bound => ?_, fun n timer below => ?_, fun n run timer reached => ?_⟩
  · refine State.next_update ?_
    dsimp only
    rw [bound]
    by_cases consist : b.via = .consist ∧ s.consist.state ≠ .solo
    · refine (if_pos consist).trans ?_
      obtain ⟨via, coupled⟩ := consist
      simp only [via, coupled, ne_eq, decide_true, decide_not, decide_false, Bool.not_false, Bool.and_true, Bool.or_true]
      rfl
    · refine (if_neg consist).trans ?_
      have lowered : (decide (b.via = .consist) && decide (s.consist.state ≠ .solo)) = false := by
        simpa using consist
      rw [lowered, Bool.or_false]
      rfl
  · refine State.next_update (if_neg ?_)
    rintro ⟨-, reached⟩
    rw [Controller.parkDelayOver, timer] at reached
    exact absurd (of_decide_eq_true reached) (Nat.not_le.mpr below)
  · have elapsed : s.toController.parkDelayOver = true := by
      rw [Controller.parkDelayOver, timer]
      exact decide_eq_true reached
    have parks : exec .parkDelayExpiry s = .next (s.update Controller.enterParked) := State.next_update (if_pos ⟨run, elapsed⟩)
    rw [parks, State.update, Controller.enterParked_eq]
    by_cases works : s.smoke.state.works
    · rw [Controller.smokePark_works (by exact works)]
      exact ⟨_, rfl, rfl, TxSlot.file_requested _, rfl, fun _ => ⟨rfl, rfl, rfl⟩,
        (absurd works ·), Controller.judgeLights_judged _⟩
    · rw [Controller.smokePark_idle (by exact works)]
      exact ⟨_, rfl, rfl, TxSlot.file_requested _, rfl, (absurd · works), fun _ => rfl,
        Controller.judgeLights_judged _⟩

/-! ### Faults and stale blocks (R47, R70 to R73) -/

/-- A latched fault whose flags are new, from any motion state. -/
theorem Controller.latchFault_flagged {cause : FaultCause} {c : Controller}
    (changed : c.motion.state.flags ≠ MotionState.flags (.faulted cause)) :
    c.latchFault cause
      = { c with
          air :=
            { c.air with
              statusSlot := c.air.statusSlot.file, statusTimer := (c.latchFault cause).air.statusTimer }
          command := { c.command with parkTimer := none }
          motion :=
            { c.motion with
              state := .faulted cause, duty := 0, ramp := 0, integrator := 0, stallCount := 0, calibration := none
              labour := .coast } } := by
  have latched : c.latchFault cause = _ :=
    Controller.setMotionState_flagged (c := c.onMotion fun m =>
      { m with duty := 0, ramp := 0, integrator := 0, stallCount := 0, calibration := none, labour := .coast }) changed nofun
  rw [latched]
  rfl

/-- The flags tell the faults apart from each other and from every other motion state (section 3.1). -/
theorem MotionState.flags_faulted {state : MotionState} {cause : FaultCause} (other : state ≠ .faulted cause) :
    state.flags ≠ MotionState.flags (.faulted cause) := by
  cases state with
  | faulted latched => cases latched <;> cases cause <;> simp_all [MotionState.flags]
  | _ => cases cause <;> simp [MotionState.flags]

/-- Settles O46: each fault from a state with other flags, so STATUS is requested. -/
theorem faultsAndStaleBlocksAreJudged : Obligations.FaultsAndStaleBlocksAreJudged := by
  intro s requested faulted
  refine ⟨fun stale known => State.next_update (if_pos ⟨stale, known⟩), fun stalled other => ?_, fun sample =>
    ⟨fun hard other => ?_, fun harmless => State.next_update (if_neg ?_)⟩⟩
  · exact ⟨_, State.next_update ((if_pos stalled).trans (Controller.latchFault_flagged (MotionState.flags_faulted other))), rfl⟩
  · exact ⟨_, State.next_update ((if_pos ⟨hard, other⟩).trans
      (Controller.latchFault_flagged (MotionState.flags_faulted other))), rfl⟩
  · rintro ⟨hard, other⟩
    exact harmless.elim (Nat.not_lt.mpr hard) other

/-! ### The phases of a calibration and its write (R75 to R81) -/

/-- A calibration that ends at IDLE: the drive is off, STATUS is requested (R77, R80). -/
theorem Controller.leaveCalibration_idle {c : Controller} (calibrating : c.motion.state.isCalibrating = true) :
    c.leaveCalibration .idle
        = { c with
            air :=
              { c.air with
                statusSlot := (c.leaveCalibration .idle).air.statusSlot
                statusTimer := (c.leaveCalibration .idle).air.statusTimer }
            command := { c.command with parkTimer := (c.leaveCalibration .idle).command.parkTimer }
            motion :=
              { c.motion with state := .idle, duty := 0, ramp := 0, integrator := 0, calibration := none, labour := .coast } }
      ∧ (c.leaveCalibration .idle).air.statusSlot.requested = true := by
  refine ⟨Controller.setMotionState_eq .idle (c.onMotion fun m =>
    { m with duty := 0, ramp := 0, integrator := 0, calibration := none, labour := .coast }), ?_⟩
  have changed : c.motion.state.flags ≠ MotionState.flags .idle := by
    rw [MotionState.flags_of_isCalibrating calibrating]; decide
  exact Controller.setMotionState_status (c := c.onMotion _) changed

theorem CalRecord.valid_iff (r : CalRecord) :
    r.valid = true ↔ 0 < r.bemfSum / 400 ∧ 0 < r.wheelSum / 400 ∧ r.foldbackSeen = false := by
  simp [CalRecord.valid, and_assoc]

/-- Settles O47: the end of each phase, and the measurement by its validity. -/
theorem calibrationMeasuresAndStores : Obligations.CalibrationMeasuresAndStores := by
  intro s r record ended bemf wheel values
  refine ⟨fun spinup => ?_, fun measure => ?_⟩
  · refine State.next_update ?_
    dsimp only
    rw [spinup, record]
    exact if_pos ended
  · have measured : exec .measureEnd s
        = .next (s.update fun c => if r.valid then c.beginStore r else c.refuseCalibration) := by
      refine State.next_update ?_
      dsimp only
      rw [measure, record]
      exact if_pos ended
    rw [measured]
    refine ⟨fun valid => State.next_update (if_pos (r.valid_iff.mpr valid)), fun invalid => ?_⟩
    have left := Controller.leaveCalibration_idle (c := s.toController.latchCalRefused)
      (show s.motion.state.isCalibrating = true by rw [measure]; rfl)
    obtain ⟨idle, requested⟩ := left
    exact ⟨_, State.next_update ((if_neg (mt r.valid_iff.mp invalid)).trans idle), rfl, requested⟩

/-- Settles O48: the write that is under way, and the new values where the calibration is in STORE. -/
theorem writesAdoptOrRestoreTheValues : Obligations.WritesAdoptOrRestoreTheValues := by
  intro s record left ended restoring
  refine ⟨fun write => ?_, fun write elsewhere => ?_, fun r values write store cal new => ?_⟩
  · constructor <;> refine State.next_update ?_
    · rw [Controller.writeComplete, write]; rfl
    · rw [Controller.writeTimeout, write]; rfl
  · have unstored : s.motion.stored = none := if_neg elsewhere
    constructor <;> refine State.next_update ?_
    · rw [Controller.writeComplete, write, unstored]; rfl
    · rw [Controller.writeTimeout, write, unstored]; rfl
  · have stored : s.motion.stored = some values := by
      rw [MotionUnit.stored, if_pos store, cal]
      exact new
    have calibrating : s.motion.state.isCalibrating = true := by rw [store]; rfl
    obtain ⟨adopted, announced⟩ :=
      Controller.leaveCalibration_idle (c := (s.toController.adopt values).endWrite) calibrating
    obtain ⟨restored, refused⟩ :=
      Controller.leaveCalibration_idle (c := s.toController.restoreRecord.latchCalRefused) calibrating
    have complete : s.toController.writeComplete = ((s.toController.adopt values).endWrite).leaveCalibration .idle := by
      rw [Controller.writeComplete, write]
      dsimp only
      rw [stored]
    have timeout : s.toController.writeTimeout = s.toController.restoreRecord.refuseCalibration := by
      rw [Controller.writeTimeout, write]
      dsimp only
      rw [stored]
    exact ⟨⟨_, State.next_update (complete.trans adopted), rfl, announced⟩,
      ⟨_, State.next_update (timeout.trans restored), rfl, refused⟩⟩

end Sys2Proof.Machine
end

section
/-! PROOFS. The Beat Counter's commands (R83 to R93): pulses, timed beats, the watch of the wheel sensor. -/

namespace Sys2Proof.Machine

/-! ### A beat (R85, R86, R151, R163) -/

/-- The interval that ends with a beat, or the last one where no beat came before it (R85). -/
def BeatCounter.endedInterval (b : BeatCounter) : Option Nat :=
  if b.beatAge.isSome = true then b.beatAge.map (max 1) else b.lastInterval

theorem BeatCounter.space_eq (b : BeatCounter) :
    b.space = { b with lastInterval := b.endedInterval, beatAge := some 0 } := by
  obtain ⟨age, before⟩ : ∃ age, b.beatAge = age := ⟨_, rfl⟩
  cases age with
  | none => rw [BeatCounter.space, BeatCounter.endedInterval, before]; rfl
  | some n => rw [BeatCounter.space, BeatCounter.endedInterval, before]; rfl

theorem Settings.puffDuty_eq (cfg : Settings) (labour : LabourLevel) :
    cfg.puffDuty labour
      = cfg.fanPuff.getD
          (match labour with
          | .coast => 0
          | .light => 1
          | .working => 2
          | .heavy => 3)
          0 := by
  cases labour <;> rfl

/-- A beat is spaced, heard, seen and advances the phase; nothing else changes. -/
theorem Controller.emitBeat_eq (c : Controller) :
    c.emitBeat
      = { c with
          beat :=
            { c.beat with
              phase := (c.beat.phase + 1) % c.settings.beatsPerRevolution, beatAge := some 0
              lastInterval := c.beat.endedInterval }
          sound := c.sound.beatTrigger c.motion.labour c.beat.phase
          smoke :=
            if c.smoke.state = .ready then
              { c.smoke with
                puffDuty := c.settings.puffDuty c.motion.labour, fanDuty := c.settings.puffDuty c.motion.labour
                puffTimer := some (puffLength c.beat.endedInterval) }
            else c.smoke
          light :=
            { c.light with
              flareTimer :=
                if c.motion.labour = .working ∨ c.motion.labour = .heavy then some 60 else c.light.flareTimer } } := by
  simp only [Controller.emitBeat, Controller.deliverBeat, Controller.puffBeat, Controller.flareBeat, Controller.onBeat,
    Controller.onSound, Controller.onLight, Controller.onSmoke, BeatCounter.space_eq]
  by_cases ready : c.smoke.state = .ready <;> by_cases hard : c.motion.labour = .working ∨ c.motion.labour = .heavy <;>
    simp only [ready, hard, if_true, if_false]

/-! ### What falls together with a pulse (R90, R92) -/

theorem Controller.beatTimedOut_iff (c : Controller) :
    c.beatTimedOut = true ↔ c.beat.mode = .interval ∧ c.beat.intervalTimer = some 0 ∧ 8 ≤ c.motion.measuredSpeed := by
  simp [Controller.beatTimedOut, and_assoc]

/-- Nothing of the Beat Counter waits to take effect. -/
structure Controller.BeatsSettled (c : Controller) : Prop where
  unfaulted : c.beat.faultFound = false
  unrecovered : c.beat.recovered = false
  untimed : c.beatTimedOut = false

theorem Controller.BeatsSettled.settleBeats {c : Controller} (h : c.BeatsSettled) : c.settleBeats = c := by
  simp only [Controller.settleBeats, h.unfaulted, h.unrecovered, h.untimed, Bool.false_eq_true, if_false]

/-- The interval timer starts with time left (R88). -/
theorem startInterval_ne_zero (beatConstant measured : Nat) : startInterval beatConstant measured ≠ some 0 := by
  unfold startInterval
  split
  · exact nofun
  · have least : 20 ≤ beatInterval beatConstant measured := le_max_left _ _
    intro stopped
    have zero := Option.some.inj stopped
    omega

/-- A part whose timer has just started, in INTERVAL mode and without eight good pulses, is settled. -/
theorem Controller.beatsSettled_of_interval {c : Controller} {beatConstant measured : Nat} (mode : c.beat.mode = .interval)
    (timer : c.beat.intervalTimer = startInterval beatConstant measured) (unrecovered : c.beat.recovered = false) :
    c.BeatsSettled where
  unfaulted := by simp [BeatCounter.faultFound, mode]
  unrecovered := unrecovered
  untimed := by simp [Controller.beatTimedOut, timer, startInterval_ne_zero]

theorem Controller.failSensor_settled (c : Controller) : c.failSensor.BeatsSettled :=
  Controller.beatsSettled_of_interval (by rw [c.failSensor_beat]) (by rw [c.failSensor_beat])
    (by simp [c.failSensor_beat, BeatCounter.recovered])

theorem Controller.recoverSensor_settled (c : Controller) : c.recoverSensor.BeatsSettled where
  unfaulted := by simp [c.recoverSensor_beat, BeatCounter.faultFound]
  unrecovered := by simp [c.recoverSensor_beat, BeatCounter.recovered]
  untimed := by simp [Controller.beatTimedOut, c.recoverSensor_beat]

/-- A timed beat as it leaves the Beat Counter. -/
theorem Controller.timedBeat_beat (c : Controller) :
    c.timedBeat.beat
      = { c.beat with
          phase := (c.beat.phase + 1) % c.settings.beatsPerRevolution, beatAge := some 0
          lastInterval := c.beat.endedInterval
          intervalTimer := startInterval c.settings.beatConstant c.motion.measuredSpeed } := by
  rw [Controller.timedBeat, c.emitBeat_eq]
  rfl

theorem Controller.timedBeat_settled {c : Controller} (mode : c.beat.mode = .interval) (unrecovered : c.beat.recovered = false) :
    c.timedBeat.BeatsSettled :=
  Controller.beatsSettled_of_interval (by rw [c.timedBeat_beat]; exact mode) (by rw [c.timedBeat_beat])
    (by rw [c.timedBeat_beat]; exact unrecovered)

/-- A fault settles into the state that SENSOR_FAULT leaves. -/
theorem Controller.settleBeats_faulty {c : Controller} (found : c.beat.faultFound = true) : c.settleBeats = c.failSensor := by
  have settled := c.failSensor_settled
  simp only [Controller.settleBeats, found, if_true, settled.unrecovered, settled.untimed, Bool.false_eq_true, if_false]

theorem Controller.settleBeats_recovered {c : Controller} (recovered : c.beat.recovered = true) :
    c.settleBeats = c.recoverSensor := by
  have unfaulted : c.beat.faultFound = false := by
    obtain ⟨fault, -⟩ := c.beat.recovered_iff.mp recovered
    simp [BeatCounter.faultFound, fault]
  simp only [Controller.settleBeats, unfaulted, recovered, if_true, c.recoverSensor_settled.untimed, Bool.false_eq_true,
    if_false]

theorem Controller.settleBeats_timed {c : Controller} (timedOut : c.beatTimedOut = true) (unrecovered : c.beat.recovered = false) :
    c.settleBeats = c.timedBeat := by
  have unfaulted : c.beat.faultFound = false := by
    obtain ⟨mode, -⟩ := c.beatTimedOut_iff.mp timedOut
    simp [BeatCounter.faultFound, mode]
  simp only [Controller.settleBeats, unfaulted, unrecovered, timedOut, if_true, Bool.false_eq_true, if_false]

/-! ### A pulse (R83, R84, R87, R92) -/

theorem BeatCounter.acceptsPulse_iff (b : BeatCounter) :
    b.acceptsPulse = true ↔ ∀ last, b.lastPulse = some last → last + 4 ≤ b.now := by
  unfold BeatCounter.acceptsPulse
  split
  · next last pulse => simp [pulse]
  · next unpulsed => simp [unpulsed]

/-- A pulse that stands beside an event which takes effect first: the event's own step, then the pulse. -/
theorem exec_wheelPulse_after {s : State} {u : Controller} {event : Instr} (started : s.command.partMode ≠ .start)
    (fitted : s.settings.sensorFitted = true) (accepted : s.beat.acceptsPulse = true) (settles : s.toController.settleBeats = u)
    (settled : u.BeatsSettled) (partMode : u.command.partMode = s.command.partMode) (settings : u.settings = s.settings)
    (lastPulse : u.beat.lastPulse = s.beat.lastPulse) (now : u.beat.now = s.beat.now)
    (own : exec event s = .next { toController := u, pending := s.pending }) :
    ∃ v t : State, exec event s = .next v ∧ exec .wheelPulse v = .next t ∧ exec .wheelPulse s = .next t := by
  have again : u.beat.acceptsPulse = true := by rwa [BeatCounter.acceptsPulse, lastPulse, now]
  have fittedToo : u.settings.sensorFitted = true := by rwa [settings]
  refine ⟨_, _, own, State.next_update (if_pos ⟨partMode ▸ started, fittedToo, again⟩), ?_⟩
  rw [settled.settleBeats, ← settles]
  exact State.next_update (if_pos ⟨started, fitted, accepted⟩)

theorem goodPeriod_eq (period : Option Nat) : goodPeriod period = period.any fun p => 4 ≤ p && p ≤ 2000 := by
  cases period <;> rfl

/-- An accepted pulse by status, mode and counter (R87, R92). -/
theorem Controller.acceptPulse_fault {c : Controller} (fault : c.beat.sensor = .fault) :
    c.acceptPulse = c.onBeat fun b => (b.measure c.settings.pulseDistance).judgeRecovery := by
  rw [Controller.acceptPulse, fault]; rfl

theorem Controller.acceptPulse_interval {c : Controller} (ok : c.beat.sensor = .ok) (interval : c.beat.mode = .interval) :
    c.acceptPulse = c.onBeat (·.measure c.settings.pulseDistance) := by
  rw [Controller.acceptPulse, ok]
  exact if_neg (by rw [interval]; decide)

theorem Controller.acceptPulse_event {c : Controller} (ok : c.beat.sensor = .ok) (event : c.beat.mode = .event) :
    c.acceptPulse = (c.onBeat (·.measure c.settings.pulseDistance)).countPulse := by
  rw [Controller.acceptPulse, ok]
  exact if_pos event

/-- What O49 says of an emitted beat, for the Beat Counter `b` of the emission. -/
theorem Controller.emitBeat_emitted (c : Controller) (b : BeatCounter) (age : b.beatAge = c.beat.beatAge)
    (last : b.lastInterval = c.beat.lastInterval) (phase : b.phase = c.beat.phase) :
    ({ c with beat := b } : Controller).emitBeat
      = { c with
          beat :=
            { b with
              phase := (c.beat.phase + 1) % c.settings.beatsPerRevolution, beatAge := some 0
              lastInterval := c.beat.endedInterval }
          sound := c.sound.beatTrigger c.motion.labour c.beat.phase
          smoke :=
            if c.smoke.state = .ready then
              { c.smoke with
                puffDuty := c.settings.puffDuty c.motion.labour, fanDuty := c.settings.puffDuty c.motion.labour
                puffTimer := some (puffLength c.beat.endedInterval) }
            else c.smoke
          light :=
            { c.light with
              flareTimer :=
                if c.motion.labour = .working ∨ c.motion.labour = .heavy then some 60 else c.light.flareTimer } } := by
  have ended : b.endedInterval = c.beat.endedInterval := by rw [BeatCounter.endedInterval, age, last]; rfl
  rw [Controller.emitBeat_eq, ended, phase]

/-- A timed beat is the emission with the timer loaded again (R89). -/
theorem Controller.timedBeat_eq (c : Controller) :
    c.timedBeat
      = ({ c with
            beat :=
              { c.beat with intervalTimer := startInterval c.settings.beatConstant c.motion.measuredSpeed } } :
          Controller).emitBeat := by
  rw [Controller.timedBeat, Controller.emitBeat_eq]
  exact (Controller.emitBeat_emitted c { c.beat with
    intervalTimer := startInterval c.settings.beatConstant c.motion.measuredSpeed } rfl rfl rfl).symm

/-- Settles O49: a settled pulse by its measurement and the mode, an unsettled one through the event that comes first, and a
timed beat as an emission that reloads its timer. -/
theorem pulsesAndTimersEmitBeats : Obligations.PulsesAndTimersEmitBeats := by
  intro s emitted found recovered timedOut pulsed
  have foundIff : s.beat.faultFound = true ↔ found := s.beat.faultFound_iff
  have recoveredIff : s.beat.recovered = true ↔ recovered := s.beat.recovered_iff
  have timedIff : s.beatTimedOut = true ↔ timedOut := s.toController.beatTimedOut_iff
  have emits (b : BeatCounter) (age : b.beatAge = s.beat.beatAge) (last : b.lastInterval = s.beat.lastInterval)
      (phase : b.phase = s.beat.phase) :
      emitted b { toController := ({ s.toController with beat := b } : Controller).emitBeat, pending := s.pending } := by
    rw [Controller.emitBeat_emitted _ b age last phase, Settings.puffDuty_eq]
    rfl
  refine ⟨fun started fitted => ⟨fun unfound unrecovered untimed => ?_, fun last pulse early => ?_, fun spaced => ?_⟩,
    fun barred => ?_, fun timed => ?_, fun untimed => State.next_update (if_neg (mt timedIff.mp untimed))⟩
  · have settled : s.BeatsSettled := ⟨Bool.eq_false_iff.mpr (mt foundIff.mp unfound),
      Bool.eq_false_iff.mpr (mt recoveredIff.mp unrecovered), Bool.eq_false_iff.mpr (mt timedIff.mp untimed)⟩
    have accepts (accepted : s.beat.acceptsPulse = true) {d : Controller} (taken : s.toController.acceptPulse = d) :
        exec .wheelPulse s = .next { toController := d, pending := s.pending } :=
      State.next_update ((if_pos ⟨started, fitted, accepted⟩).trans (by rw [settled.settleBeats, taken]))
    have pulses (lastPulse period : Option Nat) (pulseAge speed : Nat) (accepted : s.beat.acceptsPulse = true)
        (measured : s.beat.measure s.settings.pulseDistance
          = { s.beat with lastPulse := lastPulse, pulseAge := pulseAge, period := period, wheelSpeed := speed }) :
        pulsed { s.beat with lastPulse := lastPulse, pulseAge := pulseAge, period := period, wheelSpeed := speed } := by
      have measures : (s.toController.onBeat (·.measure s.settings.pulseDistance))
          = { s.toController with
              beat := { s.beat with lastPulse := lastPulse, pulseAge := pulseAge, period := period, wheelSpeed := speed } } := by
        rw [Controller.onBeat, measured]
      refine ⟨fun fault => accepts accepted ?_, fun ok interval => accepts accepted ?_, fun ok event more => accepts accepted ?_,
        fun ok event done => ?_⟩
      · rw [Controller.acceptPulse_fault fault, Controller.onBeat, measured, BeatCounter.judgeRecovery, goodPeriod_eq]
        rfl
      · exact (Controller.acceptPulse_interval ok interval).trans measures
      · rw [Controller.acceptPulse_event ok event, measures]
        exact if_neg (Nat.not_le.mpr more)
      · refine ⟨_, accepts accepted ?_, emits { s.beat with
          lastPulse := lastPulse, pulseAge := pulseAge, period := period, wheelSpeed := speed
          faultWatch := 0, counter := s.settings.preload } rfl rfl rfl⟩
        rw [Controller.acceptPulse_event ok event, measures]
        exact if_pos done
    refine ⟨fun first => ?_, fun last pulse spaced => ?_⟩
    · refine pulses _ _ _ _ (s.beat.acceptsPulse_iff.mpr ?_) ?_
      · simp [first]
      · rw [BeatCounter.measure, first]
    · refine pulses _ _ _ _ (s.beat.acceptsPulse_iff.mpr ?_) ?_
      · intro before same
        rw [pulse] at same
        cases same
        exact spaced
      · rw [BeatCounter.measure, pulse]; rfl
  · refine State.next_update (if_neg ?_)
    rintro ⟨-, -, accepted⟩
    have spaced := s.beat.acceptsPulse_iff.mp accepted last pulse
    omega
  · have accepted := s.beat.acceptsPulse_iff.mpr spaced
    refine ⟨fun fault => ?_, fun sound => ?_, fun timed unrecovered => ?_⟩
    · have flagged := foundIff.mpr fault
      exact exec_wheelPulse_after started fitted accepted (Controller.settleBeats_faulty flagged)
        (Controller.failSensor_settled _) (by simp) (by simp) (by rw [Controller.failSensor_beat])
        (by rw [Controller.failSensor_beat]) (State.next_update (if_pos flagged))
    · have flagged := recoveredIff.mpr sound
      exact exec_wheelPulse_after started fitted accepted (Controller.settleBeats_recovered flagged)
        (Controller.recoverSensor_settled _) (by simp) (by simp) (by rw [Controller.recoverSensor_beat])
        (by rw [Controller.recoverSensor_beat]) (State.next_update (if_pos flagged))
    · have flagged := timedIff.mpr timed
      have unproved := Bool.eq_false_iff.mpr (mt recoveredIff.mp unrecovered)
      obtain ⟨mode, -⟩ := timed
      exact exec_wheelPulse_after started fitted accepted (Controller.settleBeats_timed flagged unproved)
        (Controller.timedBeat_settled mode unproved) (by simp) (by simp) (by rw [Controller.timedBeat_beat])
        (by rw [Controller.timedBeat_beat]) (State.next_update (if_pos flagged))
  · refine State.next_update (if_neg ?_)
    rintro ⟨started, fitted, -⟩
    rcases barred with start | unfitted
    · exact started start
    · rw [unfitted] at fitted; contradiction
  · have flagged := timedIff.mpr timed
    obtain ⟨-, -, moving⟩ := timed
    have reloaded : startInterval s.settings.beatConstant s.motion.measuredSpeed
        = some (max 20 (min (s.settings.beatConstant * 16 / s.motion.measuredSpeed) 2000)) := if_neg (by omega)
    refine ⟨_, State.next_update ((if_pos flagged).trans ?_), emits { s.beat with
      intervalTimer := some (max 20 (min (s.settings.beatConstant * 16 / s.motion.measuredSpeed) 2000)) } rfl rfl rfl⟩
    rw [Controller.timedBeat_eq, reloaded]

/-! ### The watch of the wheel sensor (R84, R89 to R92) -/

/-- A sensor fault latches, aborts a calibration and requests STATUS (R91). -/
theorem Controller.failSensor_eq (c : Controller) :
    c.failSensor
      = { c with
          air :=
            { c.air with statusSlot := c.failSensor.air.statusSlot, statusTimer := c.failSensor.air.statusTimer }
          command := { c.command with parkTimer := c.failSensor.command.parkTimer }
          motion :=
            if c.motion.state.isCalibrating = true then
              { c.motion with
                state := .idle, duty := 0, ramp := 0, integrator := 0, calibration := none, labour := .coast }
            else c.motion
          beat :=
            { c.beat with
              sensor := .fault, mode := .interval, faultWatch := 0, goodPulses := 0
              intervalTimer := startInterval c.settings.beatConstant c.motion.measuredSpeed }
          latches := { c.latches with sensorFault := true } } := by
  unfold Controller.failSensor Controller.abortCalibration
  by_cases calibrating : c.motion.state.isCalibrating = true
  · simp only [Controller.onBeat, Controller.onLatches, calibrating, if_true]
    exact congrArg Controller.fileStatus (Controller.leaveCalibration_idle (by exact calibrating)).1
  · simp only [Controller.onBeat, Controller.onLatches, calibrating]
    rfl

/-- The decay touches the pulse age and the wheel speed only (R84). -/
theorem BeatCounter.decay_eq (distance : Nat) (b : BeatCounter) :
    b.decay distance
      = { b with
          pulseAge := if b.lastPulse.isSome = true then min 65535 (b.pulseAge + 1) else b.pulseAge
          wheelSpeed := (b.decay distance).wheelSpeed } := by
  unfold BeatCounter.decay
  split
  · next unpulsed => rw [if_neg (by simp [unpulsed])]
  · next last pulse => rw [if_pos (by simp [pulse])]; rfl

/-- One millisecond of the Beat Counter: the ages, and from RUN on the fault watch and the interval timer. -/
theorem Controller.beatTick_eq (c : Controller) :
    c.beatTick
      = { c with
          beat :=
            { c.beat with
              now := c.beat.now + 1
              beatAge := c.beat.beatAge.map (saturatingSucc 65535)
              pulseAge :=
                if c.beat.lastPulse.isSome = true then min 65535 (c.beat.pulseAge + 1) else c.beat.pulseAge
              wheelSpeed := (c.beat.decay c.settings.pulseDistance).wheelSpeed
              faultWatch :=
                if c.command.partMode = .start then c.beat.faultWatch
                else nextFaultWatch c.beat.mode c.beat.sensor c.motion.measuredSpeed c.beat.faultWatch
              intervalTimer :=
                if c.command.partMode = .start then c.beat.intervalTimer
                else
                  nextIntervalTimer c.beat.mode c.settings.beatConstant c.motion.measuredSpeed c.beat.intervalTimer } } := by
  simp only [Controller.beatTick, Controller.onBeat]
  rw [c.beat.decay_eq]
  by_cases start : c.command.partMode = .start <;> simp only [start, if_true, if_false]

/-- The wheel speed of a pulse that lies longer back than its period, and 0 once the age is full (R84). -/
theorem BeatCounter.decay_wheelSpeed {distance last : Nat} {b : BeatCounter} (pulse : b.lastPulse = some last) :
    (b.decay distance).wheelSpeed
      = if min 65535 (b.pulseAge + 1) = 65535 then 0
        else
          match b.period with
          | some p =>
            if p < min 65535 (b.pulseAge + 1) then wheelSpeedOf distance (min 65535 (b.pulseAge + 1)) else b.wheelSpeed
          | none => b.wheelSpeed := by
  rw [BeatCounter.decay, pulse]
  rfl

theorem BeatCounter.decay_unpulsed {distance : Nat} {b : BeatCounter} (unpulsed : b.lastPulse = none) :
    (b.decay distance).wheelSpeed = b.wheelSpeed := by
  rw [BeatCounter.decay, unpulsed]

/-- Settles O50: the fault and the recovery whole, and the tick field by field. -/
theorem theWheelSensorIsWatchedAndRecovers : Obligations.TheWheelSensorIsWatchedAndRecovers := by
  intro s
  refine ⟨fun mode ok watched moving => ?_, fun fault good => ?_, ?_⟩
  · have interval : startInterval s.settings.beatConstant s.motion.measuredSpeed
        = some (max 20 (min (s.settings.beatConstant * 16 / s.motion.measuredSpeed) 2000)) := if_neg (by omega)
    have failed := s.toController.failSensor_eq
    rw [interval] at failed
    exact ⟨_, State.next_update ((if_pos (s.beat.faultFound_iff.mpr ⟨mode, ok, watched⟩)).trans failed), rfl,
      TxSlot.file_requested _⟩
  · exact State.next_update (if_pos (s.beat.recovered_iff.mpr ⟨fault, good⟩))
  · have aged {last : Nat} (pulse : s.beat.lastPulse = some last) :
        (if s.beat.lastPulse.isSome = true then min 65535 (s.beat.pulseAge + 1) else s.beat.pulseAge)
          = min 65535 (s.beat.pulseAge + 1) := if_pos (by simp [pulse])
    refine ⟨_, State.next_update s.toController.beatTick_eq, rfl, fun pulsed full => ?_, fun pulsed young p period => ?_,
      fun kept => ?_, fun start => ⟨if_pos start, if_pos start⟩, fun started => ⟨?_, fun stops => ?_, fun interval moving timer => ?_,
      fun interval moving n timer => ?_⟩⟩
    · obtain ⟨last, pulse⟩ := Option.isSome_iff_exists.mp pulsed
      dsimp only at full ⊢
      rw [aged pulse] at full
      rw [BeatCounter.decay_wheelSpeed pulse, if_pos full]
    · obtain ⟨last, pulse⟩ := Option.isSome_iff_exists.mp pulsed
      dsimp only at young ⊢
      rw [aged pulse] at young ⊢
      rw [BeatCounter.decay_wheelSpeed pulse, if_neg (Nat.ne_of_lt young), period]
      rfl
    · cases pulse : s.beat.lastPulse with
      | none => exact BeatCounter.decay_unpulsed pulse
      | some last =>
        obtain ⟨young, unmeasured⟩ := kept.resolve_left (by simp [pulse])
        dsimp only at young ⊢
        rw [aged pulse] at young
        rw [BeatCounter.decay_wheelSpeed pulse, if_neg (Nat.ne_of_lt young), unmeasured]
    · exact if_neg started
    · refine (if_neg started).trans ?_
      rcases stops with event | slow
      · exact if_neg (by rw [event]; decide)
      · unfold nextIntervalTimer
        rw [if_pos slow, ite_self]
    · refine (if_neg started).trans ((if_pos interval).trans ((if_neg (Nat.not_lt.mpr moving)).trans ?_))
      rw [timer]
      exact if_neg (by omega)
    · refine (if_neg started).trans ((if_pos interval).trans ((if_neg (Nat.not_lt.mpr moving)).trans ?_))
      rw [timer]

end Sys2Proof.Machine
end

section
/-! PROOFS. The Smoke Controller's commands (R146 to R151). -/

namespace Sys2Proof.Machine

/-- A change that enters or leaves the faulty states is announced (R155). -/
theorem Controller.changeSmoke_announced {c : Controller} {f : SmokeController → SmokeController}
    (turns : c.smoke.state.faulty ≠ (f c.smoke).state.faulty) :
    c.changeSmoke f
      = { c with air := { c.air with statusSlot := c.air.statusSlot.file }, smoke := f c.smoke } :=
  if_neg turns

/-- A change within the faulty states, or within the others, is not. -/
theorem Controller.changeSmoke_unannounced {c : Controller} {f : SmokeController → SmokeController}
    (stands : c.smoke.state.faulty = (f c.smoke).state.faulty) : c.changeSmoke f = { c with smoke := f c.smoke } :=
  if_pos stands

/-! ### The smoke sample (R146 to R150) -/

theorem sensorOpen_iff (reading : Nat) : sensorOpen reading = true ↔ reading ≤ 3 ∨ 1020 ≤ reading := by
  simp [sensorOpen]

theorem dryElement_iff (window : List Nat) :
    dryElement window = true ↔ window.length = 11 ∧ window.headD 0 + 15 < window.getLastD 0 := by
  simp [dryElement]

/-- The temperature of the sample, and the window it leaves. -/
def SmokeController.sampled (temperature : Nat) (k : SmokeController) : SmokeController :=
  { k with temperature := temperature, dryWindow := nextWindow k.heater temperature k.dryWindow }

/-- The three outcomes of a sample, with the sensor and the heating as they are. -/
theorem Controller.smokeTick_open {c : Controller} {reading : Nat} (unsound : sensorOpen reading = true)
    (works : c.smoke.state = .heating ∨ c.smoke.state = .ready ∨ c.smoke.state = .shed) :
    c.smokeTick reading
      = ((c.onSmoke fun k => { k with temperature := temperatureOf c.settings.temperatureTable reading }).changeSmoke
          (·.enterFault)).latchSmokeFault :=
  if_pos ⟨unsound, works⟩

theorem Controller.smokeTick_sampled {c : Controller} {reading : Nat}
    (passes : ¬(sensorOpen reading = true ∧ (c.smoke.state = .heating ∨ c.smoke.state = .ready ∨ c.smoke.state = .shed))) :
    c.smokeTick reading
      = let d := c.onSmoke (·.sampled (temperatureOf c.settings.temperatureTable reading))
        if c.smoke.state = .heating ∨ c.smoke.state = .ready then
          if dryElement d.smoke.dryWindow ∨ c.settings.tMax < temperatureOf c.settings.temperatureTable reading then d.startPurge
          else d.onSmoke (·.switchHeater c.smokeTarget c.settings.fanIdle)
        else d :=
  if_neg passes

/-- The heater is switched around the target, and smoke that heats becomes READY near it (R149). -/
theorem SmokeController.switchHeater_eq (target fanIdle : Nat) (k : SmokeController) :
    k.switchHeater target fanIdle
      = { k with
          state := if k.state = .heating ∧ (target : Int) - 5 ≤ k.temperature then .ready else k.state
          heatUpTimer := if k.state = .heating ∧ (target : Int) - 5 ≤ k.temperature then none else k.heatUpTimer
          fanDuty := if k.state = .heating ∧ (target : Int) - 5 ≤ k.temperature then fanIdle else k.fanDuty
          heater :=
            if (k.temperature : Int) < (target : Int) - 5 then true
            else if (target : Int) < k.temperature then false
            else k.heater } := by
  by_cases warm : k.state = .heating ∧ (target : Int) - 5 ≤ k.temperature
  · simp only [SmokeController.switchHeater, if_pos warm, Nat.cast_lt]
  · simp only [SmokeController.switchHeater, if_neg warm, Nat.cast_lt]

/-- Settles O54. -/
theorem smokeSamplesSwitchAndProtect : Obligations.SmokeSamplesSwitchAndProtect := by
  intro s reading started k point temperature heats unsound target longer window hot warm stopped
  have samples {d : Controller} (tick : s.toController.smokeTick reading.val = d) :
      exec (.smokeSample reading) s = .next { toController := d, pending := s.pending } :=
    State.next_update ((if_neg started).trans tick)
  have unsoundIff : sensorOpen reading.val = true ↔ unsound := sensorOpen_iff _
  have aim : ((s.smokeTarget : Nat) : Int) = target := by
    unfold Controller.smokeTarget
    split
    · next hard => exact (if_pos hard).symm
    · next easy => exact (if_neg easy).symm
  have passing (easy : ¬unsound ∨ ¬(s.smoke.state = .heating ∨ s.smoke.state = .ready ∨ s.smoke.state = .shed)) :=
    Controller.smokeTick_sampled (c := s.toController) (reading := reading.val) fun ⟨opened, working⟩ =>
      easy.elim (absurd (unsoundIff.mp opened)) (absurd working)
  have hotIff : (dryElement window = true ∨ s.settings.tMax < temperature) ↔ hot := by
    rw [dryElement_iff, or_comm]
  refine ⟨fun sound still => if_neg ?_, fun openSensor works => ?_, fun closed heating overheats => ?_,
    fun closed heating cool => ?_, fun cold passes => ?_⟩
  · rw [sound.coast (.inl still)]
    rintro (hard | hard) <;> cases hard
  · have working : s.smoke.state = .heating ∨ s.smoke.state = .ready ∨ s.smoke.state = .shed := or_assoc.mp works
    have sound : s.smoke.state.faulty = false := by rcases working with state | state | state <;> rw [state] <;> rfl
    have faulted := Controller.changeSmoke_announced
      (c := s.toController.onSmoke fun k => { k with temperature := temperatureOf s.settings.temperatureTable reading.val })
      (f := (·.enterFault)) (by exact Bool.eq_false_iff.mp sound)
    exact ⟨_, samples ((Controller.smokeTick_open (unsoundIff.mpr openSensor) working).trans
      (congrArg Controller.latchSmokeFault faulted)), rfl, TxSlot.file_requested _⟩
  · have sound : s.smoke.state.faulty = false := by rcases heating with state | state <;> rw [state] <;> rfl
    have purged := Controller.changeSmoke_announced (c := s.toController.onSmoke (·.sampled temperature))
      (f := (·.enterPurge)) (by exact Bool.eq_false_iff.mp sound)
    exact ⟨_, samples (((passing (.inl closed)).trans ((if_pos heating).trans (if_pos (hotIff.mpr overheats)))).trans
      (congrArg Controller.latchSmokeFault purged)), rfl, TxSlot.file_requested _⟩
  · refine samples ((passing (.inl closed)).trans ((if_pos heating).trans ((if_neg (mt hotIff.mp cool)).trans ?_)))
    rw [Controller.onSmoke, SmokeController.switchHeater_eq, aim]
    rfl
  · refine samples ((passing (passes.imp_right fun unshed => ?_)).trans (if_neg cold))
    rw [← or_assoc]
    exact fun works => works.elim cold unshed

/-! ### The smoke timers (R150, R151) -/

/-- Settles O55: the purge of a heat-up that takes too long, its end by the smoke level, and the end of a puff. -/
theorem smokeTimersPurgeAndPuff : Obligations.SmokeTimersPurgeAndPuff := by
  intro s
  refine ⟨fun heating runs => ?_, fun purging runs => ?_, fun ready runs => State.next_update (if_pos ⟨ready, runs⟩)⟩
  · have purged := Controller.changeSmoke_announced (c := s.toController) (f := (·.enterPurge))
      (by rw [heating]; exact nofun)
    exact ⟨_, State.next_update ((if_pos ⟨heating, runs⟩).trans (congrArg Controller.latchSmokeFault purged)), rfl,
      TxSlot.file_requested _⟩
  · have ends {d : Controller} (ended : s.toController.endPurge = d) :
        exec .purgeEnd s = .next { toController := d, pending := s.pending } :=
      State.next_update ((if_pos ⟨purging, runs⟩).trans ended)
    constructor <;> intro level
    · refine ends ((Controller.changeSmoke_unannounced ?_).trans ?_)
      · rw [purging, level]; rfl
      · rw [level]; rfl
    · refine ends ((Controller.changeSmoke_announced ?_).trans ?_)
      · rw [purging, level]; exact nofun
      · rw [level]; rfl

end Sys2Proof.Machine
end

section
/-! PROOFS. The Consist Unit's commands (R94 to R116): the common parameters, COUPLE taken, the return to SOLO, the JOIN and
member timers, the negotiation. -/

namespace Sys2Proof.Machine

/-! ### The common parameters (R105) -/

theorem leastOf_mem (x : Nat) (xs : List Nat) : leastOf x xs ∈ x :: xs := by
  induction xs generalizing x with
  | nil => exact List.mem_singleton.mpr rfl
  | cons y ys ih =>
    have least : leastOf (min x y) ys ∈ min x y :: ys := ih (min x y)
    rcases List.mem_cons.mp least with first | later
    · rcases le_total x y with order | order
      · exact List.mem_cons.mpr (.inl (first.trans (min_eq_left order)))
      · exact List.mem_cons_of_mem x (List.mem_cons.mpr (.inl (first.trans (min_eq_right order))))
    · exact List.mem_cons_of_mem x (List.mem_cons_of_mem y later)

theorem leastOf_le {x : Nat} {xs : List Nat} : ∀ a ∈ x :: xs, leastOf x xs ≤ a := by
  induction xs generalizing x with
  | nil => exact fun a mem => (List.mem_singleton.mp mem).ge
  | cons y ys ih =>
    have below : leastOf (min x y) ys ≤ min x y := ih _ (List.mem_cons_self ..)
    intro a mem
    rcases List.mem_cons.mp mem with rfl | mem
    · exact below.trans (min_le_left _ _)
    · rcases List.mem_cons.mp mem with rfl | mem
      · exact below.trans (min_le_right _ _)
      · exact ih a (List.mem_cons_of_mem _ mem)

theorem greatestOf_mem (x : Nat) (xs : List Nat) : greatestOf x xs ∈ x :: xs := by
  induction xs generalizing x with
  | nil => exact List.mem_singleton.mpr rfl
  | cons y ys ih =>
    have greatest : greatestOf (max x y) ys ∈ max x y :: ys := ih (max x y)
    rcases List.mem_cons.mp greatest with first | later
    · rcases le_total x y with order | order
      · exact List.mem_cons_of_mem x (List.mem_cons.mpr (.inl (first.trans (max_eq_right order))))
      · exact List.mem_cons.mpr (.inl (first.trans (max_eq_left order)))
    · exact List.mem_cons_of_mem x (List.mem_cons_of_mem y later)

theorem le_greatestOf {x : Nat} {xs : List Nat} : ∀ a ∈ x :: xs, a ≤ greatestOf x xs := by
  induction xs generalizing x with
  | nil => exact fun a mem => (List.mem_singleton.mp mem).le
  | cons y ys ih =>
    have above : max x y ≤ greatestOf (max x y) ys := ih _ (List.mem_cons_self ..)
    intro a mem
    rcases List.mem_cons.mp mem with rfl | mem
    · exact (le_max_left _ _).trans above
    · rcases List.mem_cons.mp mem with rfl | mem
      · exact (le_max_right _ _).trans above
      · exact ih a (List.mem_cons_of_mem _ mem)

/-- The least and the greatest are those of the words together, whichever comes first. -/
theorem leastOf_perm {x y : Nat} {xs ys : List Nat} (perm : List.Perm (x :: xs) (y :: ys)) : leastOf x xs = leastOf y ys :=
  le_antisymm (leastOf_le _ (perm.mem_iff.mpr (leastOf_mem y ys))) (leastOf_le _ (perm.mem_iff.mp (leastOf_mem x xs)))

theorem greatestOf_perm {x y : Nat} {xs ys : List Nat} (perm : List.Perm (x :: xs) (y :: ys)) :
    greatestOf x xs = greatestOf y ys :=
  le_antisymm (le_greatestOf _ (perm.mem_iff.mp (greatestOf_mem x xs)))
    (le_greatestOf _ (perm.mem_iff.mpr (greatestOf_mem y ys)))

/-- A capability is common when every word has it. -/
theorem and_all_iff (capable : Ability → Bool) (own : Ability) (others : List Ability) :
    (capable own && others.all capable) = true ↔ ∀ a ∈ own :: others, capable a = true := by
  simp

/-- The least of a field lies at or below every word's, and is some word's. -/
theorem leastOf_field (field : Ability → Nat) (own : Ability) (others : List Ability) :
    (∀ a ∈ own :: others, leastOf (field own) (others.map field) ≤ field a)
      ∧ ∃ a ∈ own :: others, leastOf (field own) (others.map field) = field a := by
  refine ⟨fun a mem => leastOf_le _ (List.mem_map_of_mem (f := field) mem), ?_⟩
  obtain ⟨a, mem, least⟩ := List.mem_map.mp (show _ ∈ (own :: others).map field from leastOf_mem (field own) (others.map field))
  exact ⟨a, mem, least.symm⟩

/-- Settles O41: each common value is that of the set of words, which no order changes. -/
theorem everyMemberComputesTheSameCommonParameters : Obligations.EveryMemberComputesTheSameCommonParameters := by
  intro own other rest rest' perm
  have least (field : Ability → Nat) : leastOf (field own) (rest.map field) = leastOf (field other) (rest'.map field) :=
    leastOf_perm (perm.map field)
  have capable (cap : Ability → Bool) : (cap own && rest.all cap) = (cap other && rest'.all cap) :=
    Bool.eq_iff_iff.mpr ((and_all_iff cap own rest).trans
      (Iff.trans (forall_congr' fun a => imp_congr_left perm.mem_iff) (and_all_iff cap other rest').symm))
  have same : commonOf own rest = commonOf other rest' := by
    simp only [commonOf, least, greatestOf_perm (perm.map (·.p0)), capable]
  obtain ⟨vtop, vtopHeld⟩ := leastOf_field (·.p16) own rest
  obtain ⟨accel, accelHeld⟩ := leastOf_field (·.accel) own rest
  obtain ⟨decel, decelHeld⟩ := leastOf_field (·.decel) own rest
  obtain ⟨a, mem, greatest⟩ :=
    List.mem_map.mp (show _ ∈ (own :: rest).map (·.p0) from greatestOf_mem own.p0 (rest.map (·.p0)))
  refine ⟨same, fun a mem => ⟨vtop a mem, accel a mem, decel a mem⟩, vtopHeld, accelHeld, decelHeld,
    ⟨a, mem, fun b held => ?_, ?_⟩, and_all_iff _ own rest, and_all_iff _ own rest⟩
  · exact greatest ▸ le_greatestOf _ (List.mem_map_of_mem (f := (·.p0)) held)
  · rw [greatest]; rfl

/-! ### A change of the consist state (R118, R159) -/

/-- Among coupled locomotives the STATUS interval is 200 ms, or 5000 ms parked, and the park timer is stopped. -/
theorem Controller.afterStateChange_coupled {c : Controller} (coupled : c.consist.state ≠ .solo) :
    c.afterStateChange
      = { c with
          air :=
            { c.air with
              statusTimer :=
                c.air.statusTimer.map fun n => min n (if c.command.partMode = .parked then 5000 else 200) }
          command := { c.command with parkTimer := none } } := by
  have interval : c.statusInterval = if c.command.partMode = .parked then 5000 else 200 := by
    simp [Controller.statusInterval, coupled]
  have unmet : c.parkConditions = false := by simp [Controller.parkConditions, coupled]
  rw [Controller.afterStateChange, Controller.cutStatusTimer, interval, Controller.judgePark]
  have unmetToo {f : AirInterface → AirInterface} : (c.onAir f).parkConditions = false := unmet
  rw [unmetToo]
  rfl

/-- What a change to a coupled state touches: STATUS is requested, the lights are judged, ABILITY drops the step. -/
theorem Controller.setConsistState_coupled {state : ConsistState} (coupled : state ≠ .solo) (c : Controller) :
    c.setConsistState state
      = { c with
          air :=
            { c.air with
              statusSlot := c.air.statusSlot.file
              statusTimer :=
                c.air.statusTimer.map fun n => min n (if c.command.partMode = .parked then 5000 else 200) }
          command :=
            { c.command with
              parkTimer := none, commandedStep := if state = .ability then 0 else c.command.commandedStep }
          consist := { c.consist with state := state }
          light := (c.setConsistState state).light } := by
  have changed := Controller.afterStateChange_coupled (c := c.onConsist fun k => { k with state := state }) coupled
  rw [Controller.setConsistState, changed]
  by_cases ability : state = .ability
  · rw [if_pos ability, if_pos ability]; rfl
  · rw [if_neg ability, if_neg ability]; rfl

theorem Controller.LightsFollow.of_eq {before : LightController} {c d : Controller} (h : c.LightsFollow before)
    (light : d.light = c.light) (inputs : d.lightInputs = c.lightInputs) : d.LightsFollow before := by
  have lit (k : Nat) : d.isLit k = c.isLit k := Controller.isLit_congr inputs k
  have outputs : d.settings.outputs = c.settings.outputs := congrArg Prod.fst inputs
  unfold Controller.LightsFollow at h ⊢
  simp only [Controller.outputRecord, lit, light, outputs] at h ⊢
  exact h

theorem Controller.setConsistState_follow (state : ConsistState) (c : Controller) :
    (c.setConsistState state).LightsFollow c.light := by
  have judged := Controller.judgeLights_follow ((c.onConsist fun k => { k with state := state }).afterStateChange.fileStatus)
  unfold Controller.setConsistState
  split
  · exact judged.of_eq rfl rfl
  · exact judged

theorem ConsistUnit.mapOthers_eq {k : ConsistUnit} {m : Membership} (held : k.membership = some m)
    (f : MemberRecord → MemberRecord) :
    k.mapOthers f = { k with membership := some { m with others := m.others.map f } } := by
  rw [ConsistUnit.mapOthers, held]
  rfl

theorem ConsistUnit.others_eq {k : ConsistUnit} {m : Membership} (held : k.membership = some m) : k.others = m.others := by
  rw [ConsistUnit.others, held]
  rfl

/-! ### The JOIN and member timers (R98, R107 to R109) -/

/-- The consist breaks: the member named is LOST and every other one WATCHED. -/
theorem Controller.breakConsist_eq {c : Controller} {m : Membership} (held : c.consist.membership = some m) (address : Nat) :
    c.breakConsist address
      = { c with
          air :=
            { c.air with
              statusSlot := c.air.statusSlot.file
              statusTimer :=
                c.air.statusTimer.map fun n => min n (if c.command.partMode = .parked then 5000 else 200) }
          command := { c.command with parkTimer := none }
          consist :=
            { c.consist with
              state := .broken
              membership :=
                some
                  { m with
                    others :=
                      m.others.map fun r =>
                        if r.address = address then { r with mark := .lost, timer := none }
                        else { r with mark := .watched } }
              renegotiationPending := false }
          light := (c.breakConsist address).light
          latches := { c.latches with linkLost := true } } := by
  have broken := Controller.setConsistState_coupled (state := .broken) nofun
    ((c.onConsist fun k =>
      { k.mapOthers fun o => if o.address = address then o.lose else { o with mark := .watched } with
        renegotiationPending := false }).onLatches fun l => { l with linkLost := true })
  refine broken.trans ?_
  simp only [Controller.breakConsist, Controller.onConsist, Controller.onLatches, ConsistUnit.mapOthers_eq held, reduceCtorEq, if_false]
  rfl

/-- Settles O39: the JOIN timer, and a member timer in FORMED and in BROKEN. -/
theorem consistTimersJoinAndBreak : Obligations.ConsistTimersJoinAndBreak := by
  intro s
  refine ⟨fun state runs => ?_, fun address m o held found runs => ?_⟩
  · have negotiating : s.consist.state.negotiating = true := by rcases state with state | state <;> rw [state] <;> rfl
    exact State.next_update (if_pos ⟨negotiating, runs⟩)
  · have member : s.consist.member address = some o := by rw [ConsistUnit.member, ConsistUnit.others_eq held, found]
    have expires {d : Controller} (expired : s.toController.expireMember address = d) :
        exec (.memberTimerExpiry address) s = .next { toController := d, pending := s.pending } := by
      refine State.next_update ?_
      rw [member]
      exact (if_pos runs).trans expired
    refine ⟨fun formed => ?_, fun broken => expires ?_⟩
    · have breaks : s.toController.expireMember address = s.toController.breakConsist address := by
        rw [Controller.expireMember, formed]
      have shape := s.toController.breakConsist_eq held address
      refine ⟨_, expires (breaks.trans shape), ?_, TxSlot.file_requested _⟩
      rfl
    · rw [Controller.expireMember, broken]
      dsimp only
      rw [Controller.loseMember, Controller.onConsist, ConsistUnit.onMember, ConsistUnit.mapOthers_eq held]
      rfl

/-! ### Pinning the other members (R14, R97) -/

/-- The table holds a pinned entry for this address. -/
def HoldsPinned (table : PeerTable) (address : Nat) : Prop :=
  ∃ (i : Nat) (e : PeerEntry), table[i]? = some (some e) ∧ e.address = address ∧ e.pinned = true

theorem HoldsPinned.peerPinned {table : PeerTable} {address : Nat} (h : HoldsPinned table address) (sound : PeersSound table) :
    peerPinned address table = true := by
  obtain ⟨i, e, at_i, here, pinned⟩ := h
  cases found : findPeer address table with
  | none => exact absurd here (PeersSound.alone_of_missing found i e at_i)
  | some j =>
    have same : i = j := by
      by_contra away
      exact sound.alone_of_found found i e away at_i here
    subst same
    rw [Sys2Proof.Machine.peerPinned, peerEntry, found, Option.bind_some, at_i, Option.join_some]
    exact pinned

/-- An address that is not pinned takes no pinned entry. -/
theorem EntryAt.unpinned {table : PeerTable} {address i : Nat} (entry : EntryAt table address i) {e : PeerEntry}
    (at_i : table[i]? = some (some e)) (foreign : e.address ≠ address) : e.pinned = false := by
  rcases entry with ⟨⟨own, at_own, here⟩, -⟩ | ⟨-, ⟨free, -⟩ | ⟨-, victim, at_victim, unpinned, -⟩⟩
  · rw [at_own] at at_i
    cases at_i
    exact absurd here foreign
  · rw [free] at at_i
    cases at_i
  · rw [at_victim] at at_i
    cases at_i
    exact unpinned

theorem EntryAt.lt_length {table : PeerTable} {address i : Nat} (entry : EntryAt table address i) : i < table.length := by
  rcases entry with ⟨⟨own, at_own, -⟩, -⟩ | ⟨-, ⟨free, -⟩ | ⟨-, victim, at_victim, -⟩⟩
  · exact (List.getElem?_eq_some_iff.mp at_own).1
  · exact (List.getElem?_eq_some_iff.mp free).1
  · exact (List.getElem?_eq_some_iff.mp at_victim).1

theorem entryBefore_address (table : PeerTable) (address i : Nat) : (entryBefore table address i).address = address := by
  unfold entryBefore
  split
  · split
    · assumption
    · rfl
  · rfl

/-- A table in which exactly these addresses have been pinned, no address standing twice. -/
structure PinnedExactly (table : PeerTable) (addresses : List Nat) : Prop where
  sound : PeersSound table
  listed : ∀ e, some e ∈ table → e.pinned = true → e.address ∈ addresses
  held : ∀ a ∈ addresses, HoldsPinned table a

/-- With fewer pinned addresses than entries some entry can be taken. -/
theorem PinnedExactly.exists_entryAt {table : PeerTable} {addresses : List Nat} (h : PinnedExactly table addresses)
    (few : addresses.length < peerTableSize) (address : Nat) : ∃ i, EntryAt table address i := by
  refine Sys2Proof.Machine.exists_entryAt address ?_
  by_contra full
  push Not at full
  have pinned (x : Option PeerEntry) (mem : x ∈ table) : ∃ e, x = some e ∧ e.pinned = true := by
    obtain ⟨e, rfl, notFree⟩ := full x mem
    exact ⟨e, rfl, (Bool.not_eq_false _).mp notFree⟩
  have subset : peerAddresses table ⊆ addresses := by
    intro a mem
    obtain ⟨x, inTable, named⟩ := List.mem_filterMap.mp mem
    obtain ⟨e, rfl, isPinned⟩ := pinned x inTable
    cases named
    exact h.listed e inTable isPinned
  have length : (peerAddresses table).length = table.length := by
    rw [peerAddresses, List.length_filterMap_eq_countP, List.countP_eq_length]
    intro x mem
    obtain ⟨e, rfl, -⟩ := pinned x mem
    rfl
  have fits := (h.sound.distinct.subperm subset).length_le
  rw [length, h.sound.length] at fits
  omega

theorem PinnedExactly.pinPeer {table : PeerTable} {addresses : List Nat} (h : PinnedExactly table addresses)
    (few : addresses.length < peerTableSize) (address : Nat) :
    PinnedExactly (pinPeer address table) (address :: addresses) := by
  obtain ⟨i, entry⟩ := h.exists_entryAt few address
  have own : (entryBefore table address i).address = address := entryBefore_address ..
  refine ⟨h.sound.recordLoco address fun _ => rfl, fun e mem pinned => ?_, fun a mem => ?_⟩
  · rw [pinPeer_of_entryAt entry] at mem
    rcases List.mem_or_eq_of_mem_set mem with before | written
    · exact List.mem_cons_of_mem _ (h.listed e before pinned)
    · cases written
      exact List.mem_cons.mpr (.inl own)
  · rw [pinPeer_of_entryAt entry]
    by_cases same : a = address
    · exact ⟨i, _, List.getElem?_set_self entry.lt_length, own.trans same.symm, rfl⟩
    · obtain ⟨j, e, at_j, here, pinned⟩ := h.held a (List.mem_of_ne_of_mem same mem)
      have away : i ≠ j := by
        rintro rfl
        have foreign : e.address ≠ address := by rw [here]; exact same
        rw [entry.unpinned at_j foreign] at pinned
        exact absurd pinned Bool.false_ne_true
      exact ⟨j, e, by rw [List.getElem?_set_ne away]; exact at_j, here, pinned⟩

/-- Pinning a short list of addresses in a table with none pinned pins each of them. -/
theorem peerPinned_of_pinned {table : PeerTable} (sound : PeersSound table) (unpinned : ∀ e, some e ∈ table → e.pinned = false)
    {addresses : List Nat} (few : addresses.length ≤ peerTableSize) {a : Nat} (mem : a ∈ addresses) :
    peerPinned a (addresses.foldl (fun table a => pinPeer a table) table) = true := by
  have pins (rest : List Nat) : ∀ (table : PeerTable) (done : List Nat), PinnedExactly table done →
      done.length + rest.length ≤ peerTableSize →
      PinnedExactly (rest.foldl (fun table a => pinPeer a table) table) (rest.reverse ++ done) := by
    induction rest with
    | nil => exact fun table done h _ => h
    | cons b rest ih =>
      intro table done h fits
      rw [List.length_cons] at fits
      have next := ih (pinPeer b table) (b :: done) (h.pinPeer (by omega) b) (by rw [List.length_cons]; omega)
      rwa [List.reverse_cons, List.append_assoc, List.singleton_append, List.foldl_cons]
  have start : PinnedExactly table [] :=
    ⟨sound, fun e here pinned => by rw [unpinned e here] at pinned; exact absurd pinned Bool.false_ne_true, nofun⟩
  have finish := pins addresses table [] start (by simpa using few)
  exact (finish.held a (by simpa using mem)).peerPinned finish.sound

/-! ### The return to SOLO (R102, R103, R116) -/

/-- Settles O38: both events dissolve the consist. -/
theorem consistsEndInSolo : Obligations.ConsistsEndInSolo := by
  intro s ended
  have dissolves (rest : List RxFrame) (latches : Latches) (c : Controller)
      (start : c = { s.toController with air := { s.air with rxFifo := rest }, latches := latches }) :
      ended rest latches { toController := c.dissolve, pending := s.pending } := by
    subst start
    obtain ⟨⟨l, shape⟩, judged⟩ := Controller.dissolve_outcome
      { s.toController with air := { s.air with rxFifo := rest }, latches := latches }
    refine ⟨?_, judged⟩
    rw [shape, unpinAll_peers]
    rfl
  refine ⟨fun f rest head => ?_, fun state runs => ?_⟩
  · have taken : exec .uncouple s = .next (s.update fun c => (c.onAir fun a => { a with rxFifo := rest }).dissolve) :=
      congrArg Host.Outcome.next (head.update_dispatch _)
    exact ⟨_, taken, dissolves rest s.latches _ rfl⟩
  · have negotiating : s.consist.state.negotiating = true := by rcases state with state | state <;> rw [state] <;> rfl
    exact ⟨_, State.next_update (if_pos ⟨negotiating, runs⟩), dissolves s.air.rxFifo _ _ rfl⟩

/-! ### COUPLE taken (R97, R98) -/

theorem Controller.pinAll_eq (addresses : List Nat) (c : Controller) :
    c.pinAll addresses
      = { c with
          air := { c.air with peers := addresses.foldl (fun table a => pinPeer a table) c.air.peers } } := by
  induction addresses generalizing c with
  | nil => rfl
  | cons a rest ih => exact ih (c.onPeers (pinPeer a))

/-- Smoke that is off and asked for is taken up again (R154). -/
theorem Controller.smokeUnpark_eq (c : Controller) :
    c.smokeUnpark
      = { c with smoke := if c.smoke.state = .off ∧ c.smokeEnableLevel = true then c.smokeAsked else c.smoke } := by
  unfold Controller.smokeUnpark
  split
  · next asked =>
    obtain ⟨off, -⟩ := asked
    obtain ⟨-, started⟩ := c.startSmoke_asked (.inl off)
    rw [started, if_neg (by rw [off]; decide)]
  · rfl

theorem Controller.triggerAmbient_eq (c : Controller) :
    c.triggerAmbient
      = { c with
          sound := if c.soundOnLevel = true then c.sound.trigger c.sound.ambient .ambient else c.sound } := by
  unfold Controller.triggerAmbient
  split <;> rfl

/-- A part that returns to RUN: STATUS is requested, the ambient program and smoke return, the lights are judged (R39). -/
theorem Controller.unpark_eq (c : Controller) :
    c.unpark
      = { c with
          air := { c.air with statusSlot := c.air.statusSlot.file, statusTimer := (c.setMode .run).air.statusTimer }
          command := { c.command with partMode := .run, parkTimer := (c.setMode .run).command.parkTimer }
          sound := if c.soundOnLevel = true then c.sound.trigger c.sound.ambient .ambient else c.sound
          smoke := if c.smoke.state = .off ∧ c.smokeEnableLevel = true then c.smokeAsked else c.smoke
          light := c.unpark.light } := by
  unfold Controller.unpark
  rw [Controller.triggerAmbient_eq, Controller.smokeUnpark_eq]
  rfl

/-- The consist record of a COUPLE that has been taken (R97, R98). -/
def Membership.negotiating (m : Membership) : ConsistUnit :=
  { state := .ability, membership := some m, common := none, negotiationTimer := some 5000, joinTimer := some 100,
    renegotiationPending := false, consistFault := false, signalLossStop := false }

/-- A COUPLE taken in RUN, with its lights. -/
def Controller.coupledTo (m : Membership) (light : LightController) (c : Controller) : Controller :=
  { c with
    air :=
      { c.air with
        peers := (m.others.map (·.address)).foldl (fun table a => pinPeer a table) c.air.peers
        joinSlot := c.air.joinSlot.file
        statusSlot := c.air.statusSlot.file
        statusTimer := c.air.statusTimer.map fun n => min n (if c.command.partMode = .parked then 5000 else 200) }
    command :=
      { c.command with
        binding := c.command.binding.filter (fun b => b.via = .consist), commandedStep := 0, parkTimer := none }
    consist := m.negotiating
    light := light }

theorem Controller.clearBinding_own (c : Controller) :
    c.clearBinding .own
      = { c with
          command :=
            { c.command with
              commandedStep := 0, binding := c.command.binding.filter (fun b => b.via = .consist) } } := by
  unfold Controller.clearBinding
  cases bound : c.command.binding with
  | none => simp only [Controller.onCommand, bound]; rfl
  | some b => obtain ⟨throttle, via, timer⟩ := b; cases via <;> simp only [Controller.onCommand, bound] <;> rfl

/-- Pinning, unbinding, the new state and the JOIN timer, in the order of the operation (R27, R97, R98). -/
def Controller.joining (m : Membership) (c : Controller) : Controller :=
  (((((c.onConsist fun k =>
      { k with
        membership := some m, common := none, negotiationTimer := some 5000, renegotiationPending := false
        consistFault := false, signalLossStop := false }).pinAll
    (m.others.map (·.address))).clearBinding .own).setConsistState .ability).startJoins)

theorem Controller.joining_eq (m : Membership) (c : Controller) : c.joining m = c.coupledTo m (c.joining m).light := by
  unfold Controller.joining
  rw [Controller.pinAll_eq, Controller.clearBinding_own, Controller.setConsistState_coupled (state := .ability) (by decide)]
  rfl

/-- A PARKED part that takes a COUPLE is woken besides (R39). -/
theorem Controller.takeCouple_coupledTo (consistId : Nat) (members : List (Nat × Orientation)) (c : Controller) :
    ∃ light, c.takeCouple consistId members
      = if c.command.partMode = .parked then
          (c.coupledTo (membershipOf consistId c.settings.ownAddress members) light).unpark
        else c.coupledTo (membershipOf consistId c.settings.ownAddress members) light := by
  have taken : c.takeCouple consistId members
      = if (c.joining (membershipOf consistId c.settings.ownAddress members)).command.partMode = .parked then
          (c.joining (membershipOf consistId c.settings.ownAddress members)).unpark
        else c.joining (membershipOf consistId c.settings.ownAddress members) := rfl
  rw [taken, Controller.joining_eq]
  exact ⟨_, rfl⟩

/-- A coupled part that wakes has no park timer. -/
theorem Controller.setMode_coupled {c : Controller} (coupled : c.consist.state ≠ .solo) (mode : PartMode) :
    (c.setMode mode).command.parkTimer = none := by
  rw [Controller.setMode, Controller.afterStateChange_coupled (by exact coupled)]

theorem Controller.takeCouple_eq (consistId : Nat) (members : List (Nat × Orientation)) {c : Controller}
    (started : c.command.partMode ≠ .start) :
    c.takeCouple consistId members
        = { c.coupledTo (membershipOf consistId c.settings.ownAddress members) (c.takeCouple consistId members).light with
            air :=
              { c.air with
                peers :=
                  ((membershipOf consistId c.settings.ownAddress members).others.map (·.address)).foldl
                    (fun table a => pinPeer a table) c.air.peers
                joinSlot := c.air.joinSlot.file
                statusSlot := (c.takeCouple consistId members).air.statusSlot
                statusTimer := (c.takeCouple consistId members).air.statusTimer }
            command :=
              { c.command with
                binding := c.command.binding.filter (fun b => b.via = .consist)
                commandedStep := 0, parkTimer := none, partMode := .run }
            sound := (c.takeCouple consistId members).sound
            smoke := (c.takeCouple consistId members).smoke }
      ∧ (c.takeCouple consistId members).air.statusSlot.requested = true := by
  obtain ⟨light, taken⟩ := c.takeCouple_coupledTo consistId members
  rw [taken]
  by_cases parked : c.command.partMode = .parked
  · have woken := Controller.setMode_coupled
      (c := c.coupledTo (membershipOf consistId c.settings.ownAddress members) light) nofun .run
    rw [if_pos parked, Controller.unpark_eq, woken]
    exact ⟨rfl, TxSlot.file_requested _⟩
  · have run : c.command.partMode = .run := by
      cases mode : c.command.partMode with
      | start => exact absurd mode started
      | run => rfl
      | parked => exact absurd mode parked
    rw [if_neg parked]
    refine ⟨?_, TxSlot.file_requested _⟩
    rw [Controller.coupledTo, ← run]
    rfl

/-- The other members are those of the list but the own one, in its order (R97). -/
theorem membershipOf_others (consistId own : Nat) (members : List (Nat × Orientation)) :
    (membershipOf consistId own members).others.map (·.address) = (members.map (·.1)).filter (· ≠ own) := by
  simp only [membershipOf, List.map_map, List.filter_map]
  refine congrArg (List.map _) (List.filter_congr fun m _ => ?_)
  simp [bne, decide_not, beq_eq_decide]

/-- The own entry of the list stands at the own position with the own orientation. -/
theorem membershipOf_own (consistId : Nat) {own : Nat} {members : List (Nat × Orientation)} (listed : own ∈ members.map (·.1)) :
    members[(membershipOf consistId own members).position]? = some (own, (membershipOf consistId own members).orientation) := by
  obtain ⟨m, member, rfl⟩ := List.mem_map.mp listed
  have found : members.findIdx (·.1 == m.1) < members.length := List.findIdx_lt_length.mpr ⟨m, member, by simp⟩
  have first : (members[members.findIdx (·.1 == m.1)].1 == m.1) = true := List.findIdx_getElem (w := found)
  simp only [membershipOf, List.getElem?_eq_getElem found, Option.map_some, Option.getD_some, Option.some.injEq]
  exact Prod.ext (beq_iff_eq.mp first) rfl

/-- Settles O35: the membership of the list, the waking, and a table that holds every other member pinned. -/
theorem coupleTakenStartsNegotiation : Obligations.CoupleTakenStartsNegotiation := by
  intro s f rest cls head consist members sound listed solo idle started
  have anew : ¬s.consist.isRepeat (byteAt (payloadOf f.bytes) 0) members = true := by
    rw [ConsistUnit.isRepeat_iff]
    exact fun again => again.1 solo
  obtain ⟨taken, requested⟩ := Controller.takeCouple_eq (byteAt (payloadOf f.bytes) 0) members
    (c := s.toController.onAir fun a => { a with rxFifo := rest }) started
  have exec_taken : exec .couple s = .next { toController := _, pending := s.pending } :=
    (exec_couple_of_headIs head consist).trans (State.next_update
      (Controller.judgeCouple_taken (c := s.toController.onAir _) sound listed anew ⟨solo, idle, started⟩))
  generalize Controller.takeCouple _ _ (s.toController.onAir _) = t at taken requested exec_taken
  have others := membershipOf_others (byteAt (payloadOf f.bytes) 0) s.settings.ownAddress members
  have size : ((membershipOf (byteAt (payloadOf f.bytes) 0) s.settings.ownAddress members).others.map (·.address)).length
      ≤ peerTableSize := by
    have four : members.length ≤ 4 := by
      simp only [listSound, Bool.and_eq_true, decide_eq_true_eq] at sound
      obtain ⟨⟨⟨-, four⟩, -⟩, -⟩ := sound
      exact four
    rw [others]
    refine (List.length_filter_le _ _).trans ?_
    rw [List.length_map]
    exact four.trans (by decide)
  have peers : t.air.peers = _ := congrArg (·.air.peers) taken
  have joinSlot : t.air.joinSlot = _ := congrArg (·.air.joinSlot) taken
  have binding : t.command.binding = _ := congrArg (·.command.binding) taken
  refine ⟨_, membershipOf (byteAt (payloadOf f.bytes) 0) s.settings.ownAddress members, exec_taken, ?_, rfl, rfl,
    membershipOf_own _ listed, rfl, others, fun o mem => ?_, ?_, ?_, requested, peers,
    fun table a i entry => pinPeer_of_entryAt entry, fun air unpinned o mem => ?_⟩
  · rw [peers, joinSlot, binding]
    exact congrArg (State.mk · s.pending) taken
  · obtain ⟨m, -, rfl⟩ := List.mem_map.mp mem
    exact ⟨rfl, rfl, rfl, rfl⟩
  · exact binding
  · exact joinSlot ▸ TxSlot.file_requested _
  · rw [peers]
    exact peerPinned_of_pinned air.peers unpinned size (List.mem_map_of_mem (f := (·.address)) mem)

/-! ### The negotiation (R99 to R101, R105) -/

theorem ConsistUnit.allAbilities_iff {k : ConsistUnit} {m : Membership} (held : k.membership = some m) :
    k.allAbilities = true ↔ ∀ o ∈ m.others, o.ability.isSome = true := by
  rw [ConsistUnit.allAbilities, ConsistUnit.others_eq held, List.all_eq_true]

theorem ConsistUnit.allAcks_iff {k : ConsistUnit} {m : Membership} (held : k.membership = some m) :
    k.allAcks = true ↔ ∀ o ∈ m.others, o.ackHeard = true := by
  rw [ConsistUnit.allAcks, ConsistUnit.others_eq held, List.all_eq_true]

/-- The part as the last ability makes it: ACKNOWLEDGE, with a JOIN filed afresh (R100). -/
def Controller.acknowledging (c : Controller) : Controller :=
  { c with
    air :=
      { c.air with
        joinSlot := c.air.joinSlot.file, statusSlot := c.air.statusSlot.file
        statusTimer := c.air.statusTimer.map fun n => min n (if c.command.partMode = .parked then 5000 else 200) }
    command := { c.command with parkTimer := none }
    consist := { c.consist with state := .acknowledge, joinTimer := some 100 }
    light := (c.setConsistState .acknowledge).light }

theorem Controller.enterAcknowledge_taken {c : Controller}
    (complete : c.consist.state = .ability ∧ c.consist.negotiationTimer.isSome = true ∧ c.consist.allAbilities = true) :
    c.enterAcknowledge = c.acknowledging := by
  rw [Controller.enterAcknowledge, if_pos complete, Controller.setConsistState_coupled (state := .acknowledge) (by decide)]
  rfl

/-- The consist record that the last ack makes (R101, R105). -/
def ConsistUnit.formedOf (own : Ability) (m : Membership) (k : ConsistUnit) : ConsistUnit :=
  { k with
    state := .formed
    membership := some { m with others := m.others.map fun o => { o with timer := some 1000 } }
    common := some (commonOf own (m.others.filterMap (·.ability)))
    negotiationTimer := none
    joinTimer := none }

/-- The last ack: FORMED. -/
theorem Controller.enterFormed_taken {c : Controller} {m : Membership} (held : c.consist.membership = some m)
    (complete : c.consist.state = .acknowledge ∧ c.consist.allAcks = true) :
    c.enterFormed
        = { c with
            air :=
              { c.air with
                statusSlot := c.air.statusSlot.file
                statusTimer :=
                  c.air.statusTimer.map fun n => min n (if c.command.partMode = .parked then 5000 else 200) }
            command := { c.command with parkTimer := none }
            consist := c.consist.formedOf c.settings.ownAbility m
            light := c.enterFormed.light }
      ∧ c.enterFormed.LightsFollow c.light := by
  have record : ({ c.consist.mapOthers fun o => { o with timer := some 1000 } with
      common := some (commonOf c.settings.ownAbility (c.consist.others.filterMap (·.ability)))
      negotiationTimer := none
      joinTimer := none } : ConsistUnit) = { c.consist.formedOf c.settings.ownAbility m with state := c.consist.state } := by
    rw [ConsistUnit.mapOthers_eq held, ConsistUnit.others_eq held]
    rfl
  have formed : c.enterFormed
      = ({ c with consist := { c.consist.formedOf c.settings.ownAbility m with state := c.consist.state } } :
          Controller).setConsistState .formed := by
    rw [Controller.enterFormed, if_pos complete, Controller.onConsist, record]
  rw [formed]
  refine ⟨?_, Controller.setConsistState_follow ..⟩
  rw [Controller.setConsistState_coupled (state := .formed) (by decide)]
  rfl

theorem Controller.enterAcknowledge_stands {c : Controller}
    (incomplete : ¬(c.consist.state = .ability ∧ c.consist.negotiationTimer.isSome = true ∧ c.consist.allAbilities = true)) :
    c.enterAcknowledge = c := if_neg incomplete

theorem Controller.enterFormed_stands {c : Controller}
    (incomplete : ¬(c.consist.state = .acknowledge ∧ c.consist.allAcks = true)) : c.enterFormed = c := if_neg incomplete

/-- A member among the other ones of the list is found by its address. -/
theorem ConsistUnit.member_of_mem {k : ConsistUnit} {m : Membership} {address : Nat} (held : k.membership = some m)
    (mem : address ∈ m.others.map (·.address)) : ∃ o, k.member address = some o ∧ m.others.find? (·.address == address) = some o := by
  obtain ⟨r, inList, named⟩ := List.mem_map.mp mem
  have found : (m.others.find? (·.address == address)).isSome = true :=
    List.find?_isSome.mpr ⟨r, inList, beq_iff_eq.mpr named⟩
  obtain ⟨o, isO⟩ := Option.isSome_iff_exists.mp found
  exact ⟨o, by rw [ConsistUnit.member, ConsistUnit.others_eq held, isO], isO⟩

/-- A JOIN to the own consist address reaches the member notice with the sender recorded (R10). -/
theorem exec_join_own {s : State} {f : RxFrame} {rest : List RxFrame} (head : s.HeadIs f rest .join .ownConsist) :
    exec .join s
      = .next
          { toController :=
              ({ s.toController with
                  air :=
                    { s.air with
                      rxFifo := rest
                      peers :=
                        recordLoco (frameSource f.bytes) (LocoEntry.heardJoin (joinFields (payloadOf f.bytes)))
                          s.air.peers } } : Controller).joinNotice
                (frameSource f.bytes) (joinFields (payloadOf f.bytes))
            pending := s.pending } :=
  (exec_join_of_headIs head).trans (State.next_update rfl)

/-- A member's JOIN while the negotiation runs: its ability is held, its ack once heard stays (R99, R101). -/
theorem Controller.joinNotice_negotiating {c : Controller} {m : Membership} {source : Nat} (held : c.consist.membership = some m)
    (mem : source ∈ m.others.map (·.address)) (negotiating : c.consist.state = .ability ∨ c.consist.state = .acknowledge)
    (j : JoinFields) :
    c.joinNotice source j
      = ({ c with
            consist :=
              { c.consist with
                membership :=
                  some
                    { m with
                      others :=
                        m.others.map fun o =>
                          if o.address = source then { o with ability := some j.ability, ackHeard := o.ackHeard || j.ack }
                          else o } } } : Controller).advanceNegotiation := by
  obtain ⟨o, member, -⟩ := ConsistUnit.member_of_mem held mem
  have heard : c.joinNotice source j = c.hearAbility source j := by
    rcases negotiating with state | state <;> simp only [Controller.joinNotice, member, state]
  rw [heard, Controller.hearAbility, Controller.onConsist, ConsistUnit.onMember, ConsistUnit.mapOthers_eq held]

/-- What the abilities and acks held make of a running negotiation (R99 to R101). -/
theorem Controller.advanceNegotiation_outcome {c : Controller} {m : Membership} (held : c.consist.membership = some m)
    (negotiating : c.consist.state = .ability ∨ c.consist.state = .acknowledge)
    (runs : c.consist.negotiationTimer.isSome = true) :
    let complete := c.consist.state = .acknowledge ∨ ∀ o ∈ m.others, o.ability.isSome = true
    ∃ d : Controller, c.advanceNegotiation = d ∧
      d = { c with
            air :=
              { c.air with
                joinSlot := d.air.joinSlot, statusSlot := d.air.statusSlot, statusTimer := d.air.statusTimer }
            command := { c.command with parkTimer := d.command.parkTimer }
            consist := d.consist
            light := d.light } ∧
      (¬complete → d.consist = c.consist) ∧
      (complete → ¬(∀ o ∈ m.others, o.ackHeard = true) →
        d.consist
          = { c.consist with
              state := .acknowledge
              joinTimer := if c.consist.state = .ability then some 100 else c.consist.joinTimer } ∧
        (c.consist.state = .ability → d.air.joinSlot.requested = true ∧ d.air.statusSlot.requested = true)) ∧
      (complete → (∀ o ∈ m.others, o.ackHeard = true) →
        d.consist = c.consist.formedOf c.settings.ownAbility m ∧ d.air.statusSlot.requested = true) := by
  intro complete
  rw [Controller.advanceNegotiation]
  rcases negotiating with ability | acknowledge
  · have fresh : c.consist.state ≠ .acknowledge := by rw [ability]; decide
    by_cases abilities : ∀ o ∈ m.others, o.ability.isSome = true
    · rw [Controller.enterAcknowledge_taken ⟨ability, runs, (ConsistUnit.allAbilities_iff held).mpr abilities⟩]
      by_cases acks : ∀ o ∈ m.others, o.ackHeard = true
      · obtain ⟨formed, -⟩ := Controller.enterFormed_taken (c := c.acknowledging) held
          ⟨rfl, (ConsistUnit.allAcks_iff held).mpr acks⟩
        exact ⟨_, formed, rfl, (absurd (.inr abilities) ·), fun _ missing => absurd acks missing,
          fun _ _ => ⟨rfl, TxSlot.file_requested _⟩⟩
      · have stands := Controller.enterFormed_stands (c := c.acknowledging) fun ⟨_, all⟩ =>
          acks ((ConsistUnit.allAcks_iff held).mp all)
        refine ⟨_, stands, rfl, (absurd (.inr abilities) ·), fun _ _ => ⟨?_, fun _ => ⟨TxSlot.file_requested _,
          TxSlot.file_requested _⟩⟩, fun _ all => absurd all acks⟩
        rw [if_pos ability]
        rfl
    · have incomplete : ¬complete := fun either => either.elim fresh abilities
      have stands : c.enterAcknowledge = c :=
        Controller.enterAcknowledge_stands fun ⟨_, _, all⟩ => abilities ((ConsistUnit.allAbilities_iff held).mp all)
      rw [stands]
      exact ⟨_, Controller.enterFormed_stands fun ⟨state, _⟩ => fresh state, rfl, fun _ => rfl, (absurd · incomplete),
        (absurd · incomplete)⟩
  · have late : c.consist.state ≠ .ability := by rw [acknowledge]; decide
    rw [Controller.enterAcknowledge_stands fun ⟨state, _⟩ => late state]
    by_cases acks : ∀ o ∈ m.others, o.ackHeard = true
    · obtain ⟨formed, -⟩ := Controller.enterFormed_taken held ⟨acknowledge, (ConsistUnit.allAcks_iff held).mpr acks⟩
      exact ⟨_, formed, rfl, (absurd (.inl acknowledge) ·), fun _ missing => absurd acks missing,
        fun _ _ => ⟨rfl, TxSlot.file_requested _⟩⟩
    · have stands := Controller.enterFormed_stands (c := c) fun ⟨_, all⟩ => acks ((ConsistUnit.allAcks_iff held).mp all)
      refine ⟨_, stands, rfl, fun _ => rfl, fun _ _ => ⟨?_, (absurd · late)⟩, fun _ all => absurd all acks⟩
      rw [if_neg late, ← acknowledge]

/-- Settles O40: the ability is held, then ACKNOWLEDGE and FORMED follow as far as abilities and acks allow. -/
theorem joinsCompleteTheNegotiation : Obligations.JoinsCompleteTheNegotiation := by
  intro s f rest m head negotiating held listed runs heard complete
  have hears := exec_join_own head
  have notice := fun peers => Controller.joinNotice_negotiating
    (c := { s.toController with air := { s.air with rxFifo := rest, peers := peers } }) held listed negotiating
    (joinFields (payloadOf f.bytes))
  rw [notice] at hears
  generalize recordLoco _ _ s.air.peers = peers at hears
  obtain ⟨d, advances, shape, incomplete, acknowledged, formed⟩ := Controller.advanceNegotiation_outcome
    (c := { s.toController with
      air := { s.air with rxFifo := rest, peers := peers }
      consist := { s.consist with membership := some { m with others := heard } } }) rfl negotiating runs
  rw [show Controller.advanceNegotiation _ = d from advances] at hears
  have table : d.air.peers = peers := congrArg (·.air.peers) shape
  refine ⟨_, hears, ?_, incomplete, acknowledged, formed⟩
  rw [table]
  exact congrArg (State.mk · s.pending) shape

end Sys2Proof.Machine
end

section
/-! PROOFS. A member's STATUS and JOIN in every consist state (R99 to R101, R107 to R113). -/

namespace Sys2Proof.Machine

/-! ### What supervision does to the part -/

/-- The part with the consist record `k` in a state that is new: STATUS requested, timers cut, a JOIN filed and the step dropped
for ABILITY, LINK_LOST latched for BROKEN. -/
def Controller.restated (k : ConsistUnit) (light : LightController) (c : Controller) : Controller :=
  { c with
    air :=
      { c.air with
        joinSlot := if k.state = .ability then c.air.joinSlot.file else c.air.joinSlot
        statusSlot := c.air.statusSlot.file
        statusTimer := c.air.statusTimer.map fun n => min n (if c.command.partMode = .parked then 5000 else 200) }
    command :=
      { c.command with
        parkTimer := none, commandedStep := if k.state = .ability then 0 else c.command.commandedStep }
    consist := k
    light := light
    latches := if k.state = .broken then { c.latches with linkLost := true } else c.latches }

/-- `d` is `c` with the consist record `k`, and with what follows a new consist state where `k` is in one. -/
inductive Controller.Supervises (c : Controller) (k : ConsistUnit) : Controller → Prop
  | stands (same : k.state = c.consist.state) (flag : k.consistFault = c.consist.consistFault) : c.Supervises k { c with consist := k }
  | restates (light : LightController) (other : k.state ≠ c.consist.state) (coupled : k.state ≠ .solo)
      (flag : k.consistFault = c.consist.consistFault)
      (breaks : k.state = .broken → c.consist.state = .formed) (rejoins : k.state = .ability → c.consist.state = .broken)
      (follows : (c.restated k light).LightsFollow c.light) : c.Supervises k (c.restated k light)

/-! ### By consist state (R101, R107, R109) -/

section
variable {c : Controller} {m : Membership}

/-- The last ack heard in ACKNOWLEDGE forms the consist. -/
theorem Controller.enterFormed_supervises (held : c.consist.membership = some m) (state : c.consist.state = .acknowledge) :
    c.Supervises
      (if ∀ r ∈ m.others, r.ackHeard = true then c.consist.formedOf c.settings.ownAbility m else c.consist)
      c.enterFormed := by
  by_cases acks : ∀ r ∈ m.others, r.ackHeard = true
  · obtain ⟨formed, follows⟩ := Controller.enterFormed_taken held ⟨state, (ConsistUnit.allAcks_iff held).mpr acks⟩
    rw [if_pos acks]
    have same : c.enterFormed = c.restated (c.consist.formedOf c.settings.ownAbility m) c.enterFormed.light := formed
    rw [same] at follows ⊢
    exact .restates _ (by rw [state]; exact show ConsistState.formed ≠ .acknowledge by decide) nofun rfl nofun nofun follows
  · rw [if_neg acks, Controller.enterFormed_stands fun ⟨_, all⟩ => acks ((ConsistUnit.allAcks_iff held).mp all)]
    exact .stands rfl rfl

/-- A change of one member's record in the same consist state. -/
theorem Controller.onMember_supervises (held : c.consist.membership = some m) (address : Nat)
    (change : MemberRecord → MemberRecord) :
    c.Supervises
      { c.consist with
        membership := some { m with others := m.others.map fun r => if r.address = address then change r else r } }
      (c.onConsist (·.onMember address change)) := by
  rw [Controller.onConsist, ConsistUnit.onMember, ConsistUnit.mapOthers_eq held]
  exact .stands rfl rfl

/-- The consist record that breaks for one member (R108). -/
def ConsistUnit.brokenBy (address : Nat) (m : Membership) (k : ConsistUnit) : ConsistUnit :=
  { k with
    state := .broken
    membership :=
      some
        { m with
          others :=
            m.others.map fun r =>
              if r.address = address then { r with mark := .lost, timer := none } else { r with mark := .watched } }
    renegotiationPending := false }

theorem Controller.breakConsist_supervises (held : c.consist.membership = some m) (formed : c.consist.state = .formed)
    (address : Nat) : c.Supervises (c.consist.brokenBy address m) (c.breakConsist address) := by
  have same : c.breakConsist address = c.restated (c.consist.brokenBy address m) (c.breakConsist address).light :=
    c.breakConsist_eq held address
  have follows : (c.breakConsist address).LightsFollow c.light := Controller.setConsistState_follow ..
  rw [same] at follows ⊢
  exact .restates _ (by rw [formed]; exact show ConsistState.broken ≠ .formed by decide) nofun rfl (fun _ => formed) nofun follows

/-- The record of a renegotiation (R109). -/
def ConsistUnit.renegotiated (m : Membership) (k : ConsistUnit) : ConsistUnit :=
  { k with
    membership :=
      some { m with others := m.others.map fun r => { r with ability := none, ackHeard := false, timer := none } }
    state := .ability, common := none, renegotiationPending := false, negotiationTimer := some 5000
    joinTimer := some 100 }

theorem Controller.renegotiate_eq (held : c.consist.membership = some m) :
    c.renegotiate = c.restated (c.consist.renegotiated m) c.renegotiate.light ∧ c.renegotiate.LightsFollow c.light := by
  have record : ({ c.consist.mapOthers fun o => { o with ability := none, ackHeard := false, timer := none } with
      common := none
      renegotiationPending := false
      negotiationTimer := some 5000 } : ConsistUnit)
      = { c.consist.renegotiated m with state := c.consist.state, joinTimer := c.consist.joinTimer } := by
    rw [ConsistUnit.mapOthers_eq held]
    rfl
  have renegotiates : c.renegotiate
      = (({ c with
            consist := { c.consist.renegotiated m with state := c.consist.state, joinTimer := c.consist.joinTimer } } :
          Controller).setConsistState .ability).startJoins := by
    rw [Controller.renegotiate, Controller.onConsist, record]
  refine ⟨?_, ?_⟩
  · rw [renegotiates, Controller.setConsistState_coupled (state := .ability) (by decide)]
    rfl
  · rw [renegotiates]
    exact (Controller.setConsistState_follow .ability { c with
      consist := { c.consist.renegotiated m with state := c.consist.state, joinTimer := c.consist.joinTimer } }).of_eq rfl rfl

/-- The record once a LOST member is heard again (R109): `m` holds the members with that one REHEARD. -/
def Controller.rehearing (m : Membership) (c : Controller) : ConsistUnit :=
  if c.consist.renegotiationPending = true ∨ ∃ r ∈ m.others, r.mark = .lost then { c.consist with membership := some m }
  else if 0 < c.motion.rampedSpeed then { c.consist with membership := some m, renegotiationPending := true }
  else c.consist.renegotiated m

/-- With no member LOST renegotiation is pending, and takes place at standstill. -/
theorem Controller.judgeLost_supervises (broken : c.consist.state = .broken) (m : Membership) :
    c.Supervises (c.rehearing m) ({ c with consist := { c.consist with membership := some m } } : Controller).judgeLost := by
  have lost : ({ c.consist with membership := some m } : ConsistUnit).others.all (fun o => o.mark != .lost) = true
      ↔ ¬∃ r ∈ m.others, r.mark = .lost := by
    rw [ConsistUnit.others_eq rfl, List.all_eq_true]
    simp
  unfold Controller.judgeLost Controller.rehearing
  by_cases waits : c.consist.renegotiationPending = true ∨ ∃ r ∈ m.others, r.mark = .lost
  · rw [if_pos waits, if_neg]
    · exact .stands rfl rfl
    · rintro ⟨-, fresh, none⟩
      rcases waits with pending | some
      · rw [pending] at fresh
        exact absurd fresh (by decide)
      · exact lost.mp none some
  · rw [if_neg waits]
    obtain ⟨fresh, found⟩ := not_or.mp waits
    have unasked : (!c.consist.renegotiationPending) = true := by simpa using fresh
    have asks : ({ c with consist := { c.consist with membership := some m } } : Controller).judgeLost
        = ({ c with consist := { c.consist with membership := some m, renegotiationPending := true } } :
            Controller).judgeRenegotiation :=
      if_pos ⟨broken, unasked, lost.mpr found⟩
    refine Eq.subst (motive := c.Supervises _) asks.symm ?_
    by_cases moving : 0 < c.motion.rampedSpeed
    · rw [if_pos moving, Controller.judgeRenegotiation, if_neg fun ⟨_, _, still⟩ => moving.ne' still]
      exact .stands rfl rfl
    · rw [if_neg moving, Controller.judgeRenegotiation, if_pos ⟨broken, rfl, Nat.eq_zero_of_not_pos moving⟩]
      obtain ⟨shape, follows⟩ := Controller.renegotiate_eq
        (c := { c with consist := { c.consist with membership := some m, renegotiationPending := true } }) (m := m) rfl
      rw [shape] at follows ⊢
      exact .restates _ (by rw [broken]; exact show ConsistState.ability ≠ .broken by decide) nofun rfl nofun (fun _ => broken) follows

end

/-! ### A STATUS by consist state -/

section
variable {c : Controller} {m : Membership} {o : MemberRecord} {shown : StatusFields}

theorem Controller.showsOwnConsist_iff (held : c.consist.membership = some m) :
    c.showsOwnConsist shown = true ↔ shown.consistId = some m.consistId := by
  have own : c.consist.consistId = some m.consistId := by rw [ConsistUnit.consistId, held]; rfl
  rw [Controller.showsOwnConsist, own, Bool.and_eq_true, beq_iff_eq]
  exact ⟨fun both => both.2, fun shows => ⟨by rw [shows]; rfl, shows⟩⟩

/-- The other members with one record changed. -/
def Membership.onOther (address : Nat) (change : MemberRecord → MemberRecord) (m : Membership) : Membership :=
  { m with others := m.others.map fun r => if r.address = address then change r else r }

/-- A first change of the consist record in the same state is part of the whole change. -/
theorem Controller.Supervises.after {j k : ConsistUnit} {d : Controller} (same : j.state = c.consist.state)
    (flag : j.consistFault = c.consist.consistFault)
    (h : ({ c with consist := j } : Controller).Supervises k d) : c.Supervises k d := by
  cases h with
  | stands again kept => exact .stands (again.trans same) (kept.trans flag)
  | restates light other coupled kept breaks rejoins follows =>
    exact .restates light (same ▸ other) coupled (kept.trans flag) (same ▸ breaks) (same ▸ rejoins) follows

/-- ACKNOWLEDGE takes an ack that shows this consist and FORMED (R101). -/
theorem Controller.statusInAcknowledge_supervises (held : c.consist.membership = some m)
    (state : c.consist.state = .acknowledge) :
    c.Supervises
      (if shown.consistId = some m.consistId ∧ shown.consistState = .formed then
        if ∀ r ∈ (m.onOther o.address fun r => { r with ackHeard := true }).others, r.ackHeard = true then
          c.consist.formedOf c.settings.ownAbility (m.onOther o.address fun r => { r with ackHeard := true })
        else { c.consist with membership := some (m.onOther o.address fun r => { r with ackHeard := true }) }
      else c.consist)
      (c.statusInAcknowledge o shown) := by
  have shows := Controller.showsOwnConsist_iff (shown := shown) held
  unfold Controller.statusInAcknowledge
  by_cases acks : shown.consistId = some m.consistId ∧ shown.consistState = .formed
  · have taken : c.showsOwnConsist shown = true ∧ shown.consistState = .formed := ⟨shows.mpr acks.1, acks.2⟩
    rw [if_pos acks, if_pos taken, Controller.onConsist, ConsistUnit.onMember,
      ConsistUnit.mapOthers_eq held]
    exact .after (j := { c.consist with membership := some (m.onOther o.address fun r => { r with ackHeard := true }) }) rfl rfl
      (Controller.enterFormed_supervises (by exact rfl) (by exact state))
  · rw [if_neg acks, if_neg fun both => acks ⟨shows.mp both.1, both.2⟩]
    exact .stands rfl rfl

/-- FORMED: a STATUS of this consist restarts the timer or leaves it, another one breaks the consist (R107, R108). -/
theorem Controller.statusInFormed_supervises (held : c.consist.membership = some m) (state : c.consist.state = .formed) :
    c.Supervises
      (if shown.consistId = some m.consistId ∧ shown.consistState = .formed then
        { c.consist with membership := some (m.onOther o.address fun r => { r with timer := some 1000 }) }
      else if shown.consistId = some m.consistId ∧ shown.consistState = .acknowledge then c.consist
      else c.consist.brokenBy o.address m)
      (c.statusInFormed o shown) := by
  unfold Controller.statusInFormed
  by_cases shows : shown.consistId = some m.consistId
  · rw [if_pos ((Controller.showsOwnConsist_iff held).mpr shows)]
    cases consistState : shown.consistState with
    | formed =>
      rw [if_pos ⟨shows, rfl⟩]
      exact Controller.onMember_supervises held ..
    | acknowledge =>
      rw [if_neg (fun both => nomatch both.2), if_pos ⟨shows, rfl⟩]
      exact .stands rfl rfl
    | _ =>
      rw [if_neg (fun both => nomatch both.2), if_neg (fun both => nomatch both.2)]
      exact Controller.breakConsist_supervises held state _
  · rw [if_neg (mt (Controller.showsOwnConsist_iff held).mp shows), if_neg fun both => shows both.1,
      if_neg fun both => shows both.1]
    exact Controller.breakConsist_supervises held state _

/-- BROKEN: a WATCHED member by the consist it shows, a LOST one is heard again (R109). -/
theorem Controller.statusInBroken_supervises (held : c.consist.membership = some m) (state : c.consist.state = .broken) :
    c.Supervises
      (match o.mark with
      | .watched =>
        if shown.consistId = some m.consistId then
          { c.consist with membership := some (m.onOther o.address fun r => { r with timer := some 1000 }) }
        else
          { c.consist with
            membership := some (m.onOther o.address fun r => { r with mark := .lost, timer := none })
            renegotiationPending := false }
      | .lost => c.rehearing (m.onOther o.address fun r => { r with mark := .reheard })
      | .reheard => c.consist)
      (c.statusInBroken o shown) := by
  unfold Controller.statusInBroken
  cases o.mark with
  | watched =>
    dsimp only
    by_cases shows : shown.consistId = some m.consistId
    · rw [if_pos ((Controller.showsOwnConsist_iff held).mpr shows), if_pos shows]
      exact Controller.onMember_supervises held ..
    · rw [if_neg (mt (Controller.showsOwnConsist_iff held).mp shows), if_neg shows, Controller.loseMember,
        Controller.onConsist, ConsistUnit.onMember, ConsistUnit.mapOthers_eq held]
      exact .stands rfl rfl
  | lost =>
    dsimp only
    rw [Controller.rehearMember, Controller.onConsist, ConsistUnit.onMember, ConsistUnit.mapOthers_eq held]
    exact Controller.judgeLost_supervises state _
  | reheard => exact .stands rfl rfl

end

/-! ### What a member notice leaves of the part -/

/-- What follows a member notice from `c` to `t`: by whether the consist state changed, an emergency stop took place and a fault
was newly shared. -/
structure Controller.Follows (c t : Controller) (restated stopped faulted : Prop) : Prop where
  filed : restated ∨ stopped ∨ faulted → t.air.statusSlot = c.air.statusSlot.file
  unfiled : ¬(restated ∨ stopped ∨ faulted) → t.air.statusSlot = c.air.statusSlot
  cut : restated ∨ stopped →
    t.air.statusTimer = c.air.statusTimer.map (fun n => min n (if c.command.partMode = .parked then 5000 else 200)) ∧
      t.command.parkTimer = none
  uncut : ¬(restated ∨ stopped) → t.air.statusTimer = c.air.statusTimer ∧ t.command.parkTimer = c.command.parkTimer
  lit : restated → t.LightsFollow c.light
  unlit : ¬restated → t.light = c.light
  rejoins : t.consist.state = .ability → c.consist.state = .broken →
    t.air.joinSlot = c.air.joinSlot.file ∧ t.command.commandedStep = 0
  keeps : t.consist.state ≠ .ability ∨ c.consist.state ≠ .broken →
    t.air.joinSlot = c.air.joinSlot ∧ t.command.commandedStep = c.command.commandedStep
  shape : t = { c with
    air :=
      { c.air with
        joinSlot := t.air.joinSlot, statusSlot := t.air.statusSlot, statusTimer := t.air.statusTimer }
    command := { c.command with parkTimer := t.command.parkTimer, commandedStep := t.command.commandedStep }
    motion := t.motion, consist := t.consist, sound := t.sound, light := t.light, latches := t.latches }

theorem TxSlot.file_file (slot : TxSlot) : slot.file.file = slot.file := if_pos slot.file_requested

section
variable {c d : Controller} {k : ConsistUnit} {restated stopped faulted : Prop}

/-- The consist record of a supervised part, and all that supervision leaves alone. -/
theorem Controller.Supervises.record (h : c.Supervises k d) :
    d.consist = k ∧ d.motion = c.motion ∧ d.sound = c.sound
      ∧ d.latches
        = if c.consist.state = .formed ∧ d.consist.state = .broken then { c.latches with linkLost := true } else c.latches := by
  cases h with
  | stands same flag =>
    refine ⟨rfl, rfl, rfl, (if_neg ?_).symm⟩
    rintro ⟨formed, broken⟩
    rw [show k.state = _ from broken, formed] at same
    cases same
  | restates light other coupled flag breaks rejoins follows =>
    refine ⟨rfl, rfl, rfl, ?_⟩
    by_cases broken : k.state = .broken
    · exact (if_pos broken).trans (if_pos ⟨breaks broken, broken⟩).symm
    · exact (if_neg broken).trans (if_neg fun both => broken both.2).symm

theorem Controller.Supervises.coupled (h : c.Supervises k d) (coupled : c.consist.state ≠ .solo) : k.state ≠ .solo := by
  cases h with
  | stands same flag => rwa [same]
  | restates light other coupled flag breaks rejoins follows => exact coupled

theorem Controller.Supervises.flag (h : c.Supervises k d) : k.consistFault = c.consist.consistFault := by
  cases h with
  | stands same flag => exact flag
  | restates light other coupled flag breaks rejoins follows => exact flag

theorem Controller.Supervises.follows (h : c.Supervises k d) : c.Follows d (d.consist.state ≠ c.consist.state) False False := by
  cases h with
  | stands same flag =>
    have calm : ¬k.state ≠ c.consist.state := not_not_intro same
    exact {
      filed := fun event => absurd event (by simpa using same)
      unfiled := fun _ => rfl
      cut := fun event => absurd event (by simpa using same)
      uncut := fun _ => ⟨rfl, rfl⟩
      lit := fun other => absurd other calm
      unlit := fun _ => rfl
      rejoins := fun ability broken => by
        rw [show k.state = _ from ability, broken] at same
        cases same
      keeps := fun _ => ⟨rfl, rfl⟩
      shape := rfl }
  | restates light other coupled flag breaks rejoins follows =>
    exact {
      filed := fun _ => rfl
      unfiled := fun calm => absurd (.inl other) calm
      cut := fun _ => ⟨rfl, rfl⟩
      uncut := fun calm => absurd (.inl other) calm
      lit := fun _ => follows
      unlit := fun same => absurd other same
      rejoins := fun ability _ => ⟨if_pos ability, if_pos ability⟩
      keeps := fun elsewhere => by
        have working : k.state ≠ .ability := fun ability => elsewhere.elim (absurd ability) (absurd (rejoins ability))
        exact ⟨if_neg working, if_neg working⟩
      shape := rfl }

/-- Without a new consist state nothing follows. -/
theorem Controller.Supervises.calm (h : c.Supervises k d) (same : k.state = c.consist.state) :
    c.Follows d False False False := by
  have follows := h.follows
  obtain ⟨record, -⟩ := h.record
  have unmoved : (k.state ≠ c.consist.state) = False := eq_false (not_not_intro same)
  rwa [record, unmoved] at follows

/-- A fault shown by a member sets the consist-fault flag, newly or again (R112). -/
theorem Controller.shareFault_eq (f : StatusFields) (c : Controller) :
    c.shareFault f
      = { c with
          air :=
            { c.air with
              statusSlot :=
                if (f.stall = true ∨ f.driveFault = true) ∧ c.consist.consistFault = false then c.air.statusSlot.file
                else c.air.statusSlot }
          consist := { c.consist with consistFault := c.consist.consistFault || f.stall || f.driveFault } } := by
  unfold Controller.shareFault
  by_cases fault : f.stall = true ∨ f.driveFault = true
  · have shared : (c.consist.consistFault || f.stall || f.driveFault) = true := by
      rcases fault with flag | flag <;> simp [flag]
    rw [if_pos fault, shared]
    cases before : c.consist.consistFault with
    | true =>
      have stands : ¬((f.stall = true ∨ f.driveFault = true) ∧ true = false) := fun both => nomatch both.2
      rw [if_pos rfl, if_neg stands]
      rfl
    | false =>
      have newly : (f.stall = true ∨ f.driveFault = true) ∧ false = false := ⟨fault, rfl⟩
      rw [if_neg Bool.false_ne_true, if_pos newly]
      rfl
  · have clear : f.stall = false ∧ f.driveFault = false := by simpa using fault
    rw [if_neg fault, if_neg (fun both => fault both.1), clear.1, clear.2, Bool.or_false, Bool.or_false]

/-- A request filed after the notice is filed with it. -/
theorem Controller.Follows.slot_file (h : c.Follows d restated stopped faulted) :
    d.air.statusSlot.file = c.air.statusSlot.file := by
  by_cases event : restated ∨ stopped ∨ faulted
  · rw [h.filed event, TxSlot.file_file]
  · rw [h.unfiled event]

theorem Controller.Follows.shareFault (h : c.Follows d restated False False) (f : StatusFields) :
    c.Follows (d.shareFault f) restated False ((f.stall = true ∨ f.driveFault = true) ∧ d.consist.consistFault = false) := by
  rw [d.shareFault_eq f]
  exact {
    filed := fun event => by
      by_cases newly : (f.stall = true ∨ f.driveFault = true) ∧ d.consist.consistFault = false
      · exact (if_pos newly).trans h.slot_file
      · refine (if_neg newly).trans (h.filed ?_)
        exact event.imp_right (Or.imp_right newly)
    unfiled := fun calm => by
      obtain ⟨same, _, old⟩ : ¬restated ∧ ¬False ∧ _ := by simpa only [not_or] using calm
      refine (if_neg old).trans (h.unfiled ?_)
      rintro (other | none | none)
      · exact same other
      · exact none
      · exact none
    cut := h.cut
    uncut := h.uncut
    lit := fun other => (h.lit other).of_eq rfl rfl
    unlit := h.unlit
    rejoins := h.rejoins
    keeps := h.keeps
    shape := congrArg (fun e : Controller =>
      { e with
        air :=
          { e.air with
            statusSlot :=
              if (f.stall = true ∨ f.driveFault = true) ∧ d.consist.consistFault = false then d.air.statusSlot.file
              else d.air.statusSlot }
        consist :=
          { d.consist with consistFault := d.consist.consistFault || f.stall || f.driveFault } }) h.shape }

end

/-! ### An emergency stop shared by a member (R56, R113) -/

theorem Controller.statusInterval_coupled {c : Controller} (coupled : c.consist.state ≠ .solo) :
    c.statusInterval = if c.command.partMode = .parked then 5000 else 200 := by
  simp [Controller.statusInterval, coupled]

/-- A change of the motion state among coupled locomotives, to a state other than IDLE and with new flags. -/
theorem Controller.setMotionState_coupled {state : MotionState} {c : Controller} (coupled : c.consist.state ≠ .solo)
    (changed : c.motion.state.flags ≠ state.flags) (stirring : state ≠ .idle) :
    c.setMotionState state
      = { c with
          air :=
            { c.air with
              statusSlot := c.air.statusSlot.file
              statusTimer :=
                c.air.statusTimer.map fun n => min n (if c.command.partMode = .parked then 5000 else 200) }
          command := { c.command with parkTimer := none }
          motion := { c.motion with state := state } } := by
  have interval := Controller.statusInterval_coupled (c := c.onMotion fun m => { m with state := state }) coupled
  rw [Controller.setMotionState_flagged changed stirring, interval]
  rfl

/-- An emergency stop of a locomotive in a consist that is not stopped already. -/
theorem Controller.emergencyStop_coupled {c : Controller} (coupled : c.consist.state ≠ .solo)
    (unstopped : c.motion.state.stopped = false) :
    c.emergencyStop
      = { c with
          air :=
            { c.air with
              statusSlot := c.air.statusSlot.file
              statusTimer :=
                c.air.statusTimer.map fun n => min n (if c.command.partMode = .parked then 5000 else 200) }
          command := { c.command with parkTimer := none }
          motion :=
            { c.motion with
              state := .eStopped, ramp := 0, duty := 0, integrator := 0, labour := .coast
              calibration := if c.motion.state.isCalibrating = true then none else c.motion.calibration }
          sound := c.sound.motionTrigger .eStop } := by
  cases state : c.motion.state with
  | idle =>
    have stopped := Controller.setMotionState_coupled (c := c.standStill) (state := .eStopped) coupled
      (by rw [Controller.standStill_motion, state]; decide) (by decide)
    rw [Controller.emergencyStop, state]
    exact congrArg (Controller.raise .eStop) stopped
  | moving =>
    have stopped := Controller.setMotionState_coupled (c := c.standStill) (state := .eStopped) coupled
      (by rw [Controller.standStill_motion, state]; decide) (by decide)
    rw [Controller.emergencyStop, state]
    exact congrArg (Controller.raise .eStop) stopped
  | calibrating phase =>
    have changed : c.motion.state.flags ≠ MotionState.flags .eStopped := by
      rw [state]
      exact show (false, false, false, true) ≠ (true, false, false, false) by decide
    have stopped := Controller.setMotionState_coupled (c := c.onMotion fun m =>
      { m with duty := 0, ramp := 0, integrator := 0, calibration := none, labour := .coast }) (state := .eStopped) coupled
      changed (by decide)
    rw [Controller.emergencyStop, state]
    exact congrArg (Controller.raise .eStop) stopped
  | eStopped => rw [state] at unstopped; cases unstopped
  | faulted cause => rw [state] at unstopped; cases unstopped

section
variable {c d : Controller} {restated faulted : Prop}

/-- An E_STOP flag newly set stops a locomotive that is not stopped (R113). -/
theorem Controller.Follows.shareStop (h : c.Follows d restated False faulted) (coupled : d.consist.state ≠ .solo)
    (f : StatusFields) (previous : Option Bool) :
    c.Follows (d.shareStop f previous) restated
      ((f.eStop = true ∧ previous ≠ some true) ∧ d.motion.state.stopped = false) faulted := by
  by_cases stops : (f.eStop = true ∧ previous ≠ some true) ∧ d.motion.state.stopped = false
  · obtain ⟨newly, unstopped⟩ := stops
    rw [Controller.shareStop, if_pos newly, Controller.emergencyStop_coupled coupled unstopped]
    have mode : d.command.partMode = c.command.partMode := congrArg (·.command.partMode) h.shape
    exact {
      filed := fun _ => h.slot_file
      unfiled := fun calm => absurd (.inr (.inl ⟨newly, unstopped⟩)) calm
      cut := fun _ => by
        refine ⟨?_, rfl⟩
        dsimp only
        rw [mode]
        by_cases other : restated
        · rw [(h.cut (.inl other)).1, Option.map_map]
          refine congrArg (Option.map · c.air.statusTimer) (funext fun n => ?_)
          simp
        · rw [(h.uncut fun event => event.elim other id).1]
      uncut := fun calm => absurd (.inr ⟨newly, unstopped⟩) calm
      lit := fun other => (h.lit other).of_eq rfl rfl
      unlit := h.unlit
      rejoins := h.rejoins
      keeps := h.keeps
      shape := congrArg (fun e : Controller =>
        { e with
          air :=
            { e.air with
              statusSlot := d.air.statusSlot.file
              statusTimer :=
                d.air.statusTimer.map fun n => min n (if d.command.partMode = PartMode.parked then 5000 else 200) }
          command := { e.command with parkTimer := none }
          motion :=
            { d.motion with
              state := .eStopped, ramp := 0, duty := 0, integrator := 0, labour := .coast
              calibration := if d.motion.state.isCalibrating = true then none else d.motion.calibration }
          sound := d.sound.motionTrigger .eStop }) h.shape }
  · have stands : d.shareStop f previous = d := by
      rw [Controller.shareStop]
      split
      · next newly => exact Controller.emergencyStop_stopped ((Bool.not_eq_false _).mp fun unstopped => stops ⟨newly, unstopped⟩)
      · rfl
    rwa [stands, eq_false stops]

/-- The motion and sound records that a shared stop leaves. -/
theorem Controller.shareStop_motion {d : Controller} (coupled : d.consist.state ≠ .solo) (f : StatusFields)
    (previous : Option Bool) :
    ((f.eStop = true ∧ previous ≠ some true) ∧ d.motion.state.stopped = false →
      (d.shareStop f previous).motion
          = { d.motion with
              state := .eStopped, ramp := 0, duty := 0, integrator := 0, labour := .coast
              calibration := if d.motion.state.isCalibrating = true then none else d.motion.calibration } ∧
        (d.shareStop f previous).sound = d.sound.motionTrigger .eStop) ∧
    (¬((f.eStop = true ∧ previous ≠ some true) ∧ d.motion.state.stopped = false) →
      (d.shareStop f previous).motion = d.motion ∧ (d.shareStop f previous).sound = d.sound) := by
  unfold Controller.shareStop
  refine ⟨fun ⟨newly, unstopped⟩ => ?_, fun calm => ?_⟩
  · rw [if_pos newly, Controller.emergencyStop_coupled coupled unstopped]
    exact ⟨rfl, rfl⟩
  · split
    · next newly =>
      rw [Controller.emergencyStop_stopped ((Bool.not_eq_false _).mp fun unstopped => calm ⟨newly, unstopped⟩)]
      exact ⟨rfl, rfl⟩
    · exact ⟨rfl, rfl⟩

theorem Controller.shareStop_record (f : StatusFields) (previous : Option Bool) (d : Controller) :
    (d.shareStop f previous).consist = d.consist ∧ (d.shareStop f previous).latches = d.latches := by
  unfold Controller.shareStop
  split <;> simp

end

/-! ### The notices -/

section
variable {c : Controller} {m : Membership} {o : MemberRecord} {source : Nat}

/-- A STATUS of another member, by way of what supervision makes of the consist record. -/
theorem Controller.statusNotice_outcome (coupled : c.consist.state ≠ .solo) {k : ConsistUnit} (member : c.consist.member source = some o)
    {shown : StatusFields} (supervised : c.Supervises k (c.superviseStatus o shown)) (previous : Option Bool) :
    let fault := shown.stall = true ∨ shown.driveFault = true
    let stops := (shown.eStop = true ∧ previous ≠ some true) ∧ c.motion.state.stopped = false
    ∃ t : Controller, c.statusNotice source shown previous = t ∧
      c.Follows t (t.consist.state ≠ c.consist.state) stops (fault ∧ c.consist.consistFault = false) ∧
      t.consist = { k with consistFault := c.consist.consistFault || shown.stall || shown.driveFault } ∧
      t.latches
        = (if c.consist.state = .formed ∧ t.consist.state = .broken then { c.latches with linkLost := true } else c.latches) ∧
      (stops →
        t.motion
            = { c.motion with
                state := .eStopped, ramp := 0, duty := 0, integrator := 0, labour := .coast
                calibration := if c.motion.state.isCalibrating = true then none else c.motion.calibration } ∧
          t.sound = c.sound.motionTrigger .eStop) ∧
      (¬stops → t.motion = c.motion ∧ t.sound = c.sound) := by
  intro fault stops
  have follows := supervised.follows
  have still := supervised.coupled coupled
  have flag := supervised.flag
  obtain ⟨record, motion, sound, latches⟩ := supervised.record
  have notice : c.statusNotice source shown previous
      = ((c.superviseStatus o shown).shareFault shown).shareStop shown previous := by
    rw [Controller.statusNotice, if_neg coupled, member]
  generalize c.superviseStatus o shown = d at *
  have faultConsist : (d.shareFault shown).consist
      = { k with consistFault := c.consist.consistFault || shown.stall || shown.driveFault } := by
    rw [d.shareFault_eq, record, flag]
  have faultMotion : (d.shareFault shown).motion = c.motion := by rw [d.shareFault_eq, ← motion]
  have faultSound : (d.shareFault shown).sound = c.sound := by rw [d.shareFault_eq, ← sound]
  have faultLatches : (d.shareFault shown).latches = d.latches := by rw [d.shareFault_eq]
  have faultCoupled : (d.shareFault shown).consist.state ≠ .solo := by rw [faultConsist]; exact still
  have shared := (follows.shareFault shown).shareStop faultCoupled shown previous
  obtain ⟨stopped, calm⟩ := Controller.shareStop_motion faultCoupled shown previous
  obtain ⟨consist, kept⟩ := (d.shareFault shown).shareStop_record shown previous
  rw [faultMotion] at shared stopped calm
  rw [faultSound] at stopped calm
  rw [faultConsist] at consist
  rw [record, flag] at shared
  refine ⟨_, notice, ?_, consist, ?_, stopped, calm⟩
  · rw [consist]
    exact shared
  · rw [kept, faultLatches, latches, record, consist]

end

section
variable {c : Controller} {m : Membership} {o : MemberRecord} {source : Nat}

/-- A JOIN of a member in ABILITY while its timer is stopped: held, and nothing follows (R99, R120). -/
theorem Controller.joinNotice_waiting (held : c.consist.membership = some m) (member : c.consist.member source = some o)
    (ability : c.consist.state = .ability) (stopped : c.consist.negotiationTimer = none) (j : JoinFields) :
    c.Supervises
      { c.consist with
        membership :=
          some (m.onOther source fun r => { r with ability := some j.ability, ackHeard := r.ackHeard || j.ack }) }
      (c.joinNotice source j) := by
  have hears : c.joinNotice source j = c.hearAbility source j := by simp only [Controller.joinNotice, member, ability]
  rw [hears, Controller.hearAbility, Controller.onConsist, ConsistUnit.onMember, ConsistUnit.mapOthers_eq held,
    Controller.advanceNegotiation, Controller.enterAcknowledge_stands fun all => by simp [stopped] at all,
    Controller.enterFormed_stands fun all => by simp [ability] at all]
  exact .stands rfl rfl

/-- In FORMED, and in BROKEN of a member that is not LOST, a JOIN changes nothing. -/
theorem Controller.joinNotice_unmoved (member : c.consist.member source = some o)
    (settled : c.consist.state = .formed ∨ (c.consist.state = .broken ∧ o.mark ≠ .lost)) (j : JoinFields) :
    c.Supervises c.consist (c.joinNotice source j) := by
  have stands : c.joinNotice source j = c := by
    rcases settled with formed | ⟨broken, found⟩
    · simp only [Controller.joinNotice, member, formed]
    · simp only [Controller.joinNotice, member, broken, if_neg found]
  rw [stands]
  exact .stands rfl rfl

theorem Controller.joinNotice_lost (held : c.consist.membership = some m) (member : c.consist.member source = some o)
    (broken : c.consist.state = .broken) (lost : o.mark = .lost) (j : JoinFields) :
    c.Supervises (c.rehearing (m.onOther source fun r => { r with mark := .reheard })) (c.joinNotice source j) := by
  have hears : c.joinNotice source j = c.rehearMember source := by
    simp only [Controller.joinNotice, member, broken, lost, if_true]
  rw [hears, Controller.rehearMember, Controller.onConsist, ConsistUnit.onMember, ConsistUnit.mapOthers_eq held]
  exact Controller.judgeLost_supervises broken _

/-- A JOIN of a member outside a running negotiation, by consist state. -/
theorem Controller.joinNotice_outcome (held : c.consist.membership = some m) (member : c.consist.member source = some o)
    (j : JoinFields) :
    ∃ t : Controller, c.joinNotice source j = t ∧
      (c.consist.state = .ability → c.consist.negotiationTimer = none →
        c.Follows t False False False ∧
          t.consist
            = { c.consist with
                membership :=
                  some (m.onOther source fun r => { r with ability := some j.ability, ackHeard := r.ackHeard || j.ack }) }) ∧
      (c.consist.state = .formed ∨ (c.consist.state = .broken ∧ o.mark ≠ .lost) →
        c.Follows t False False False ∧ t.consist = c.consist) ∧
      (c.consist.state = .broken → o.mark = .lost →
        c.Follows t (t.consist.state ≠ c.consist.state) False False ∧
          t.consist = c.rehearing (m.onOther source fun r => { r with mark := .reheard })) ∧
      (c.consist.state = .formed ∨ c.consist.state = .broken ∨
          c.consist.negotiationTimer = none ∧ c.consist.state = .ability →
        t.motion = c.motion ∧ t.sound = c.sound ∧ t.latches = c.latches) := by
  have kept {k : ConsistUnit} (h : c.Supervises k (c.joinNotice source j))
      (unbroken : ¬(c.consist.state = .formed ∧ k.state = .broken)) :
      (c.joinNotice source j).motion = c.motion ∧ (c.joinNotice source j).sound = c.sound ∧
        (c.joinNotice source j).latches = c.latches := by
    obtain ⟨record, motion, sound, latches⟩ := h.record
    exact ⟨motion, sound, latches.trans (if_neg (record ▸ unbroken))⟩
  refine ⟨_, rfl, fun ability stopped => ?_, fun settled => ?_, fun broken lost => ?_, fun elsewhere => ?_⟩
  · have waits := Controller.joinNotice_waiting held member ability stopped j
    exact ⟨waits.calm rfl, waits.record.1⟩
  · have stands := Controller.joinNotice_unmoved member settled j
    exact ⟨stands.calm rfl, stands.record.1⟩
  · have rehears := Controller.joinNotice_lost held member broken lost j
    exact ⟨rehears.follows, rehears.record.1⟩
  · rcases elsewhere with formed | broken | ⟨stopped, ability⟩
    · exact kept (Controller.joinNotice_unmoved member (.inl formed) j) fun both => by
        rw [formed] at both; exact nomatch both.2
    · by_cases lost : o.mark = .lost
      · exact kept (Controller.joinNotice_lost held member broken lost j) fun both => by
          rw [broken] at both; exact nomatch both.1
      · exact kept (Controller.joinNotice_unmoved member (.inr ⟨broken, lost⟩) j) fun both => by
          rw [broken] at both; exact nomatch both.1
    · exact kept (Controller.joinNotice_waiting held member ability stopped j) fun both => by
        rw [ability] at both; exact nomatch both.1

end

/-- Settles O42: a STATUS by what supervision makes of the record in each consist state and what is shared after it, a JOIN by
the consist states in which it is not part of a running negotiation. -/
theorem memberStatusIsSupervisedAndShared : Obligations.MemberStatusIsSupervisedAndShared := by
  intro s f rest m o coupled held found sender holding filed reheard rehearing ruled follows
  have member : s.consist.member (frameSource f.bytes) = some o := by
    rw [ConsistUnit.member, ConsistUnit.others_eq held, found]
  have named : o.address = frameSource f.bytes := by simpa using List.find?_some found
  have whole (peers : PeerTable) (t : Controller) (restated stopped faulted : Prop)
      (h : ({ s.toController with air := { s.air with rxFifo := rest, peers := peers } } : Controller).Follows t restated
        stopped faulted) :
      follows { toController := t, pending := s.pending } restated stopped faulted := by
    have table : t.air.peers = peers := congrArg (·.air.peers) h.shape
    refine ⟨h.filed, h.unfiled, h.cut, h.uncut, h.lit, h.unlit, h.rejoins, h.keeps, ?_⟩
    rw [table]
    exact congrArg (State.mk · s.pending) h.shape
  constructor
  · intro cls head shown fault newlyStopped stops
    have supervised (peers : PeerTable) :
        ({ s.toController with air := { s.air with rxFifo := rest, peers := peers } } : Controller).Supervises (ruled shown)
          (({ s.toController with air := { s.air with rxFifo := rest, peers := peers } } : Controller).superviseStatus o
            shown) := by
      simp only [ruled, Controller.superviseStatus]
      cases state : s.consist.state with
      | solo => exact absurd state coupled
      | ability => exact .stands rfl rfl
      | acknowledge =>
        have acks := Controller.statusInAcknowledge_supervises
          (c := { s.toController with air := { s.air with rxFifo := rest, peers := peers } }) (o := o) (shown := shown) held state
        rw [named] at acks
        exact acks
      | formed =>
        have judged := Controller.statusInFormed_supervises
          (c := { s.toController with air := { s.air with rxFifo := rest, peers := peers } }) (o := o) (shown := shown) held state
        rw [named] at judged
        exact judged
      | broken =>
        have judged := Controller.statusInBroken_supervises
          (c := { s.toController with air := { s.air with rxFifo := rest, peers := peers } }) (o := o) (shown := shown) held state
        rw [named] at judged
        cases mark : o.mark with
        | watched =>
          rw [mark] at judged
          dsimp only at judged ⊢
          rw [← state]
          exact judged
        | lost => rw [mark] at judged; exact judged
        | reheard => rw [mark] at judged; exact judged
    obtain ⟨t, notice, after, consist, latches, stopped, calm⟩ := Controller.statusNotice_outcome
      (c := { s.toController with
        air :=
          { s.air with
            rxFifo := rest
            peers :=
              recordLoco (frameSource f.bytes) (LocoEntry.heardStatus (statusFields (payloadOf f.bytes))) s.air.peers } })
      (source := frameSource f.bytes) coupled member (supervised _) (previousEStop (frameSource f.bytes) s.air.peers)
    exact ⟨_, (exec_status_of_headIs head).trans (State.next_update notice),
      whole _ _ _ _ _ after, consist, latches, stopped, calm⟩
  · intro head j
    have hears := exec_join_own head
    generalize recordLoco _ _ s.air.peers = peers at hears
    obtain ⟨t, notice, waits, stands, rehears, kept⟩ := Controller.joinNotice_outcome
      (c := { s.toController with air := { s.air with rxFifo := rest, peers := peers } }) (source := frameSource f.bytes) held
      member j
    rw [show Controller.joinNotice _ _ _ = t from notice] at hears
    exact ⟨_, hears, fun ability stopped => (waits ability stopped).imp_left (whole _ _ _ _ _),
      fun settled => (stands settled).imp_left (whole _ _ _ _ _),
      fun broken lost => (rehears broken lost).imp_left (whole _ _ _ _ _), kept⟩

end Sys2Proof.Machine
end

section
/-! PROOFS. DRIVE (R22 to R24, R30 to R33, R37, R39, R57, R114): the function edges, the notices, the waking. -/

namespace Sys2Proof.Machine

/-! ### Function edges (R30 to R33) -/

/-- The edges of a frame touch functions, sound, smoke, lights and the STATUS slot only. -/
theorem Controller.EdgesDone.shape {bits mask : BitVec 24} {functions : List Nat} {c d : Controller}
    (h : Controller.EdgesDone bits mask functions c d) :
    d = { c with
          air := { c.air with statusSlot := d.air.statusSlot }
          command := { c.command with functions := d.command.functions }
          sound := d.sound, smoke := d.smoke, light := d.light } := by
  induction h with
  | done c => rfl
  | passed i rest c d same later ih => exact ih
  | edge i rest b c d named differs first later ih =>
    obtain ⟨first, -⟩ := first
    rw [first] at ih
    exact ih

/-- Every function that the mask names takes its bit, and every other one stands. -/
theorem Controller.EdgesDone.functions {bits mask : BitVec 24} {functions : List Nat} {c d : Controller}
    (h : Controller.EdgesDone bits mask functions c d) (j : Nat) (inVector : j < 24) :
    d.command.functions.getLsbD j
      = if j ∈ functions ∧ mask.getLsbD j = true then bits.getLsbD j else c.command.functions.getLsbD j := by
  induction h with
  | done c => rw [if_neg (by simp)]
  | passed i rest c d same later ih =>
    rw [ih]
    by_cases here : j = i
    · subst here
      rcases same with unnamed | agrees
      · simp [unnamed]
      · by_cases again : j ∈ rest ∧ mask.getLsbD j = true <;> by_cases named : mask.getLsbD j = true <;> simp_all
    · simp [here]
  | edge i rest b c d named differs first later ih =>
    obtain ⟨-, flipped, -⟩ := first
    rw [ih, flipped j inVector]
    by_cases here : j = i
    · subst here
      have turned : bits.getLsbD j = !b.command.functions.getLsbD j := Bool.eq_not.mpr differs
      simp [named, turned]
    · simp [here]

theorem Controller.EdgesDone.functions_all {bits mask : BitVec 24} {c d : Controller}
    (h : Controller.EdgesDone bits mask (List.range 24) c d) (j : Nat) (inVector : j < 24) :
    d.command.functions.getLsbD j
      = if mask.getLsbD j = true then bits.getLsbD j else c.command.functions.getLsbD j := by
  rw [h.functions j inVector]
  simp [inVector]

/-- An action level is on while a function with that action is on (R31, R32). -/
theorem anyFunctionOn_iff (map : List FunctionAction) (functions : BitVec 24) (p : FunctionAction → Bool) :
    anyFunctionOn map functions p = true
      ↔ ∃ i < 24, functions.getLsbD i = true ∧ p (map.getD i .none) = true := by
  simp only [anyFunctionOn, List.any_eq_true, List.mem_range, Bool.and_eq_true]

theorem Controller.soundOnLevel_iff (c : Controller) :
    c.soundOnLevel = true
      ↔ .soundOn ∉ c.settings.functionMap
        ∨ ∃ i < 24, c.command.functions.getLsbD i = true ∧ c.settings.functionMap.getD i .none = .soundOn := by
  have mapped : c.settings.functionMap.any (· == .soundOn) = true ↔ .soundOn ∈ c.settings.functionMap := by simp
  unfold Controller.soundOnLevel
  by_cases named : .soundOn ∈ c.settings.functionMap
  · rw [if_pos (mapped.mpr named), anyFunctionOn_iff]
    simp [named]
  · rw [if_neg (mt mapped.mp named)]
    simp [named]

theorem FunctionAction.lightsOutput_iff (k : Nat) (action : FunctionAction) :
    action.lightsOutput k = true ↔ ∃ m, action = .lights m ∧ m.getLsbD k = true := by
  cases action <;> simp [FunctionAction.lightsOutput]

theorem exec_drive_of_headIs {s : State} {f : RxFrame} {rest : List RxFrame} {cls : DestinationClass}
    (head : s.HeadIs f rest .drive cls) :
    exec .drive s = .next (s.update fun c => (c.onAir fun a => { a with rxFifo := rest }).takeDrive (driveFrame f.bytes) cls) :=
  congrArg Host.Outcome.next (head.update_dispatch _)

/-- Settles O29: the function-only path applies the bits outside the consist mask, edge by edge. -/
theorem functionOnlyDrivesWorkTheOwnFunctions : Obligations.FunctionOnlyDrivesWorkTheOwnFunctions := by
  intro s f rest head coupled bits mask took works
  have edges : Controller.EdgesDone bits (~~~mask) (List.range 24) took (took.applyFunctions bits (~~~mask)) :=
    Controller.applyFunctions_edgesDone bits (~~~mask) took
  have taken : exec .drive s
      = .next { toController := took.applyFunctions bits (~~~mask), pending := s.pending } := by
    refine (exec_drive_of_headIs head).trans (State.next_update ?_)
    have path : drivePath s.consist.state .own = some .functionOnly := if_neg coupled
    unfold Controller.takeDrive
    rw [show drivePath (s.toController.onAir _).consist.state .own = _ from path]
    rfl
  have shape := edges.shape
  generalize took.applyFunctions bits (~~~mask) = d at *
  have map : d.settings.functionMap = s.settings.functionMap := congrArg (·.settings.functionMap) shape
  refine ⟨_, taken, edges, congrArg (State.mk · s.pending) shape, fun i inVector => ?_, ?_, ?_, ?_, ?_, fun k => ?_⟩
  · refine (edges.functions_all i inVector).trans ?_
    rw [BitVec.getLsbD_not]
    cases named : mask.getLsbD i with
    | true => simp [inVector]; rfl
    | false => simp [inVector]
  · refine (anyFunctionOn_iff ..).trans ?_
    simp [map, works]
  · refine (anyFunctionOn_iff ..).trans ?_
    simp [map, works]
  · refine (anyFunctionOn_iff ..).trans ?_
    simp [map, works]
  · refine d.soundOnLevel_iff.trans ?_
    rw [map]
  · refine (anyFunctionOn_iff ..).trans ?_
    simp only [map, works, FunctionAction.lightsOutput_iff]

/-! ### The notices of an accepted DRIVE (R37, R57, R114) -/

/-- What the notices of an accepted DRIVE make of the part `c`, with the park timer restarted by a step above 0. -/
structure Controller.Noticed (step : Nat) (c d : Controller) : Prop where
  shape : d = { c with
    air := { c.air with statusSlot := d.air.statusSlot, statusTimer := d.air.statusTimer }
    command := { c.command with parkTimer := d.command.parkTimer }
    motion := d.motion, consist := d.consist }
  state : d.consist.state = c.consist.state
  changed : d.motion.state ≠ c.motion.state →
    d.air.statusSlot = c.air.statusSlot.file ∧
      d.air.statusTimer = c.air.statusTimer.map (min · d.statusInterval) ∧
      d.command.parkTimer
        = (let ran := if d.parkConditions = true then some (c.command.parkTimer.getD 0) else none
          if 0 < step then ran.map fun _ => 0 else ran)
  unchanged : d.motion.state = c.motion.state →
    d.air.statusSlot = c.air.statusSlot ∧ d.air.statusTimer = c.air.statusTimer ∧
      d.command.parkTimer = if 0 < step then c.command.parkTimer.map fun _ => 0 else c.command.parkTimer

/-- A drive notice releases a stop at step 0, aborts a calibration above it, and else does nothing (R57). -/
theorem Controller.driveNotice_eq (step : Nat) (c : Controller) :
    c.driveNotice step
      = if c.motion.state.stopped = true ∧ step = 0 then c.setMotionState .idle
        else if c.motion.state.isCalibrating = true ∧ 0 < step then c.leaveCalibration .idle
        else c := by
  unfold Controller.driveNotice
  cases c.motion.state <;> simp [MotionState.stopped, MotionState.isCalibrating]

theorem MotionState.flags_idle {state : MotionState} (busy : state.stopped = true ∨ state.isCalibrating = true) :
    state.flags ≠ MotionState.flags .idle := by
  cases state with
  | idle => simp [MotionState.stopped, MotionState.isCalibrating] at busy
  | moving => simp [MotionState.stopped, MotionState.isCalibrating] at busy
  | faulted cause => cases cause <;> simp [MotionState.flags]
  | _ => simp [MotionState.flags]

/-- The return to IDLE out of a state whose flags it clears. -/
theorem Controller.setMotionState_idle {c : Controller} (changed : c.motion.state.flags ≠ MotionState.flags .idle) :
    c.setMotionState .idle
      = { c with
          air :=
            { c.air with
              statusSlot := c.air.statusSlot.file
              statusTimer := c.air.statusTimer.map (min · (c.setMotionState .idle).statusInterval) }
          command :=
            { c.command with
              parkTimer := if (c.setMotionState .idle).parkConditions = true then some (c.command.parkTimer.getD 0) else none }
          motion := { c.motion with state := .idle } } := by
  rw [Controller.setMotionState, if_neg changed]
  rfl

/-- The notice of the Consist Unit leaves its state (R114). -/
theorem Controller.consistDriveNotice_eq (step : Nat) (c : Controller) :
    c.consistDriveNotice step = { c with consist := (c.consistDriveNotice step).consist } := by
  unfold Controller.consistDriveNotice
  split <;> rfl

theorem Controller.restartPark_eq (step : Nat) (c : Controller) :
    c.restartPark step
      = { c with
          command :=
            { c.command with
              parkTimer := if 0 < step then c.command.parkTimer.map fun _ => 0 else c.command.parkTimer } } := by
  unfold Controller.restartPark
  split <;> rfl

theorem Controller.statusInterval_congr {c d : Controller} (mode : d.command.partMode = c.command.partMode)
    (consist : d.consist.state = c.consist.state) (motion : d.motion.state = c.motion.state) :
    d.statusInterval = c.statusInterval := by
  simp only [Controller.statusInterval, mode, consist, motion]

theorem Controller.parkConditions_congr {c d : Controller} (mode : d.command.partMode = c.command.partMode)
    (consist : d.consist.state = c.consist.state) (motion : d.motion.state = c.motion.state) (settings : d.settings = c.settings) :
    d.parkConditions = c.parkConditions := by
  simp only [Controller.parkConditions, mode, consist, motion, settings]

/-- No drive notice: only the consist record and a restarted park timer are new. -/
theorem Controller.noticed_unmoved (step : Nat) {c : Controller} {k : ConsistUnit} (state : k.state = c.consist.state) :
    c.Noticed step (({ c with consist := k } : Controller).restartPark step) := by
  rw [Controller.restartPark_eq]
  exact {
    shape := rfl
    state := state
    changed := fun other => absurd rfl other
    unchanged := fun _ => ⟨rfl, rfl, rfl⟩ }

/-- A drive notice that returns the motion record `m` to IDLE. -/
theorem Controller.noticed_idle (step : Nat) {c : Controller} {m : MotionUnit} {k : ConsistUnit}
    (state : k.state = c.consist.state) (same : m.state = c.motion.state)
    (busy : c.motion.state.stopped = true ∨ c.motion.state.isCalibrating = true) :
    c.Noticed step
      (({ (({ c with motion := m } : Controller).setMotionState .idle) with consist := k } : Controller).restartPark step) := by
  have flags := MotionState.flags_idle busy
  have idle := Controller.setMotionState_idle (c := { c with motion := m }) (by exact same ▸ flags)
  have interval {d : Controller} (mode : d.command.partMode = c.command.partMode) (consist : d.consist.state = k.state)
      (motion : d.motion.state = .idle) : (({ c with motion := m } : Controller).setMotionState .idle).statusInterval = d.statusInterval :=
    Controller.statusInterval_congr (by rw [mode, idle]) (by rw [consist, state, idle]) (by rw [motion, idle])
  have conditions {d : Controller} (mode : d.command.partMode = c.command.partMode) (consist : d.consist.state = k.state)
      (motion : d.motion.state = .idle) (settings : d.settings = c.settings) :
      (({ c with motion := m } : Controller).setMotionState .idle).parkConditions = d.parkConditions :=
    Controller.parkConditions_congr (by rw [mode, idle]) (by rw [consist, state, idle]) (by rw [motion, idle])
      (by rw [settings, idle])
  rw [idle, Controller.restartPark_eq]
  exact {
    shape := rfl
    state := state
    changed := fun _ => ⟨rfl, congrArg (fun n => c.air.statusTimer.map (min · n)) (interval rfl rfl rfl), by
      dsimp only
      rw [conditions (d := { c with motion := { m with state := .idle }, consist := k }) rfl rfl rfl rfl]
      rfl⟩
    unchanged := fun stands => by
      have still : c.motion.state = .idle := stands.symm
      rw [still] at busy
      rcases busy with stopped | calibrating
      · cases stopped
      · cases calibrating }

theorem Controller.noticeDrive_eq (step : Nat) (via : BoundVia) (c : Controller) :
    ∃ k : ConsistUnit, k.state = c.consist.state ∧ c.noticeDrive step via = { c.driveNotice step with consist := k } := by
  cases via with
  | own => exact ⟨(c.driveNotice step).consist, by simp, rfl⟩
  | consist =>
    refine ⟨((c.driveNotice step).consistDriveNotice step).consist, ?_, Controller.consistDriveNotice_eq ..⟩
    unfold Controller.consistDriveNotice
    split <;> simp

/-- Every path of the notices is one of the two. -/
theorem Controller.noticeDrive_noticed (step : Nat) (via : BoundVia) (c : Controller) :
    c.Noticed step ((c.noticeDrive step via).restartPark step) := by
  obtain ⟨k, state, notice⟩ := c.noticeDrive_eq step via
  rw [notice, Controller.driveNotice_eq]
  by_cases released : c.motion.state.stopped = true ∧ step = 0
  · rw [if_pos released]
    exact Controller.noticed_idle (m := c.motion) step state rfl (.inl released.1)
  · rw [if_neg released]
    by_cases aborted : c.motion.state.isCalibrating = true ∧ 0 < step
    · rw [if_pos aborted]
      exact Controller.noticed_idle step state rfl (.inr aborted.1)
    · rw [if_neg aborted]
      exact Controller.noticed_unmoved step state

/-! ### An accepted DRIVE, whole (R23, R37, R39) -/

theorem ConsistState.negotiating_iff (state : ConsistState) :
    state.negotiating = true ↔ state = .ability ∨ state = .acknowledge := by
  cases state <;> decide

theorem Controller.recordDrive_eq (d : DriveFrame) (via : BoundVia) (c : Controller) :
    c.recordDrive d via
      = { c with
          command :=
            { c.command with
              binding := some { throttle := d.source, via := via, supervision := c.settings.supervisionTime }
              commandedStep :=
                if c.consist.state = .ability ∨ c.consist.state = .acknowledge then c.command.commandedStep else d.step
              requestedDirection := d.direction } } := by
  have recorded : (if c.consist.state.negotiating then c.command.commandedStep else d.step)
      = if c.consist.state = .ability ∨ c.consist.state = .acknowledge then c.command.commandedStep else d.step :=
    if_congr (ConsistState.negotiating_iff _) rfl rfl
  rw [Controller.recordDrive, Controller.onCommand, recorded]

/-- The part once the function bits of an accepted DRIVE have been applied. -/
def Controller.driven (d : DriveFrame) (via : BoundVia) (c : Controller) : Controller :=
  (c.recordDrive d via).applyFunctions d.functions (c.pathMask (.binding via))

/-- The part once the notices of an accepted DRIVE have been given. -/
def Controller.drivenAndNoticed (d : DriveFrame) (via : BoundVia) (c : Controller) : Controller :=
  ((c.driven d via).noticeDrive d.step via).restartPark d.step

theorem Controller.acceptDrive_eq (d : DriveFrame) (via : BoundVia) (c : Controller) :
    c.acceptDrive d via
      = if c.command.partMode = .parked ∧ wakes c.command (c.drivenAndNoticed d via).command d.step = true then
          (c.drivenAndNoticed d via).unpark
        else c.drivenAndNoticed d via := rfl

theorem Controller.pathMask_binding (c : Controller) (via : BoundVia) :
    c.pathMask (.binding via) = if via = .own then BitVec.allOnes 24 else c.settings.consistMask := by
  cases via <;> rfl

theorem Controller.driven_edges (d : DriveFrame) (via : BoundVia) (c : Controller) :
    Controller.EdgesDone d.functions (if via = .own then BitVec.allOnes 24 else c.settings.consistMask) (List.range 24)
      (c.recordDrive d via) (c.driven d via) := by
  rw [← Controller.pathMask_binding]
  exact Controller.applyFunctions_edgesDone ..

/-- All that an accepted DRIVE leaves before the waking: the part with its edges delivered, timers, motion and consist aside. -/
theorem Controller.drivenAndNoticed_shape (d : DriveFrame) (via : BoundVia) (c : Controller) :
    c.drivenAndNoticed d via
      = { c.recordDrive d via with
          air :=
            { c.air with
              statusSlot := (c.drivenAndNoticed d via).air.statusSlot
              statusTimer := (c.drivenAndNoticed d via).air.statusTimer }
          command :=
            { (c.recordDrive d via).command with
              functions := (c.driven d via).command.functions
              parkTimer := (c.drivenAndNoticed d via).command.parkTimer }
          motion := (c.drivenAndNoticed d via).motion, consist := (c.drivenAndNoticed d via).consist
          sound := (c.driven d via).sound, smoke := (c.driven d via).smoke, light := (c.driven d via).light } := by
  have noticed := (Controller.noticeDrive_noticed d.step via (c.driven d via)).shape
  have driven := (c.driven_edges d via).shape
  refine noticed.trans ?_
  exact congrArg (fun e : Controller =>
    { e with
      air :=
        { e.air with
          statusSlot := (c.drivenAndNoticed d via).air.statusSlot
          statusTimer := (c.drivenAndNoticed d via).air.statusTimer }
      command := { e.command with parkTimer := (c.drivenAndNoticed d via).command.parkTimer }
      motion := (c.drivenAndNoticed d via).motion, consist := (c.drivenAndNoticed d via).consist }) driven

/-- The path of a DRIVE that can bind (R22). -/
theorem Controller.takeDrive_path {c : Controller} {cls : DestinationClass} {via : BoundVia}
    (path : (cls = .own ∧ c.consist.state = .solo ∧ via = .own) ∨ (cls = .ownConsist ∧ c.consist.state ≠ .solo ∧ via = .consist))
    (d : DriveFrame) :
    c.takeDrive d cls = if c.command.accepts d.source via then c.acceptDrive d via else c.countForeignDrive := by
  rcases path with ⟨rfl, solo, rfl⟩ | ⟨rfl, coupled, rfl⟩
  · simp [Controller.takeDrive, drivePath, solo]
  · simp [Controller.takeDrive, drivePath, coupled]

theorem CommandUnit.accepts_iff (u : CommandUnit) (source : Nat) (via : BoundVia) :
    u.accepts source via = true ↔ ∀ b, u.binding = some b → b.throttle = source ∧ b.via = via := by
  unfold CommandUnit.accepts
  cases u.binding with
  | none => simp
  | some b => simp

theorem wakes_iff (before after : CommandUnit) (step : Nat) :
    wakes before after step = true
      ↔ 0 < step ∨ before.binding = none ∨ after.requestedDirection ≠ before.requestedDirection
        ∨ after.functions ≠ before.functions := by
  simp only [wakes, Bool.or_eq_true, decide_eq_true_eq, Option.isNone_iff_eq_none, bne_iff_ne, ne_comm, or_assoc]

/-- The STATUS interval as O27 writes it, for a part in the consist state `state`. -/
theorem Controller.statusInterval_eq {c : Controller} {state : ConsistState} (consist : c.consist.state = state) :
    c.statusInterval
      = if c.command.partMode = .parked then 5000
        else if state ≠ .solo ∨ c.motion.state = .moving ∨ c.motion.state.isCalibrating = true then 200
        else 1000 := by
  rw [Controller.statusInterval, consist]

theorem Controller.statusInterval_le {c : Controller} (awake : c.command.partMode ≠ .parked) : c.statusInterval ≤ 5000 := by
  rw [Controller.statusInterval, if_neg awake]
  split <;> decide

/-- A waking part: the STATUS timer is cut to the interval in force, once (R39, R179). -/
theorem Controller.unpark_timer (c : Controller) :
    c.unpark.air.statusTimer = c.air.statusTimer.map (min · c.unpark.statusInterval) ∧
      c.unpark.command.parkTimer
        = if c.unpark.parkConditions = true then some (c.command.parkTimer.getD 0) else none := by
  have interval : c.unpark.statusInterval = (c.onCommand fun u => { u with partMode := .run }).statusInterval :=
    Controller.statusInterval_congr (by rw [c.unpark_eq]; rfl) (by rw [c.unpark_eq]; rfl) (by rw [c.unpark_eq]; rfl)
  have conditions : c.unpark.parkConditions = (c.onCommand fun u => { u with partMode := .run }).parkConditions :=
    Controller.parkConditions_congr (by rw [c.unpark_eq]; rfl) (by rw [c.unpark_eq]; rfl) (by rw [c.unpark_eq]; rfl)
      (by rw [c.unpark_eq]; rfl)
  rw [interval, conditions, c.unpark_eq]
  exact ⟨rfl, rfl⟩

theorem Controller.unpark_follow (c : Controller) : c.unpark.LightsFollow c.light := by
  have judged := Controller.judgeLights_follow (c.setMode .run).fileStatus.triggerAmbient.smokeUnpark
  have light : (c.setMode .run).fileStatus.triggerAmbient.smokeUnpark.light = c.light := by
    rw [Controller.smokeUnpark_eq, Controller.triggerAmbient_eq]
    rfl
  rw [light] at judged
  exact judged

theorem Controller.parkConditions_iff (c : Controller) :
    c.parkConditions = true
      ↔ c.command.partMode = .run ∧ c.motion.state = .idle ∧ c.consist.state = .solo ∧ c.settings.parkDelay ≠ 0 := by
  simp [Controller.parkConditions, and_assoc]

section
variable {c : Controller} {d : DriveFrame} {via : BoundVia}

/-- The fields that neither the edges nor the notices touch. -/
theorem Controller.drivenAndNoticed_kept :
    (c.drivenAndNoticed d via).settings = c.settings ∧ (c.drivenAndNoticed d via).command.partMode = c.command.partMode ∧
      (c.drivenAndNoticed d via).consist.state = c.consist.state ∧
      (c.driven d via).command.parkTimer = c.command.parkTimer ∧ (c.driven d via).air.statusTimer = c.air.statusTimer ∧
      (c.driven d via).motion = c.motion := by
  have shape := c.drivenAndNoticed_shape d via
  have driven := (c.driven_edges d via).shape
  have noticed := (Controller.noticeDrive_noticed d.step via (c.driven d via)).state
  refine ⟨congrArg (·.settings) shape, congrArg (·.command.partMode) shape, ?_, congrArg (·.command.parkTimer) driven,
    congrArg (·.air.statusTimer) driven, congrArg (·.motion) driven⟩
  exact noticed.trans (congrArg (·.consist.state) driven)

/-- With the park timer stopped, a PARKED part still has it stopped after the notices. -/
theorem Controller.drivenAndNoticed_parkTimer (parked : c.command.partMode = .parked) (stopped : c.command.parkTimer = none) :
    (c.drivenAndNoticed d via).command.parkTimer = none := by
  have noticed := Controller.noticeDrive_noticed d.step via (c.driven d via)
  obtain ⟨-, mode, -, timer, -⟩ := Controller.drivenAndNoticed_kept (c := c) (d := d) (via := via)
  have unmet : (c.drivenAndNoticed d via).parkConditions = false := by
    simp [Controller.parkConditions, mode, parked]
  by_cases same : (c.drivenAndNoticed d via).motion.state = (c.driven d via).motion.state
  · obtain ⟨-, -, kept⟩ := noticed.unchanged same
    refine kept.trans ?_
    rw [timer, stopped]
    simp
  · obtain ⟨-, -, started⟩ := noticed.changed same
    refine started.trans ?_
    rw [show ((Controller.restartPark _ _).parkConditions) = false from unmet]
    simp

end

section
variable {c : Controller} {d : DriveFrame} {via : BoundVia} {step : Nat}

/-- A DRIVE that returns a PARKED part to RUN (R39). -/
def Controller.wokenBy (step : Nat) (d : DriveFrame) (via : BoundVia) (c : Controller) : Prop :=
  c.command.partMode = .parked ∧
    (0 < step ∨ c.command.binding = none ∨ d.direction ≠ c.command.requestedDirection ∨
      (c.driven d via).command.functions ≠ c.command.functions)

theorem Controller.acceptDrive_woken (positive : 0 < d.step ↔ 0 < step) (woken : c.wokenBy step d via) :
    c.acceptDrive d via = (c.drivenAndNoticed d via).unpark := by
  obtain ⟨parked, wakes⟩ := woken
  refine (c.acceptDrive_eq ..).trans (if_pos ⟨parked, (wakes_iff ..).mpr ?_⟩)
  rw [positive, c.drivenAndNoticed_shape, c.recordDrive_eq]
  exact wakes

theorem Controller.acceptDrive_asleep (positive : 0 < d.step ↔ 0 < step) (asleep : ¬c.wokenBy step d via) :
    c.acceptDrive d via = c.drivenAndNoticed d via := by
  refine (c.acceptDrive_eq ..).trans (if_neg fun ⟨parked, wakes⟩ => asleep ⟨parked, ?_⟩)
  rw [wakes_iff, positive, c.drivenAndNoticed_shape, c.recordDrive_eq] at wakes
  exact wakes

/-- The fields that the waking can change. -/
theorem Controller.unpark_shape (c : Controller) :
    c.unpark
      = { c with
          air := { c.air with statusSlot := c.unpark.air.statusSlot, statusTimer := c.unpark.air.statusTimer }
          command := { c.command with partMode := c.unpark.command.partMode, parkTimer := c.unpark.command.parkTimer }
          sound := c.unpark.sound, smoke := c.unpark.smoke, light := c.unpark.light } := by
  rw [c.unpark_eq]

/-- What an accepted DRIVE leaves of the part `c` in any case: `u` is the part with its edges delivered. -/
theorem Controller.acceptDrive_shape (c : Controller) (d : DriveFrame) (via : BoundVia) :
    c.acceptDrive d via
      = { c with
          air :=
            { c.air with
              statusSlot := (c.acceptDrive d via).air.statusSlot, statusTimer := (c.acceptDrive d via).air.statusTimer }
          command :=
            { (c.recordDrive d via).command with
              functions := (c.driven d via).command.functions
              parkTimer := (c.acceptDrive d via).command.parkTimer, partMode := (c.acceptDrive d via).command.partMode }
          motion := (c.drivenAndNoticed d via).motion, consist := (c.drivenAndNoticed d via).consist
          sound := (c.acceptDrive d via).sound, smoke := (c.acceptDrive d via).smoke
          light := (c.acceptDrive d via).light } := by
  have noticed := c.drivenAndNoticed_shape d via
  rw [c.recordDrive_eq] at noticed ⊢
  rw [c.acceptDrive_eq]
  split
  · refine (c.drivenAndNoticed d via).unpark_shape.trans ?_
    generalize (c.drivenAndNoticed d via).unpark = t
    exact (congrArg (fun e : Controller =>
      { e with
        air := { e.air with statusSlot := t.air.statusSlot, statusTimer := t.air.statusTimer }
        command := { e.command with partMode := t.command.partMode, parkTimer := t.command.parkTimer }
        sound := t.sound, smoke := t.smoke, light := t.light }) noticed)
  · generalize c.drivenAndNoticed d via = t at noticed ⊢
    rw [noticed]

end

section
variable {c : Controller} {d : DriveFrame} {via : BoundVia} {step : Nat}

theorem Option.map_min_min (timer : Option Nat) {m n : Nat} (le : n ≤ m) :
    (timer.map (min · m)).map (min · n) = timer.map (min · n) := by
  cases timer with
  | none => rfl
  | some k => exact congrArg some ((Nat.min_assoc ..).trans (congrArg _ (Nat.min_eq_right le)))

/-- A motion state that changes and a waking each request STATUS, and cut its timer to the interval in force (R178, R179). -/
theorem Controller.acceptDrive_filed (positive : 0 < d.step ↔ 0 < step)
    (event : (c.acceptDrive d via).motion.state ≠ c.motion.state ∨ c.wokenBy step d via) :
    (c.acceptDrive d via).air.statusSlot = (c.driven d via).air.statusSlot.file ∧
      (c.acceptDrive d via).air.statusTimer = c.air.statusTimer.map (min · (c.acceptDrive d via).statusInterval) := by
  obtain ⟨-, mode, -, -, timer, motion⟩ := Controller.drivenAndNoticed_kept (c := c) (d := d) (via := via)
  have noticed := Controller.noticeDrive_noticed d.step via (c.driven d via)
  change (c.driven d via).Noticed d.step (c.drivenAndNoticed d via) at noticed
  by_cases woken : c.wokenBy step d via
  · rw [Controller.acceptDrive_woken positive woken]
    obtain ⟨cut, -⟩ := (c.drivenAndNoticed d via).unpark_timer
    have slot : (c.drivenAndNoticed d via).unpark.air.statusSlot = (c.drivenAndNoticed d via).air.statusSlot.file :=
      congrArg (·.air.statusSlot) (c.drivenAndNoticed d via).unpark_eq
    have awake : (c.drivenAndNoticed d via).unpark.command.partMode ≠ .parked := by
      rw [Controller.unpark_eq]
      exact show PartMode.run ≠ .parked by decide
    rw [slot, cut]
    by_cases changed : (c.drivenAndNoticed d via).motion.state = c.motion.state
    · obtain ⟨unfiled, uncut, -⟩ := noticed.unchanged (changed.trans (congrArg (·.state) motion).symm)
      rw [unfiled, uncut, timer]
      exact ⟨rfl, rfl⟩
    · obtain ⟨filed, parkedCut, -⟩ := noticed.changed (fun same => changed (same.trans (congrArg (·.state) motion)))
      have interval : (c.drivenAndNoticed d via).statusInterval = 5000 := if_pos (mode.trans woken.1)
      rw [filed, parkedCut, timer, interval, TxSlot.file_file, Option.map_min_min _ (Controller.statusInterval_le awake)]
      exact ⟨rfl, rfl⟩
  · rw [Controller.acceptDrive_asleep positive woken] at event ⊢
    obtain ⟨filed, cut, -⟩ := noticed.changed
      (fun same => (event.resolve_right woken) (same.trans (congrArg (·.state) motion)))
    rw [filed, cut, timer]
    exact ⟨rfl, rfl⟩

/-- Without a change of the motion state and without a waking neither slot nor timer of STATUS moves. -/
theorem Controller.acceptDrive_unfiled (positive : 0 < d.step ↔ 0 < step)
    (calm : ¬((c.acceptDrive d via).motion.state ≠ c.motion.state ∨ c.wokenBy step d via)) :
    (c.acceptDrive d via).air.statusSlot = (c.driven d via).air.statusSlot ∧
      (c.acceptDrive d via).air.statusTimer = c.air.statusTimer := by
  obtain ⟨same, asleep⟩ := not_or.mp calm
  rw [Controller.acceptDrive_asleep positive asleep] at same ⊢
  obtain ⟨-, -, -, -, timer, motion⟩ := Controller.drivenAndNoticed_kept (c := c) (d := d) (via := via)
  obtain ⟨unfiled, uncut, -⟩ := (Controller.noticeDrive_noticed d.step via (c.driven d via)).unchanged
    ((not_not.mp same).trans (congrArg (·.state) motion).symm)
  exact ⟨unfiled, uncut.trans timer⟩

/-- The park timer outside PARKED: it follows the park conditions, and a step above 0 restarts it (R37, R39). -/
theorem Controller.acceptDrive_parkTimer (positive : 0 < d.step ↔ 0 < step) (awake : c.command.partMode ≠ .parked) :
    (c.acceptDrive d via).command.parkTimer
      = (let ran :=
          if (c.acceptDrive d via).motion.state ≠ c.motion.state then
            (if (c.acceptDrive d via).parkConditions = true then some (c.command.parkTimer.getD 0) else none)
          else c.command.parkTimer
        if 0 < step then ran.map fun _ => 0 else ran) := by
  have noticed := Controller.noticeDrive_noticed d.step via (c.driven d via)
  obtain ⟨-, -, -, park, -, motion⟩ := Controller.drivenAndNoticed_kept (c := c) (d := d) (via := via)
  rw [Controller.acceptDrive_asleep positive (fun woken => awake woken.1), ← park]
  by_cases same : (c.drivenAndNoticed d via).motion.state = c.motion.state
  · obtain ⟨-, -, stands⟩ := noticed.unchanged (same.trans (congrArg (·.state) motion).symm)
    rw [if_neg (not_not.mpr same)]
    exact stands.trans (if_congr positive rfl rfl)
  · obtain ⟨-, -, follows⟩ := noticed.changed (fun kept => same (kept.trans (congrArg (·.state) motion)))
    rw [if_pos same]
    exact follows.trans (if_congr positive rfl rfl)

/-- A PARKED part whose park timer is stopped starts it only as it wakes. -/
theorem Controller.acceptDrive_parkTimer_parked (positive : 0 < d.step ↔ 0 < step) (parked : c.command.partMode = .parked)
    (stopped : c.command.parkTimer = none) :
    (c.acceptDrive d via).command.parkTimer
      = if (c.acceptDrive d via).parkConditions = true then some 0 else none := by
  have still := Controller.drivenAndNoticed_parkTimer (d := d) (via := via) parked stopped
  by_cases woken : c.wokenBy step d via
  · rw [Controller.acceptDrive_woken positive woken]
    obtain ⟨-, timer⟩ := (c.drivenAndNoticed d via).unpark_timer
    rw [timer, still]
    rfl
  · obtain ⟨-, mode, -⟩ := Controller.drivenAndNoticed_kept (c := c) (d := d) (via := via)
    have unmet : (c.drivenAndNoticed d via).parkConditions = false := by
      simp [Controller.parkConditions, mode, parked]
    rw [Controller.acceptDrive_asleep positive woken, still, unmet]
    rfl

/-- Without a waking, mode, sound, smoke and lights stand as the edges left them. -/
theorem Controller.acceptDrive_stays (positive : 0 < d.step ↔ 0 < step) (asleep : ¬c.wokenBy step d via) :
    (c.acceptDrive d via).command.partMode = c.command.partMode ∧
      (c.acceptDrive d via).sound = (c.driven d via).sound ∧ (c.acceptDrive d via).smoke = (c.driven d via).smoke ∧
      (c.acceptDrive d via).light = (c.driven d via).light := by
  have shape := c.drivenAndNoticed_shape d via
  rw [Controller.acceptDrive_asleep positive asleep]
  obtain ⟨-, mode, -⟩ := Controller.drivenAndNoticed_kept (c := c) (d := d) (via := via)
  exact ⟨mode, congrArg (·.sound) shape, congrArg (·.smoke) shape, congrArg (·.light) shape⟩

theorem Controller.drivenAndNoticed_frame (c : Controller) (d : DriveFrame) (via : BoundVia) :
    (c.drivenAndNoticed d via).settings = (c.driven d via).settings ∧
      (c.drivenAndNoticed d via).supply = (c.driven d via).supply ∧
      (c.drivenAndNoticed d via).sound = (c.driven d via).sound ∧
      (c.drivenAndNoticed d via).smoke = (c.driven d via).smoke ∧
      (c.drivenAndNoticed d via).light = (c.driven d via).light := by
  have shape := (Controller.noticeDrive_noticed d.step via (c.driven d via)).shape
  exact ⟨congrArg (·.settings) shape, congrArg (·.supply) shape, congrArg (·.sound) shape, congrArg (·.smoke) shape,
    congrArg (·.light) shape⟩

/-- A waking: RUN, the ambient program and smoke return where they are asked for, and the lights are judged (R39). -/
theorem Controller.acceptDrive_returns (positive : 0 < d.step ↔ 0 < step) (woken : c.wokenBy step d via) :
    (c.acceptDrive d via).command.partMode = .run ∧
      (c.acceptDrive d via).sound
        = (if (c.acceptDrive d via).soundOnLevel = true then
            (c.driven d via).sound.trigger (c.driven d via).sound.ambient .ambient else (c.driven d via).sound) ∧
      (c.acceptDrive d via).smoke
        = (if (c.driven d via).smoke.state = .off ∧ (c.acceptDrive d via).smokeEnableLevel = true then
            (c.driven d via).smokeAsked else (c.driven d via).smoke) ∧
      (c.acceptDrive d via).LightsFollow (c.driven d via).light := by
  obtain ⟨settings, supply, sound, smoke, light⟩ := c.drivenAndNoticed_frame d via
  rw [Controller.acceptDrive_woken positive woken]
  generalize c.drivenAndNoticed d via = n at *
  have eq := n.unpark_eq
  have soundOn : n.unpark.soundOnLevel = n.soundOnLevel := by
    rw [eq]
    rfl
  have smokeEnable : n.unpark.smokeEnableLevel = n.smokeEnableLevel := by
    rw [eq]
    rfl
  have heats : n.smokeAsked = (c.driven d via).smokeAsked := by
    simp only [Controller.smokeAsked, settings, supply, smoke]
  rw [soundOn, smokeEnable, ← heats, ← sound, ← smoke, ← light]
  exact ⟨congrArg (·.command.partMode) eq, congrArg (·.sound) eq, congrArg (·.smoke) eq, n.unpark_follow⟩

end

/-- Settles O27: a DRIVE on its path is recorded, its edges delivered, and wakes a PARKED part; a foreign one is counted. -/
theorem drivesBindAndForeignOnesAreCounted : Obligations.DrivesBindAndForeignOnesAreCounted := by
  intro s f rest cls via head path step bits mask taken took filed
  have delivered := exec_drive_of_headIs head
  refine ⟨fun b bound foreign => ?_, fun own => ?_⟩
  · have refused : ¬s.command.accepts (driveFrame f.bytes).source via = true := fun accepted =>
      let ⟨throttle, onPath⟩ := (CommandUnit.accepts_iff ..).mp accepted b bound
      foreign.elim (· throttle) (· onPath)
    exact delivered.trans (State.next_update ((Controller.takeDrive_path (by exact path) _).trans (if_neg refused)))
  have accepted : s.command.accepts (driveFrame f.bytes).source via = true := (CommandUnit.accepts_iff ..).mpr own
  let c := s.toController.onAir fun a => { a with rxFifo := rest }
  have accepts : exec .drive s = .next { toController := c.acceptDrive (driveFrame f.bytes) via, pending := s.pending } :=
    delivered.trans (State.next_update ((Controller.takeDrive_path (by exact path) _).trans (if_pos accepted)))
  have positive : 0 < (driveFrame f.bytes).step ↔ 0 < step := by
    show 0 < min 96 step ↔ 0 < step
    omega
  have recorded : c.recordDrive (driveFrame f.bytes) via = took := Controller.recordDrive_eq ..
  have edges : Controller.EdgesDone bits mask (List.range 24) took (c.driven (driveFrame f.bytes) via) :=
    recorded ▸ c.driven_edges (driveFrame f.bytes) via
  have shape := c.acceptDrive_shape (driveFrame f.bytes) via
  rw [recorded] at shape
  have asked : (c.acceptDrive (driveFrame f.bytes) via).command.requestedDirection = directionOf (byteAt (payloadOf f.bytes) 1) :=
    congrArg (·.command.requestedDirection) shape
  have works : (c.acceptDrive (driveFrame f.bytes) via).command.functions = (c.driven (driveFrame f.bytes) via).command.functions :=
    congrArg (·.command.functions) shape
  have state : (c.acceptDrive (driveFrame f.bytes) via).consist.state = s.consist.state := by
    obtain ⟨-, -, state, -⟩ := Controller.drivenAndNoticed_kept (c := c) (d := driveFrame f.bytes) (via := via)
    exact (congrArg (·.consist.state) shape).trans state
  have settings : (c.acceptDrive (driveFrame f.bytes) via).settings = s.settings := congrArg (·.settings) shape
  have interval := Controller.statusInterval_eq state
  refine ⟨_, c.driven (driveFrame f.bytes) via, accepts, edges, ?_, works, fun i inVector => ?_, ?_⟩
  · generalize c.acceptDrive (driveFrame f.bytes) via = t at *
    rw [shape]
    rfl
  · exact (congrArg (·.getLsbD i) works).trans (edges.functions_all i inVector)
  intro woken changed starts
  have woken_iff : woken ↔ c.wokenBy step (driveFrame f.bytes) via := by
    simp only [woken, asked, works]
    rfl
  have conditions : (c.acceptDrive (driveFrame f.bytes) via).parkConditions = true
      ↔ (c.acceptDrive (driveFrame f.bytes) via).command.partMode = .run ∧ starts := by
    rw [Controller.parkConditions_iff, state, settings]
  refine ⟨fun wakes => ?_, fun asleep => ?_, fun asleep => ?_, fun wakes => ?_, fun event => ?_, fun calm => ?_, fun awake => ?_,
    fun parked stopped => ?_⟩
  · exact (Controller.acceptDrive_returns positive (woken_iff.mp wakes)).1
  · exact (Controller.acceptDrive_stays positive (mt woken_iff.mpr asleep)).1
  · exact (Controller.acceptDrive_stays positive (mt woken_iff.mpr asleep)).2
  · exact (Controller.acceptDrive_returns positive (woken_iff.mp wakes)).2
  · obtain ⟨slot, timer⟩ := Controller.acceptDrive_filed positive (event.imp_right woken_iff.mp)
    exact ⟨slot, timer.trans (congrArg (fun n => s.air.statusTimer.map (min · n)) interval)⟩
  · exact Controller.acceptDrive_unfiled positive (mt (Or.imp_right woken_iff.mpr) calm)
  · have asleep : ¬c.wokenBy step (driveFrame f.bytes) via := fun wakes => awake wakes.1
    obtain ⟨mode, -⟩ := Controller.acceptDrive_stays positive asleep
    rw [mode] at conditions
    have follows := Controller.acceptDrive_parkTimer (c := c) (via := via) positive awake
    simp only [conditions] at follows
    exact follows
  · have follows := Controller.acceptDrive_parkTimer_parked (c := c) (via := via) positive parked stopped
    simp only [conditions] at follows
    refine follows.trans (if_congr (and_congr_left fun _ => ?_) rfl rfl)
    refine ⟨fun run => by_contra fun asleep => ?_, fun wakes => (Controller.acceptDrive_returns positive (woken_iff.mp wakes)).1⟩
    obtain ⟨mode, -⟩ := Controller.acceptDrive_stays positive (mt woken_iff.mpr asleep)
    exact absurd (run.symm.trans (mode.trans parked)) (by decide)

/-! ### The drive notice (R57, R114) -/

theorem Controller.driveNotice_motion_eq (step : Nat) (c : Controller) :
    (c.driveNotice step).motion
      = if c.motion.state.stopped = true ∧ step = 0 then { c.motion with state := .idle }
        else if c.motion.state.isCalibrating = true ∧ 0 < step then
          { c.motion with state := .idle, duty := 0, ramp := 0, integrator := 0, calibration := none, labour := .coast }
        else c.motion := by
  rw [Controller.driveNotice_eq]
  split
  · exact Controller.setMotionState_motion ..
  · split
    · exact Controller.leaveCalibration_motion ..
    · rfl

theorem MotionState.not_stopped {state : MotionState} (calibrating : state.isCalibrating = true) : ¬state.stopped = true := by
  cases state <;> simp [MotionState.stopped, MotionState.isCalibrating] at calibrating ⊢

/-- Another member is fresh with a fault (R114). -/
def Controller.OtherFaulty (c : Controller) : Prop :=
  ∃ o ∈ c.consist.others, ∃ e fields n, locoEntry o.address c.air.peers = some e ∧ e.status = some fields ∧
    e.statusAge = some n ∧ n < 10 ∧ (fields.stall = true ∨ fields.driveFault = true)

theorem LocoEntry.fresh_iff (e : LocoEntry) : e.fresh = true ↔ ∃ n, e.statusAge = some n ∧ n < 10 := by
  unfold LocoEntry.fresh
  cases e.statusAge <;> simp

theorem Controller.freshStatus_eq_some_iff (c : Controller) (address : Nat) (fields : StatusFields) :
    c.freshStatus address = some fields
      ↔ ∃ e n, locoEntry address c.air.peers = some e ∧ e.status = some fields ∧ e.statusAge = some n ∧ n < 10 := by
  simp only [Controller.freshStatus, Option.bind_eq_some_iff, Option.ite_none_right_eq_some, LocoEntry.fresh_iff]
  constructor
  · rintro ⟨e, entry, ⟨n, age, fresh⟩, status⟩
    exact ⟨e, n, entry, status, age, fresh⟩
  · rintro ⟨e, n, entry, status, age, fresh⟩
    exact ⟨e, entry, ⟨n, age, fresh⟩, status⟩

theorem Controller.otherFaulty_iff (c : Controller) :
    c.OtherFaulty
      ↔ ∃ o ∈ c.consist.others, ∃ f, c.freshStatus o.address = some f ∧ (f.stall = true ∨ f.driveFault = true) := by
  simp only [Controller.freshStatus_eq_some_iff]
  constructor
  · rintro ⟨o, other, e, f, n, entry, status, age, fresh, fault⟩
    exact ⟨o, other, f, ⟨e, n, entry, status, age, fresh⟩, fault⟩
  · rintro ⟨o, other, f, ⟨e, n, entry, status, age, fresh⟩, fault⟩
    exact ⟨o, other, e, f, n, entry, status, age, fresh, fault⟩

/-- A step above 0 leaves the consist record alone. -/
theorem Controller.consistDriveNotice_above {step : Nat} (above : 0 < step) (c : Controller) : c.consistDriveNotice step = c :=
  if_neg (by omega)

/-- Step 0 clears the signal-loss stop, and keeps the consist-fault flag only where another member is fresh with a fault. -/
theorem Controller.consistDriveNotice_zero (c : Controller) :
    ∃ faulty : Bool, (faulty = true ↔ c.OtherFaulty) ∧
      (c.consistDriveNotice 0).consist
        = { c.consist with signalLossStop := false, consistFault := c.consist.consistFault && faulty } := by
  refine ⟨_, ?_, rfl⟩
  rw [List.any_eq_true, Controller.otherFaulty_iff]
  refine exists_congr fun o => and_congr_right fun _ => ?_
  cases c.freshStatus o.address <;> simp

theorem Controller.consistDriveNotice_congr {c e : Controller} (step : Nat) (consist : e.consist = c.consist)
    (peers : e.air.peers = c.air.peers) : (e.consistDriveNotice step).consist = (c.consistDriveNotice step).consist := by
  unfold Controller.consistDriveNotice
  split
  · simp only [Controller.onConsist, Controller.freshStatus, consist, peers]
  · exact consist

theorem Controller.driveNotice_congr {c e : Controller} (step : Nat) (motion : e.motion = c.motion) :
    (e.driveNotice step).motion = (c.driveNotice step).motion := by
  rw [Controller.driveNotice_motion_eq, Controller.driveNotice_motion_eq, motion]

/-- The motion record of an accepted DRIVE is that of its drive notice; via CONSIST the Consist Unit takes the notice too. -/
theorem Controller.acceptDrive_noticed (c : Controller) (d : DriveFrame) (via : BoundVia) :
    (c.acceptDrive d via).motion = (c.driveNotice d.step).motion ∧
      (c.acceptDrive d via).consist
        = match via with
          | .own => c.consist
          | .consist => (c.consistDriveNotice d.step).consist := by
  have shape := c.acceptDrive_shape d via
  have driven := (c.driven_edges d via).shape
  rw [c.recordDrive_eq] at driven
  have motion : (c.driven d via).motion = c.motion := congrArg (·.motion) driven
  have consist : (c.driven d via).consist = c.consist := congrArg (·.consist) driven
  have peers : (c.driven d via).air.peers = c.air.peers := congrArg (·.air.peers) driven
  rw [congrArg (·.motion) shape, congrArg (·.consist) shape]
  show (Controller.restartPark ..).motion = _ ∧ (Controller.restartPark ..).consist = _
  rw [Controller.restartPark_eq]
  cases via with
  | own => exact ⟨Controller.driveNotice_congr _ motion, (Controller.driveNotice_frame ..).2.2.1.trans consist⟩
  | consist =>
    refine ⟨?_, Controller.consistDriveNotice_congr _ ?_ ?_⟩
    · show (Controller.consistDriveNotice ..).motion = _
      rw [Controller.consistDriveNotice_eq]
      exact Controller.driveNotice_congr _ motion
    · exact (Controller.driveNotice_frame ..).2.2.1.trans consist
    · simpa using peers

/-- Settles O28: step 0 releases stops, a step above 0 aborts a calibration; via CONSIST step 0 clears the consist stops. -/
theorem driveNoticesClearStopsAtStepZero : Obligations.DriveNoticesClearStopsAtStepZero := by
  intro s f rest cls via head path own
  have accepted : s.command.accepts (driveFrame f.bytes).source via = true := (CommandUnit.accepts_iff ..).mpr own
  have positive : 0 < (driveFrame f.bytes).step ↔ 0 < byteAt (payloadOf f.bytes) 0 := by
    show 0 < min 96 _ ↔ 0 < _
    omega
  have zero : (driveFrame f.bytes).step = 0 ↔ byteAt (payloadOf f.bytes) 0 = 0 := by omega
  let c := s.toController.onAir fun a => { a with rxFifo := rest }
  obtain ⟨motion, consist⟩ := c.acceptDrive_noticed (driveFrame f.bytes) via
  simp only [Controller.driveNotice_motion_eq, zero, positive] at motion
  refine ⟨_, (exec_drive_of_headIs head).trans
      (State.next_update ((Controller.takeDrive_path (by exact path) _).trans (if_pos accepted))),
    fun stopped still => motion.trans (if_pos ⟨stopped, still⟩), fun stopped above => ?_, fun calibrating still => ?_,
    fun calibrating above => ?_, fun free => ?_, fun unnoticed => ?_, fun coupled still => ?_⟩
  · have moved : ¬s.motion.state.isCalibrating = true := fun calibrating => MotionState.not_stopped calibrating stopped
    exact motion.trans ((if_neg fun both => above.ne' both.2).trans (if_neg fun both => moved both.1))
  · exact motion.trans ((if_neg fun both => MotionState.not_stopped calibrating both.1).trans (if_neg fun both => both.2.ne' still))
  · exact motion.trans ((if_neg fun both => above.ne' both.2).trans (if_pos ⟨calibrating, above⟩))
  · have unstopped : ¬s.motion.state.stopped = true := by rcases free with h | h <;> rw [h] <;> decide
    have uncalibrated : ¬s.motion.state.isCalibrating = true := by rcases free with h | h <;> rw [h] <;> decide
    exact motion.trans ((if_neg fun both => unstopped both.1).trans (if_neg fun both => uncalibrated both.1))
  · refine consist.trans ?_
    rcases unnoticed with rfl | above
    · rfl
    · cases via with
      | own => rfl
      | consist =>
        rw [Controller.consistDriveNotice_above (positive.mpr above)]
        rfl
  · subst coupled
    rw [zero.mpr still] at consist
    obtain ⟨faulty, judged, notice⟩ := c.consistDriveNotice_zero
    have cleared := consist.trans notice
    refine ⟨fun other => ?_, fun none => ?_⟩
    · rw [judged.mpr other, Bool.and_true] at cleared
      exact cleared
    · rw [Bool.eq_false_iff.mpr (mt judged.mp none), Bool.and_false] at cleared
      exact cleared

end Sys2Proof.Machine
end

section
/-! PROOFS. The frames the part composes: header, CRC-16, payload layouts (R2, R3, R18, R178, R182, R183, section 11.4). -/

namespace Sys2Proof.Machine

/-! ### Bytes and words -/

@[simp] theorem byteOf_toNat (n : Nat) : (byteOf n).toNat = n % 256 := BitVec.toNat_ofNat n 8

@[simp] theorem byteAt_cons_zero (b : Byte) (bs : List Byte) : byteAt (b :: bs) 0 = b.toNat := rfl
@[simp] theorem byteAt_cons_succ (b : Byte) (bs : List Byte) (i : Nat) : byteAt (b :: bs) (i + 1) = byteAt bs i := rfl

theorem byteAt_append_left {bs : List Byte} {i : Nat} (inside : i < bs.length) (cs : List Byte) :
    byteAt (bs ++ cs) i = byteAt bs i := by
  rw [byteAt, byteAt, List.getD_append _ _ _ _ inside]

theorem byteAt_append_right (bs cs : List Byte) (i : Nat) : byteAt (bs ++ cs) (bs.length + i) = byteAt cs i := by
  rw [byteAt, byteAt, List.getD_append_right _ _ _ _ (Nat.le_add_right ..), Nat.add_sub_cancel_left]

/-- A field of two bytes carries sixteen bits. -/
theorem word_of_bytes (n : Nat) : n / 256 % 256 * 256 + n % 256 = n % 65536 := by omega

theorem wordBytes_eq (n : Nat) : wordBytes n = [byteOf (n / 256), byteOf n] := rfl

/-! ### Flag words -/

theorem boolCode_le (b : Bool) : boolCode b ≤ 1 := by cases b <;> decide

/-- Bit `k` of a flag word is its flag `k`. -/
theorem flagWord_testBit (flags : List Bool) (k : Nat) : (flagWord flags).testBit k = flags.getD k false := by
  induction flags generalizing k with
  | nil => simp [flagWord]
  | cons b rest ih =>
    cases k with
    | zero => cases b <;> simp [flagWord, boolCode, Nat.testBit_zero, Nat.add_mod]
    | succ k =>
      have half : (boolCode b + 2 * flagWord rest) / 2 = flagWord rest := by
        have := boolCode_le b
        omega
      rw [flagWord, Nat.testBit_succ, half, ih]
      rfl

theorem flagWord_lt (flags : List Bool) : flagWord flags < 2 ^ flags.length := by
  induction flags with
  | nil => decide
  | cons b rest ih =>
    have := boolCode_le b
    rw [flagWord, List.length_cons, Nat.pow_succ]
    omega

/-! ### The CRC-16 (R2) -/

theorem crcShift_lt (register : Nat) : crcShift register < 65536 := by
  unfold crcShift
  split <;> omega

theorem crc16_lt (bs : List Byte) : crc16 bs < 65536 := by
  have keeps (register : Nat) (bounded : register < 65536) : bs.foldl crcByte register < 65536 := by
    induction bs generalizing register with
    | nil => exact bounded
    | cons b rest ih => exact ih _ (crcShift_lt _)
  exact keeps _ (by decide)

/-! ### A composed frame (R2, section 11.4) -/

section
variable (kind destination source : Nat) (payload : List Byte)

/-- The six header bytes. -/
def frameHeader (kind destination source length : Nat) : List Byte :=
  [byteOf kind, byteOf (destination / 256), byteOf destination, byteOf (source / 256), byteOf source, byteOf length]

theorem composeFrame_eq :
    composeFrame kind destination source payload
      = frameHeader kind destination source payload.length ++ payload
        ++ wordBytes (crc16 (frameHeader kind destination source payload.length ++ payload)) := rfl

theorem composeFrame_length : (composeFrame kind destination source payload).length = payload.length + 8 := by
  simp only [composeFrame_eq, List.length_append, frameHeader, wordBytes, List.length_cons, List.length_nil]
  omega

theorem composeFrame_kind : byteAt (composeFrame kind destination source payload) 0 = kind % 256 := byteOf_toNat kind

theorem frameDestination_composeFrame : frameDestination (composeFrame kind destination source payload) = destination % 65536 :=
  (congrArg₂ (· * 256 + ·) (byteOf_toNat _) (byteOf_toNat _)).trans (word_of_bytes _)

theorem frameSource_composeFrame : frameSource (composeFrame kind destination source payload) = source % 65536 :=
  (congrArg₂ (· * 256 + ·) (byteOf_toNat _) (byteOf_toNat _)).trans (word_of_bytes _)

variable {payload}

theorem payloadLength_composeFrame (fits : payload.length ≤ 24) :
    payloadLength (composeFrame kind destination source payload) = payload.length :=
  (byteOf_toNat _).trans (Nat.mod_eq_of_lt (by omega))

theorem payloadOf_composeFrame (fits : payload.length ≤ 24) : payloadOf (composeFrame kind destination source payload) = payload := by
  rw [payloadOf, payloadLength_composeFrame _ _ _ fits]
  show (payload ++ _).take payload.length = payload
  exact List.take_left

/-- A frame with a payload of at most 24 bytes passes the frame check (R2). -/
theorem frameCheck_composeFrame (fits : payload.length ≤ 24) : frameCheck (composeFrame kind destination source payload) = true := by
  have length := composeFrame_length kind destination source payload
  let body := frameHeader kind destination source payload.length ++ payload
  have bodyLength : body.length = payload.length + 6 := by simp [body, frameHeader]
  have covered : (composeFrame kind destination source payload).take ((composeFrame kind destination source payload).length - 2) = body := by
    rw [length, show payload.length + 8 - 2 = body.length by omega]
    exact List.take_left
  have check : wordAt (composeFrame kind destination source payload) ((composeFrame kind destination source payload).length - 2)
      = crc16 body := by
    have bounded := crc16_lt body
    rw [length, show payload.length + 8 - 2 = body.length by omega, composeFrame_eq, wordAt]
    rw [show byteAt (body ++ wordBytes (crc16 body)) body.length = _ from byteAt_append_right body _ 0, byteAt_append_right]
    simp only [wordBytes_eq, byteAt_cons_zero, byteAt_cons_succ, byteOf_toNat]
    exact (word_of_bytes (crc16 body)).trans (Nat.mod_eq_of_lt bounded)
  simp only [frameCheck, Bool.and_eq_true, decide_eq_true_eq, beq_iff_eq]
  rw [payloadLength_composeFrame _ _ _ fits, covered, check, length]
  omega

end

/-! ### The payloads (R98, R178, R182) -/

theorem Controller.consistBytes_length (c : Controller) : c.consistBytes.length = 5 := by
  unfold Controller.consistBytes
  split <;> rfl

/-- The sixteen bytes of a STATUS after its consist bytes. -/
def Controller.statusTail (c : Controller) : List Byte :=
  [byteOf c.consist.state.code, byteOf (c.statusFlagWord / 256), byteOf c.statusFlagWord, byteOf c.motion.travel.code,
    byteOf (c.motion.measuredSpeed / 256), byteOf c.motion.measuredSpeed, byteOf (c.motion.rampedSpeed / 256),
    byteOf c.motion.rampedSpeed, byteOf c.motion.load, byteOf c.supply.shedLevel, byteOf (c.markerCap.getD 4095 / 256),
    byteOf (c.markerCap.getD 4095), byteOf (c.motion.block.blockId.getD 1023 / 256), byteOf (c.motion.block.blockId.getD 1023),
    byteOf c.motion.block.effectiveAspect.code, byteOf c.supply.resetCause.code]

theorem Controller.statusPayload_eq (c : Controller) : c.statusPayload = c.consistBytes ++ c.statusTail := by
  simp only [Controller.statusPayload, List.append_assoc]
  rfl

theorem Controller.statusPayload_length (c : Controller) : c.statusPayload.length = 21 := by
  rw [Controller.statusPayload_eq, List.length_append, Controller.consistBytes_length]
  rfl

theorem Controller.byteAt_status (c : Controller) (k : Nat) : byteAt c.statusPayload (5 + k) = byteAt c.statusTail k := by
  have placed := byteAt_append_right c.consistBytes c.statusTail k
  rwa [Controller.consistBytes_length, ← Controller.statusPayload_eq] at placed

theorem Controller.byteAt_status_consist (c : Controller) {k : Nat} (inside : k < 5) :
    byteAt c.statusPayload k = byteAt c.consistBytes k := by
  rw [Controller.statusPayload_eq]
  exact byteAt_append_left (inside.trans_eq c.consistBytes_length.symm) _

theorem Controller.joinPayload_length (c : Controller) : c.joinPayload.length = 10 := rfl

theorem Controller.diagPayload_length (c : Controller) : c.diagPayload.length = 18 := by simp [Controller.diagPayload, Counters.toList, wordBytes]

theorem ConsistState.code_le (state : ConsistState) : state.code ≤ 4 := by cases state <;> decide
theorem Direction.code_le (direction : Direction) : direction.code ≤ 1 := by cases direction <;> decide
theorem Orientation.code_le (orientation : Orientation) : orientation.code ≤ 1 := by cases orientation <;> decide
theorem Role.code_le (role : Role) : role.code ≤ 2 := by cases role <;> decide
theorem Aspect.code_le (aspect : Aspect) : aspect.code ≤ 4 := by cases aspect <;> decide
theorem ResetCause.code_le (cause : ResetCause) : cause.code ≤ 2 := by cases cause <;> decide
theorem SupplyState.code_le (state : SupplyState) : state.code ≤ 3 := by cases state <;> decide

/-- A code below 256 is carried by one byte. -/
theorem byteOf_code {n bound : Nat} (le : n ≤ bound) (fits : bound < 256 := by decide) : (byteOf n).toNat = n :=
  (byteOf_toNat n).trans (Nat.mod_eq_of_lt (le.trans_lt fits))

theorem structurallySound_composeFrame {kind : FrameKind} {code destination source : Nat} {payload : List Byte}
    (coded : FrameKind.ofCode (code % 256) = some kind) (other : kind ≠ .couple) (fits : payload.length ≤ 24)
    (long : requiredLength kind payload = payload.length) (station : isStationAddress source = true)
    (fields : fieldsSound kind (destination % 65536) source payload = true) :
    structurallySound (composeFrame code destination source payload) = true := by
  have stationBound : source ≤ 0x0FFF := by
    simp only [isStationAddress, Bool.and_eq_true, decide_eq_true_eq] at station
    exact station.2
  have carried : source % 65536 = source := Nat.mod_eq_of_lt (by omega)
  have kindOf : frameKind (composeFrame code destination source payload) = some kind :=
    (congrArg FrameKind.ofCode (composeFrame_kind ..)).trans coded
  unfold structurallySound
  rw [kindOf, payloadLength_composeFrame _ _ _ fits, payloadOf_composeFrame _ _ _ fits, frameSource_composeFrame,
    frameDestination_composeFrame, carried]
  simp [other, long, station, fields]

theorem Controller.statusPayload_sound (c : Controller) (destination source : Nat) :
    fieldsSound .status destination source c.statusPayload = true := by
  have presence : byteAt c.statusPayload 0 ≤ 1 ∧
      (byteAt c.statusPayload 0 = 0 ∨ (byteAt c.statusPayload 2 ≤ 2 ∧ byteAt c.statusPayload 4 ≤ 1)) := by
    simp only [c.byteAt_status_consist (k := 0) (by decide), c.byteAt_status_consist (k := 2) (by decide),
      c.byteAt_status_consist (k := 4) (by decide), Controller.consistBytes]
    cases c.consist.membership with
    | none => exact ⟨by decide, .inl rfl⟩
    | some m => exact ⟨Nat.le_refl 1, .inr ⟨(byteOf_code m.role.code_le).trans_le m.role.code_le,
        (byteOf_code m.orientation.code_le).trans_le m.orientation.code_le⟩⟩
  obtain ⟨present, consist⟩ := presence
  have state := (c.byteAt_status 0).trans (byteOf_code c.consist.state.code_le)
  have travel := (c.byteAt_status 3).trans (byteOf_code c.motion.travel.code_le)
  have aspect := (c.byteAt_status 14).trans (byteOf_code c.motion.block.effectiveAspect.code_le)
  have cause := (c.byteAt_status 15).trans (byteOf_code c.supply.resetCause.code_le)
  simp only [fieldsSound, Bool.and_eq_true, Bool.or_eq_true, decide_eq_true_eq, beq_iff_eq]
  exact ⟨⟨⟨⟨⟨present, consist⟩, state.trans_le c.consist.state.code_le⟩, travel.trans_le c.motion.travel.code_le⟩,
    aspect.trans_le c.motion.block.effectiveAspect.code_le⟩, cause.trans_le c.supply.resetCause.code_le⟩

theorem Controller.diagPayload_sound (c : Controller) (destination source : Nat) :
    fieldsSound .diagReport destination source c.diagPayload = true := by
  have cause : byteAt c.diagPayload 10 = c.supply.resetCause.code := byteOf_code c.supply.resetCause.code_le
  have supply : byteAt c.diagPayload 16 = c.supply.state.code := byteOf_code c.supply.state.code_le
  have state : byteAt c.diagPayload 17 = c.consist.state.code := byteOf_code c.consist.state.code_le
  simp only [fieldsSound, Bool.and_eq_true, decide_eq_true_eq, cause, supply, state]
  exact ⟨⟨c.supply.resetCause.code_le, c.supply.state.code_le⟩, c.consist.state.code_le⟩

/-- A JOIN names its sender in its first two bytes. -/
theorem Controller.joinPayload_address (c : Controller) : wordAt c.joinPayload 0 = c.settings.ownAddress % 65536 :=
  (congrArg₂ (· * 256 + ·) (byteOf_toNat _) (byteOf_toNat _)).trans (word_of_bytes _)

theorem Controller.joinPayload_ack (c : Controller) : byteAt c.joinPayload 9 = boolCode (c.consist.state != .ability) :=
  byteOf_code (boolCode_le _)

theorem Controller.joinPayload_sound (c : Controller) {destination source : Nat} (consist : isConsistAddress destination = true)
    (own : c.settings.ownAddress % 65536 = source) : fieldsSound .join destination source c.joinPayload = true := by
  simp only [fieldsSound, Bool.and_eq_true, beq_iff_eq, decide_eq_true_eq]
  exact ⟨⟨consist, c.joinPayload_address.trans own⟩, c.joinPayload_ack.trans_le (boolCode_le _)⟩

/-- Settles O25: the header and the CRC are those of the frame check, and each payload has its length and only coded fields. -/
theorem composedFramesPassTheChecks : Obligations.ComposedFramesPassTheChecks := by
  intro s kind querier station consist
  have own : s.settings.ownAddress % 65536 = s.settings.ownAddress := by
    simp only [isStationAddress, Bool.and_eq_true, decide_eq_true_eq] at station
    omega
  cases kind with
  | join =>
    obtain ⟨id, consistId, byte⟩ := consist rfl
    have address : s.ownConsistAddress.getD 0 = 0x1000 + id := by rw [Controller.ownConsistAddress, consistId]; rfl
    have fits : s.joinPayload.length ≤ 24 := by rw [Controller.joinPayload_length]; decide
    refine ⟨frameCheck_composeFrame _ _ _ fits, ?_, (frameSource_composeFrame ..).trans own⟩
    refine structurallySound_composeFrame (kind := .join) rfl (by decide) fits rfl station (s.joinPayload_sound ?_ own)
    rw [address]
    simp only [isConsistAddress, Bool.and_eq_true, decide_eq_true_eq]
    omega
  | status =>
    have fits : s.statusPayload.length ≤ 24 := by rw [Controller.statusPayload_length]; decide
    exact ⟨frameCheck_composeFrame _ _ _ fits,
      structurallySound_composeFrame (kind := .status) rfl (by decide) fits s.statusPayload_length.symm station
        (s.statusPayload_sound ..),
      (frameSource_composeFrame ..).trans own⟩
  | diagReport =>
    have fits : s.diagPayload.length ≤ 24 := by rw [Controller.diagPayload_length]; decide
    exact ⟨frameCheck_composeFrame _ _ _ fits,
      structurallySound_composeFrame (kind := .diagReport) rfl (by decide) fits s.diagPayload_length.symm station
        (s.diagPayload_sound ..),
      (frameSource_composeFrame ..).trans own⟩

/-! ### What a receiver reads (R9, R10, R178) -/

theorem ConsistState.ofCode_code (state : ConsistState) : consistStateOf state.code = state := by cases state <;> rfl

theorem Controller.statusFlagWord_lt (c : Controller) : c.statusFlagWord < 512 :=
  (flagWord_lt _).trans_eq (by norm_num)

theorem Latches.word_lt (l : Latches) : l.word < 512 := (flagWord_lt _).trans_eq (by norm_num)

theorem Controller.status_flags (c : Controller) : wordAt c.statusPayload 6 = c.statusFlagWord := by
  have bounded := c.statusFlagWord_lt
  rw [wordAt, c.byteAt_status 1, c.byteAt_status 2]
  refine (congrArg₂ (· * 256 + ·) (byteOf_toNat _) (byteOf_toNat _)).trans ((word_of_bytes _).trans (Nat.mod_eq_of_lt ?_))
  omega

theorem Controller.status_speed (c : Controller) : wordAt c.statusPayload 9 = c.motion.measuredSpeed % 65536 := by
  rw [wordAt, c.byteAt_status 4, c.byteAt_status 5]
  exact (congrArg₂ (· * 256 + ·) (byteOf_toNat _) (byteOf_toNat _)).trans (word_of_bytes _)

theorem Controller.status_ramp (c : Controller) : wordAt c.statusPayload 11 = c.motion.ramp / 16 % 65536 := by
  rw [wordAt, c.byteAt_status 6, c.byteAt_status 7]
  exact (congrArg₂ (· * 256 + ·) (byteOf_toNat _) (byteOf_toNat _)).trans (word_of_bytes _)

theorem Controller.status_cap (c : Controller) : wordAt c.statusPayload 15 = c.markerCap.getD 4095 % 65536 := by
  rw [wordAt, c.byteAt_status 10, c.byteAt_status 11]
  exact (congrArg₂ (· * 256 + ·) (byteOf_toNat _) (byteOf_toNat _)).trans (word_of_bytes _)

theorem Controller.status_block (c : Controller) : wordAt c.statusPayload 17 = c.motion.block.blockId.getD 1023 % 65536 := by
  rw [wordAt, c.byteAt_status 12, c.byteAt_status 13]
  exact (congrArg₂ (· * 256 + ·) (byteOf_toNat _) (byteOf_toNat _)).trans (word_of_bytes _)

theorem Controller.status_state (c : Controller) : byteAt c.statusPayload 5 = c.consist.state.code :=
  (c.byteAt_status 0).trans (byteOf_code c.consist.state.code_le)

theorem Controller.status_load (c : Controller) : byteAt c.statusPayload 13 = c.motion.load % 256 :=
  (c.byteAt_status 8).trans (byteOf_toNat _)

/-- A cap below 4095 arrives, and the code 4095 arrives as none. -/
theorem capOf_getD {cap : Option Nat} (below : ∀ n, cap = some n → n < 4095) : capOf (cap.getD 4095 % 65536) = cap := by
  cases cap with
  | none => rfl
  | some n =>
    have := below n rfl
    rw [Option.getD_some, Nat.mod_eq_of_lt (by omega)]
    exact if_neg (by omega)

/-- A consist id of one byte arrives with its presence. -/
theorem Controller.status_consistId (c : Controller) (fits : ∀ id, c.consist.consistId = some id → id ≤ 255) :
    (if byteAt c.statusPayload 0 = 1 then some (byteAt c.statusPayload 1) else none) = c.consist.consistId := by
  rw [c.byteAt_status_consist (by decide), c.byteAt_status_consist (by decide)]
  unfold Controller.consistBytes ConsistUnit.consistId at *
  cases member : c.consist.membership with
  | none => rfl
  | some m =>
    rw [member] at fits
    exact congrArg some (byteOf_code (fits m.consistId rfl))

theorem Controller.statusFields_sent (c : Controller) (id : ∀ id, c.consist.consistId = some id → id ≤ 255)
    (load : c.motion.load ≤ 255) (cap : ∀ n, c.markerCap = some n → n < 4095) :
    statusFields c.statusPayload
      = { consistId := c.consist.consistId
          consistState := c.consist.state
          eStop := c.motion.state == .eStopped
          stall := c.motion.state == .faulted .stall
          driveFault := c.motion.state == .faulted .driveFault
          load := c.motion.load
          cap := c.markerCap } := by
  rw [statusFields, c.status_consistId id, c.status_state, ConsistState.ofCode_code, c.status_flags, c.status_load, c.status_cap,
    capOf_getD cap, Nat.mod_eq_of_lt (by omega)]
  simp only [Controller.statusFlagWord, flagWord_testBit]
  rfl

theorem Controller.joinFields_sent (c : Controller) (p0 : c.settings.ownAbility.p0 ≤ 4095) (p16 : c.settings.ownAbility.p16 ≤ 4095)
    (accelMin : 1 ≤ c.settings.accel) (accelMax : c.settings.accel ≤ 255) (decelMin : 1 ≤ c.settings.decel)
    (decelMax : c.settings.decel ≤ 255) :
    joinFields c.joinPayload = { ability := c.settings.ownAbility, ack := c.consist.state != .ability } := by
  have word (n : Nat) : (byteOf (n / 256)).toNat * 256 + (byteOf n).toNat = n % 65536 :=
    (congrArg₂ (· * 256 + ·) (byteOf_toNat _) (byteOf_toNat _)).trans (word_of_bytes _)
  have start : wordAt c.joinPayload 2 = c.settings.ownAbility.p0 := (word _).trans (Nat.mod_eq_of_lt (by omega))
  have top : wordAt c.joinPayload 4 = c.settings.ownAbility.p16 := (word _).trans (Nat.mod_eq_of_lt (by omega))
  have accel : byteAt c.joinPayload 6 = c.settings.accel := byteOf_code accelMax
  have decel : byteAt c.joinPayload 7 = c.settings.decel := byteOf_code decelMax
  have able : byteAt c.joinPayload 8 = flagWord [c.settings.loadShareOffered, c.settings.capShareOffered] :=
    byteOf_code (bound := 3) (Nat.lt_succ_iff.mp (flagWord_lt _))
  have ack : (boolCode (c.consist.state != .ability) == 1) = (c.consist.state != .ability) := by
    cases c.consist.state != .ability <;> rfl
  rw [joinFields, start, top, accel, decel, able, c.joinPayload_ack, ack, flagWord_testBit, flagWord_testBit, Nat.min_eq_right p0,
    Nat.min_eq_right p16]
  have inRange {n : Nat} (least : 1 ≤ n) (most : n ≤ 255) : clampNat 1 255 n = n := by
    unfold clampNat
    omega
  rw [inRange accelMin accelMax, inRange decelMin decelMax]
  rfl

/-- The bits of the STATUS flag word (section 11.4). -/
theorem Controller.statusFlagWord_testBit (c : Controller) (bit : Nat) :
    c.statusFlagWord.testBit bit = true ↔
      (bit = 0 ∧ c.motion.state = .eStopped) ∨ (bit = 1 ∧ c.motion.state = .faulted .stall) ∨
        (bit = 2 ∧ c.motion.state = .faulted .driveFault) ∨
        (bit = 3 ∧ (c.smoke.state = .purge ∨ c.smoke.state = .fault)) ∨ (bit = 4 ∧ c.beat.sensor = .fault) ∨
        (bit = 5 ∧ c.latches.linkLost = true) ∨ (bit = 6 ∧ c.command.partMode = .parked) ∨
        (bit = 7 ∧ c.supply.state = .hold) ∨ (bit = 8 ∧ c.motion.state.isCalibrating = true) := by
  rw [Controller.statusFlagWord, flagWord_testBit]
  match bit with
  | 0 | 1 | 2 | 4 | 5 | 6 | 7 | 8 => simp
  | 3 => simpa using SmokeState.faulty_iff _
  | k + 9 => simp

theorem Latches.word_testBit (l : Latches) (bit : Nat) :
    l.word.testBit bit = true ↔
      (bit = 0 ∧ l.linkLost = true) ∨ (bit = 1 ∧ l.negotiationFailed = true) ∨ (bit = 2 ∧ l.sensorFault = true) ∨
        (bit = 3 ∧ l.smokeFault = true) ∨ (bit = 4 ∧ l.configDefaulted = true) ∨ (bit = 5 ∧ l.calDefaulted = true) ∨
        (bit = 6 ∧ l.calRefused = true) ∨ (bit = 7 ∧ l.addressConflict = true) ∨ (bit = 8 ∧ l.coupleRefused = true) := by
  rw [Latches.word, flagWord_testBit]
  match bit with
  | 0 | 1 | 2 | 3 | 4 | 5 | 6 | 7 | 8 => simp
  | k + 9 => simp

/-! ### The layouts, field by field (section 11.4) -/

/-- A voice's pending program stands in its own byte, 255 for none (R143). -/
theorem Controller.diag_pending (c : Controller) {k : Nat} (voice : k < 4) :
    byteAt c.diagPayload (11 + k) = (((c.sound.voices[k]?).bind (·.pending)).map fun t => t.program % 256).getD 255 := by
  have carried : byteAt c.diagPayload (11 + k) = (c.sound.voices[k]?.map Voice.pendingCode).getD 255 % 256 := by
    match k, voice with
    | 0, _ | 1, _ | 2, _ | 3, _ => exact byteOf_toNat _
  rw [carried]
  cases c.sound.voices[k]? with
  | none => rfl
  | some v =>
    show v.pendingCode % 256 = (v.pending.map fun t => t.program % 256).getD 255
    unfold Voice.pendingCode
    cases v.pending <;> rfl

theorem Controller.diag_latches (c : Controller) : wordAt c.diagPayload 8 = c.latches.word := by
  have bounded := c.latches.word_lt
  refine (congrArg₂ (· * 256 + ·) (byteOf_toNat _) (byteOf_toNat _)).trans ((word_of_bytes _).trans (Nat.mod_eq_of_lt ?_))
  omega

theorem Controller.status_noConsist {c : Controller} (solo : c.consist.membership = none) {k : Nat} (inside : k < 5) :
    byteAt c.statusPayload k = 0 := by
  rw [c.byteAt_status_consist inside, Controller.consistBytes, solo]
  match k, inside with
  | 0, _ | 1, _ | 2, _ | 3, _ | 4, _ => rfl

theorem Controller.status_consist {c : Controller} {m : Membership} (member : c.consist.membership = some m) :
    byteAt c.statusPayload 0 = 1 ∧ byteAt c.statusPayload 1 = m.consistId % 256 ∧ byteAt c.statusPayload 2 = m.role.code ∧
      byteAt c.statusPayload 3 = m.position % 256 ∧ byteAt c.statusPayload 4 = m.orientation.code := by
  have consist : c.consistBytes = [1#8, byteOf m.consistId, byteOf m.role.code, byteOf m.position, byteOf m.orientation.code] := by
    rw [Controller.consistBytes, member]
  have carried {k : Nat} (inside : k < 5) := c.byteAt_status_consist inside
  rw [consist] at carried
  exact ⟨carried (by decide), (carried (by decide)).trans (byteOf_toNat _), (carried (by decide)).trans (byteOf_code m.role.code_le),
    (carried (by decide)).trans (byteOf_toNat _), (carried (by decide)).trans (byteOf_code m.orientation.code_le)⟩

/-- Settles O26: every field of STATUS, JOIN and DIAG_REPORT stands in its bytes and is read back from them. -/
theorem statusAndJoinFieldsArriveAsSent : Obligations.StatusAndJoinFieldsArriveAsSent := by
  intro s querier stateCode causeCode
  have status : payloadOf (s.composeReport .status querier) = s.statusPayload :=
    payloadOf_composeFrame _ _ _ (by rw [s.statusPayload_length]; decide)
  have join : payloadOf (s.composeReport .join querier) = s.joinPayload :=
    payloadOf_composeFrame _ _ _ (by rw [s.joinPayload_length]; decide)
  have diag : payloadOf (s.composeReport .diagReport querier) = s.diagPayload :=
    payloadOf_composeFrame _ _ _ (by rw [s.diagPayload_length]; decide)
  rw [status, join]
  refine ⟨s.statusFields_sent, s.joinFields_sent, s.joinPayload_address, ?_, ?_⟩
  · intro frame p
    have payload : p = s.statusPayload := status
    clear_value p
    subst payload
    refine ⟨congrArg FrameKind.ofCode (composeFrame_kind ..), frameDestination_composeFrame .., s.statusPayload_length,
      fun solo k inside => Controller.status_noConsist solo inside, fun m member => ?_, s.status_state, fun bit => ?_, ?_,
      s.status_speed, s.status_ramp, s.status_load, (s.byteAt_status 9).trans (byteOf_toNat _), s.status_cap, s.status_block, ?_,
      (s.byteAt_status 15).trans (byteOf_code s.supply.resetCause.code_le)⟩
    · obtain ⟨presence, id, role, position, orientation⟩ := Controller.status_consist member
      refine ⟨presence, id, role, position, orientation.trans ?_⟩
      cases m.orientation <;> rfl
    · exact s.status_flags ▸ s.statusFlagWord_testBit bit
    · refine ((s.byteAt_status 3).trans (byteOf_code s.motion.travel.code_le)).trans ?_
      cases s.motion.travel <;> rfl
    · exact (s.byteAt_status 14).trans (byteOf_code s.motion.block.effectiveAspect.code_le)
  · intro frame p
    have payload : p = s.diagPayload := diag
    clear_value p
    subst payload
    exact ⟨congrArg FrameKind.ofCode (composeFrame_kind ..), frameDestination_composeFrame .., s.diagPayload_length,
      byteOf_toNat _, byteOf_toNat _, byteOf_toNat _, byteOf_toNat _, byteOf_toNat _, byteOf_toNat _, byteOf_toNat _,
      byteOf_toNat _, fun bit => s.diag_latches ▸ s.latches.word_testBit bit, byteOf_code s.supply.resetCause.code_le,
      fun k voice => s.diag_pending voice, byteOf_toNat _, byteOf_code s.supply.state.code_le,
      byteOf_code s.consist.state.code_le⟩

end Sys2Proof.Machine
end

section
/-! PROOFS. CONTROL_PERIOD: direction, target, ramp (R43 to R58, R110, R111). -/

namespace Sys2Proof.Machine

/-! ### Direction (R51, R52) -/

/-- The demanded direction is compared with the travel direction, and differs (R52). -/
def Controller.reverses (c : Controller) : Prop :=
  c.motion.state.isCalibrating = false ∧ c.supply.state.drives = true ∧ c.demandedDirection ≠ c.motion.travel

theorem Controller.directionStage_turns {c : Controller} (reverses : c.reverses) (still : c.motion.rampedSpeed = 0) :
    c.directionStage
      = { c with
          air := { c.air with statusSlot := c.air.statusSlot.file }
          motion := { c.motion with travel := c.demandedDirection }
          sound := c.sound.motionTrigger .reverse } := by
  obtain ⟨calibrating, drives, differs⟩ := reverses
  refine if_pos ?_
  simp [Controller.directionStageRuns, calibrating, drives, differs, still]

theorem Controller.directionStage_stands {c : Controller} (keeps : ¬(c.reverses ∧ c.motion.rampedSpeed = 0)) :
    c.directionStage = c := by
  refine if_neg fun turns => keeps ?_
  simp only [Controller.directionStageRuns, Bool.and_eq_true, Bool.not_eq_true', bne_iff_ne, beq_iff_eq] at turns
  obtain ⟨⟨⟨calibrating, drives⟩, differs⟩, still⟩ := turns
  exact ⟨⟨calibrating, drives, differs⟩, still⟩

theorem Controller.reversalWaiting_iff (c : Controller) :
    c.reversalWaiting = true ↔ c.reverses ∧ 0 < c.motion.rampedSpeed := by
  simp [Controller.reversalWaiting, Controller.directionStageRuns, Controller.reverses, and_assoc]

theorem Controller.demandedDirection_eq (c : Controller) :
    c.demandedDirection
      = if c.consist.membership.map (·.orientation) = some .reversed then
          (if c.command.requestedDirection = .forward then .reverse else .forward)
        else c.command.requestedDirection := by
  unfold Controller.demandedDirection
  split
  · next reversed =>
    rw [if_pos reversed]
    cases c.command.requestedDirection <;> rfl
  · next other => exact (if_neg other).symm

theorem SupplyState.drives_iff (state : SupplyState) : state.drives = true ↔ state = .normal ∨ state = .dropout := by
  cases state <;> decide

/-! ### The target (R45, R48, R50, R110, R111) -/

theorem ConsistUnit.commonInForce_eq (k : ConsistUnit) :
    k.commonInForce = if k.state = .formed ∨ k.state = .broken then k.common else none := by
  unfold ConsistUnit.commonInForce
  cases k.state <;> simp

/-- The caps that the other members report (R110). -/
def Controller.membersCaps (c : Controller) : List Nat :=
  if c.consist.state = .formed ∧ (∃ p, c.consist.common = some p ∧ p.capShare = true) then
    c.consist.others.filterMap fun o => (c.freshStatus o.address).bind (·.cap)
  else []

/-- The terms of the effective target that are present (R50). -/
def Controller.targetTerms (c : Controller) : List Nat :=
  c.commandTarget :: c.markerCap.toList ++ c.membersCaps ++ (if c.consist.stopCap = true then [0] else []) ++ c.consist.topSpeed.toList

/-- The merged cap is one of the caps it merges, and none of the members' caps is less (R110). -/
theorem Controller.mergedCap_merges (c : Controller) :
    (∀ n, c.mergedCap = some n → n ∈ c.markerCap.toList ++ c.membersCaps) ∧
      ∀ term ∈ c.membersCaps, ∃ n, c.mergedCap = some n ∧ n ≤ term := by
  by_cases shares : c.consist.state = .formed ∧ (∃ p, c.consist.common = some p ∧ p.capShare = true)
  · have caps : c.membersCaps = c.consist.others.filterMap fun o => (c.freshStatus o.address).bind (·.cap) := if_pos shares
    obtain ⟨formed, p, common, capShare⟩ := shares
    have merged : c.mergedCap
        = leastPresent (c.markerCap :: c.consist.others.map fun o => (c.freshStatus o.address).bind (·.cap)) := by
      simp [Controller.mergedCap, formed, common, capShare]
    have present (n : Nat) : some n ∈ c.markerCap :: c.consist.others.map (fun o => (c.freshStatus o.address).bind (·.cap))
        ↔ n ∈ c.markerCap.toList ++ c.membersCaps := by
      simp [caps, eq_comm]
    rw [merged]
    constructor
    · intro n least
      by_cases empty : ∃ n, some n ∈ c.markerCap :: c.consist.others.map fun o => (c.freshStatus o.address).bind (·.cap)
      · obtain ⟨m, answer, member, -⟩ := leastPresent_least empty
        exact Option.some.inj (answer.symm.trans least) ▸ (present m).mp member
      · rw [leastPresent_eq_none fun n member => empty ⟨n, member⟩] at least
        cases least
    · intro term member
      have named := (present term).mpr (List.mem_append_right _ member)
      obtain ⟨m, answer, -, least⟩ := leastPresent_least ⟨term, named⟩
      exact ⟨m, answer, least term named⟩
  · have unmerged : c.mergedCap = none := by
      unfold Controller.mergedCap
      split
      · next formed common =>
        rename_i p
        exact if_neg fun capShare => shares ⟨formed, p, common, capShare⟩
      · rfl
    rw [unmerged, Controller.membersCaps, if_neg shares]
    exact ⟨nofun, nofun⟩

/-- In IDLE and MOVING with no reversal waiting the effective target is the least of the terms present (R50). -/
theorem Controller.effectiveTarget_least {c : Controller} (free : c.motion.state = .idle ∨ c.motion.state = .moving) :
    c.effectiveTarget false ∈ c.targetTerms ∧ ∀ term ∈ c.targetTerms, c.effectiveTarget false ≤ term := by
  have runs : ¬(c.motion.state = .eStopped ∨ c.motion.state.isFaulted ∨ c.motion.state.isCalibrating ∨ false = true) := by
    rcases free with free | free <;> simp [free, MotionState.isFaulted, MotionState.isCalibrating]
  obtain ⟨m, answer, member, least⟩ := leastPresent_least
    (l := [some c.commandTarget, c.markerCap, c.mergedCap, if c.consist.stopCap then some 0 else none, c.consist.topSpeed])
    ⟨c.commandTarget, List.mem_cons_self⟩
  have target : c.effectiveTarget false = m := by
    rw [Controller.effectiveTarget, if_neg runs, answer]
    rfl
  obtain ⟨mergedIn, mergedLeast⟩ := c.mergedCap_merges
  rw [target]
  simp only [List.mem_cons, List.not_mem_nil, or_false] at member least
  simp only [Controller.targetTerms, List.mem_append, List.mem_cons, Option.mem_toList]
  constructor
  · rcases member with command | marker | merged | stop | top
    · exact .inl (.inl (.inl (.inl (Option.some.inj command))))
    · exact .inl (.inl (.inl (.inr marker.symm)))
    · rcases List.mem_append.mp (mergedIn m merged.symm) with marker | members
      · exact .inl (.inl (.inl (.inr (Option.mem_toList.mp marker))))
      · exact .inl (.inl (.inr members))
    · refine .inl (.inr ?_)
      split at stop
      · next stops => simp [stops, Option.some.inj stop]
      · cases stop
    · exact .inr top.symm
  · rintro term ((((command | marker) | members) | stop) | top)
    · exact least term (.inl (congrArg some command))
    · exact least term (.inr (.inl marker.symm))
    · obtain ⟨n, merged, below⟩ := mergedLeast term members
      exact (least n (.inr (.inr (.inl merged.symm)))).trans below
    · refine least term (.inr (.inr (.inr (.inl ?_))))
      split at stop
      · next stops => rw [if_pos stops, List.mem_singleton.mp stop]
      · cases stop
    · exact least term (.inr (.inr (.inr (.inr top.symm))))

theorem Controller.effectiveTarget_waiting (c : Controller) : c.effectiveTarget true = 0 := if_pos (by simp)

/-- The terms look at settings, command, consist, block and the peer table alone. -/
theorem Controller.targetTerms_congr {c d : Controller} (settings : d.settings = c.settings) (command : d.command = c.command)
    (consist : d.consist = c.consist) (block : d.motion.block = c.motion.block) (peers : d.air.peers = c.air.peers) :
    d.targetTerms = c.targetTerms := by
  unfold Controller.targetTerms Controller.commandTarget Controller.shuntLevel Controller.markerCap Controller.curveInForce
    Controller.membersCaps Controller.freshStatus
  rw [settings, command, consist, block, peers]

theorem Controller.ratesInForce_congr {c d : Controller} (settings : d.settings = c.settings) (command : d.command = c.command)
    (consist : d.consist = c.consist) : d.ratesInForce = c.ratesInForce := by
  simp only [Controller.ratesInForce, Controller.shuntLevel, settings, command, consist]

/-! ### The ramp (R53 to R55) -/

/-- A motion state whose flags are those of the new one: STATUS is not requested, its timer and the park timer follow. -/
theorem Controller.setMotionState_unannounced {state : MotionState} {c : Controller} (same : c.motion.state.flags = state.flags) :
    c.setMotionState state
      = { c with
          air := { c.air with statusTimer := c.air.statusTimer.map (min · (c.setMotionState state).statusInterval) }
          command :=
            { c.command with
              parkTimer :=
                if (c.setMotionState state).parkConditions = true then some (c.command.parkTimer.getD 0) else none }
          motion := { c.motion with state := state } } := by
  rw [Controller.setMotionState, if_pos same]
  rfl

/-- What the ramp stage makes of the part `c` whose R it has moved: `before` is v_r before it (R41, R53, R58). -/
structure Controller.Departs (before : Nat) (c d : Controller) : Prop where
  shape : d = { c with
    air := { c.air with statusTimer := d.air.statusTimer }
    command := { c.command with parkTimer := d.command.parkTimer }
    motion := { c.motion with state := d.motion.state }
    sound := d.sound }
  state : d.motion.state
    = if before = 0 ∧ 0 < c.motion.rampedSpeed then .moving
      else if 0 < before ∧ c.motion.rampedSpeed = 0 then .idle
      else c.motion.state
  sound : d.sound
    = if before = 0 ∧ 0 < c.motion.rampedSpeed then c.sound.motionTrigger .depart
      else if 0 < before ∧ c.motion.rampedSpeed = 0 then c.sound.motionTrigger .arrive
      else c.sound
  timers : before = 0 ∧ 0 < c.motion.rampedSpeed ∨ 0 < before ∧ c.motion.rampedSpeed = 0 →
    d.air.statusTimer = c.air.statusTimer.map (min · d.statusInterval) ∧
      d.command.parkTimer = if d.parkConditions = true then some (c.command.parkTimer.getD 0) else none
  stands : ¬(before = 0 ∧ 0 < c.motion.rampedSpeed ∨ 0 < before ∧ c.motion.rampedSpeed = 0) →
    d.air.statusTimer = c.air.statusTimer ∧ d.command.parkTimer = c.command.parkTimer

theorem Controller.judgeDeparture_departs {before : Nat} {c : Controller}
    (free : c.motion.state = .idle ∨ c.motion.state = .moving) : c.Departs before (c.judgeDeparture before) := by
  have flags {state : MotionState} (quiet : state = .idle ∨ state = .moving) : c.motion.state.flags = state.flags := by
    rcases free with free | free <;> rcases quiet with rfl | rfl <;> rw [free] <;> rfl
  have changes {state : MotionState} (quiet : state = .idle ∨ state = .moving) (event : MotionEvent) :
      let moved := (c.setMotionState state).raise event
      moved = { c with
        air := { c.air with statusTimer := moved.air.statusTimer }
        command := { c.command with parkTimer := moved.command.parkTimer }
        motion := { c.motion with state := state }
        sound := c.sound.motionTrigger event } ∧
      moved.air.statusTimer = c.air.statusTimer.map (min · moved.statusInterval) ∧
      moved.command.parkTimer = if moved.parkConditions = true then some (c.command.parkTimer.getD 0) else none := by
    have unannounced := Controller.setMotionState_unannounced (flags quiet)
    have timer := congrArg (·.air.statusTimer) unannounced
    have park := congrArg (·.command.parkTimer) unannounced
    have sound := congrArg (·.sound) unannounced
    refine ⟨?_, timer, park⟩
    simp only [Controller.raise, Controller.onSound]
    generalize c.setMotionState state = d at *
    rw [unannounced]
  unfold Controller.judgeDeparture
  split
  · next leaves =>
    obtain ⟨shape, timer, park⟩ := changes (.inr rfl) .depart
    generalize (c.setMotionState .moving).raise .depart = d at *
    exact {
      shape := by rw [shape]
      state := by rw [shape, if_pos leaves]
      sound := by rw [shape, if_pos leaves]
      timers := fun _ => ⟨timer, park⟩
      stands := fun calm => absurd (.inl leaves) calm }
  · next stays =>
    split
    · next arrives =>
      obtain ⟨shape, timer, park⟩ := changes (.inl rfl) .arrive
      generalize (c.setMotionState .idle).raise .arrive = d at *
      exact {
        shape := by rw [shape]
        state := by rw [shape, if_neg stays, if_pos arrives]
        sound := by rw [shape, if_neg stays, if_pos arrives]
        timers := fun _ => ⟨timer, park⟩
        stands := fun calm => absurd (.inr arrives) calm }
    · next rests =>
      exact {
        shape := rfl
        state := by rw [if_neg stays, if_neg rests]
        sound := by rw [if_neg stays, if_neg rests]
        timers := fun event => absurd event (not_or.mpr ⟨stays, rests⟩)
        stands := fun _ => ⟨rfl, rfl⟩ }

section
variable {c : Controller} {waiting : Bool}

/-- In IDLE and MOVING with a supply that drives R moves toward its target (R53). -/
theorem Controller.rampStage_free (free : c.motion.state = .idle ∨ c.motion.state = .moving) (drives : c.supply.state.drives = true) :
    let r := rampToward c.ratesInForce.1 c.ratesInForce.2 (16 * c.effectiveTarget waiting) c.motion.ramp
    Controller.Departs c.motion.rampedSpeed
      { c with motion := { c.motion with ramp := r, rampSense := senseOf c.motion.ramp r } } (c.rampStage waiting) := by
  intro r
  have stage : c.rampStage waiting
      = ({ c with motion := { c.motion with ramp := r, rampSense := senseOf c.motion.ramp r } } :
          Controller).judgeDeparture c.motion.rampedSpeed := by
    rcases free with free | free <;> simp [Controller.rampStage, free, drives, Controller.onMotion, r]
  rw [stage]
  exact Controller.judgeDeparture_departs free

/-- In HOLD and SETTLE R stands (R55). -/
theorem Controller.rampStage_unsupplied (free : c.motion.state = .idle ∨ c.motion.state = .moving)
    (unsupplied : ¬c.supply.state.drives = true) :
    c.rampStage waiting = { c with motion := { c.motion with rampSense := .steady } } := by
  rcases free with free | free <;> simp [Controller.rampStage, free, unsupplied, Controller.onMotion]

/-- R is 0 in every other motion state (R55). -/
theorem Controller.rampStage_held (held : c.motion.state.stopped = true ∨ c.motion.state.isCalibrating = true) :
    c.rampStage waiting = { c with motion := { c.motion with ramp := 0, rampSense := .steady } } := by
  unfold Controller.rampStage
  cases state : c.motion.state with
  | idle | moving => simp [state, MotionState.stopped, MotionState.isCalibrating] at held
  | eStopped | faulted | calibrating => rfl

end

/-! ### The whole period (R43) -/

/-- The part as the last stage of a period publishes it, before a pending renegotiation is judged. -/
def Controller.published (bemf current : Nat) (c : Controller) : Controller :=
  (c.limited bemf current).calibrationStage.labourStage.judgeLights

theorem Controller.controlPeriod_published (bemf current : Nat) (c : Controller) :
    c.controlPeriod bemf current = (c.published bemf current).judgeRenegotiation := c.controlPeriod_eq bemf current

theorem Controller.published_eq (bemf current : Nat) (c : Controller) :
    c.published bemf current
      = { c.ramped with
          motion := (c.controlPeriod bemf current).motion, light := (c.published bemf current).light } := by
  have calibrated (d : Controller) : d.calibrationStage = { d with motion := d.calibrationStage.motion } := by
    unfold Controller.calibrationStage
    split <;> rfl
  rw [Controller.controlPeriod_motion]
  unfold Controller.published
  rw [calibrated]
  rfl

theorem exec_controlPeriod {s : State} (started : s.command.partMode ≠ .start) (bemf : Fin 1024) (sum : Fin 94117) :
    exec (.controlPeriod bemf sum) s
      = .next { toController := s.toController.controlPeriod bemf.val (sum.val / 92), pending := s.pending } :=
  State.next_update (if_neg started)

/-- A pending renegotiation is judged after the publication: it touches the Consist Unit and what goes with it. -/
theorem Controller.judgeRenegotiation_shape (c : Controller) :
    c.judgeRenegotiation
      = { c with
          air :=
            { c.air with
              joinSlot := c.judgeRenegotiation.air.joinSlot, statusSlot := c.judgeRenegotiation.air.statusSlot
              statusTimer := c.judgeRenegotiation.air.statusTimer }
          command :=
            { c.command with
              parkTimer := c.judgeRenegotiation.command.parkTimer
              commandedStep := c.judgeRenegotiation.command.commandedStep }
          consist := c.judgeRenegotiation.consist, light := c.judgeRenegotiation.light } := by
  unfold Controller.judgeRenegotiation
  split
  · rw [Controller.renegotiate, Controller.setConsistState_coupled (state := .ability) (by decide)]
    rfl
  · rfl

theorem Controller.judgeRenegotiation_requested {c : Controller} (requested : c.air.statusSlot.requested = true) :
    c.judgeRenegotiation.air.statusSlot.requested = true := by
  unfold Controller.judgeRenegotiation
  split
  · show (Controller.setConsistState .ability _).air.statusSlot.requested = true
    exact Controller.setConsistState_status ..
  · exact requested

/-! ### The first three stages together -/

section
variable {c : Controller}

theorem Controller.begun_reverses (c : Controller) : c.begun.reverses ↔ c.reverses := Iff.rfl

/-- The part with its direction stage taken: air, motion and sound aside it is the part as it was (R52). -/
theorem Controller.directed_eq (c : Controller) :
    (c.reverses ∧ c.motion.rampedSpeed = 0 →
      c.begun.directionStage
        = { c with
            air := { c.air with statusSlot := c.air.statusSlot.file }
            motion := { c.motion with block := c.motion.block.older, travel := c.demandedDirection }
            sound := c.sound.motionTrigger .reverse }) ∧
      (¬(c.reverses ∧ c.motion.rampedSpeed = 0) →
        c.begun.directionStage = { c with motion := { c.motion with block := c.motion.block.older } }) :=
  ⟨fun ⟨reverses, still⟩ => Controller.directionStage_turns (c := c.begun) reverses still,
    fun keeps => Controller.directionStage_stands (c := c.begun) keeps⟩

/-- What the direction stage leaves for the ramp stage. -/
theorem Controller.directed_frame (c : Controller) :
    c.begun.directionStage.settings = c.settings ∧ c.begun.directionStage.command = c.command ∧
      c.begun.directionStage.consist = c.consist ∧ c.begun.directionStage.supply = c.supply ∧
      c.begun.directionStage.motion.block = c.motion.block.older ∧ c.begun.directionStage.air.peers = c.air.peers ∧
      c.begun.directionStage.motion.state = c.motion.state ∧ c.begun.directionStage.motion.ramp = c.motion.ramp := by
  obtain ⟨turned, stands⟩ := c.directed_eq
  by_cases turns : c.reverses ∧ c.motion.rampedSpeed = 0
  · rw [turned turns]
    exact ⟨rfl, rfl, rfl, rfl, rfl, rfl, rfl, rfl⟩
  · rw [stands turns]
    exact ⟨rfl, rfl, rfl, rfl, rfl, rfl, rfl, rfl⟩

end

theorem MotionState.free_or_held (state : MotionState) :
    (state = .idle ∨ state = .moving) ∨ (state.stopped = true ∨ state.isCalibrating = true) := by
  cases state <;> simp [MotionState.stopped, MotionState.isCalibrating]

/-- What the ramp stage leaves alone in every motion state. -/
theorem Controller.rampStage_shape (waiting : Bool) (c : Controller) :
    c.rampStage waiting
      = { c with
          air := { c.air with statusTimer := (c.rampStage waiting).air.statusTimer }
          command := { c.command with parkTimer := (c.rampStage waiting).command.parkTimer }
          motion :=
            { c.motion with
              ramp := (c.rampStage waiting).motion.ramp, rampSense := (c.rampStage waiting).motion.rampSense
              state := (c.rampStage waiting).motion.state }
          sound := (c.rampStage waiting).sound } := by
  rcases c.motion.state.free_or_held with free | held
  · by_cases drives : c.supply.state.drives = true
    · have shape := (Controller.rampStage_free (waiting := waiting) free drives).shape
      generalize c.rampStage waiting = d at *
      rw [shape]
    · rw [Controller.rampStage_unsupplied free drives]
  · rw [Controller.rampStage_held held]

/-- The part as the first three stages of a period leave it. -/
theorem Controller.ramped_shape (c : Controller) :
    c.ramped
      = { c with
          air := { c.air with statusSlot := c.ramped.air.statusSlot, statusTimer := c.ramped.air.statusTimer }
          command := { c.command with parkTimer := c.ramped.command.parkTimer }
          motion :=
            { c.motion with
              block := c.motion.block.older, travel := c.ramped.motion.travel, ramp := c.ramped.motion.ramp
              rampSense := c.ramped.motion.rampSense, state := c.ramped.motion.state }
          sound := c.ramped.sound } := by
  have staged : c.ramped = _ := Controller.rampStage_shape c.begun.reversalWaiting c.begun.directionStage
  obtain ⟨turned, stands⟩ := c.directed_eq
  generalize same : c.begun.directionStage.rampStage c.begun.reversalWaiting = d at staged
  rw [staged]
  by_cases turns : c.reverses ∧ c.motion.rampedSpeed = 0
  · rw [turned turns]
  · rw [stands turns]

/-- The first three stages request STATUS with a reversal only, and publish the direction it takes (R52). -/
theorem Controller.ramped_reversal (c : Controller) :
    (c.reverses ∧ c.motion.rampedSpeed = 0 →
      c.ramped.air.statusSlot = c.air.statusSlot.file ∧ c.ramped.motion.travel = c.demandedDirection) ∧
      (¬(c.reverses ∧ c.motion.rampedSpeed = 0) →
        c.ramped.air.statusSlot = c.air.statusSlot ∧ c.ramped.motion.travel = c.motion.travel) := by
  have staged : c.ramped = _ := Controller.rampStage_shape c.begun.reversalWaiting c.begun.directionStage
  obtain ⟨turned, stands⟩ := c.directed_eq
  rw [congrArg (·.air.statusSlot) staged, congrArg (·.motion.travel) staged]
  refine ⟨fun turns => ?_, fun keeps => ?_⟩
  · rw [turned turns]
    exact ⟨rfl, rfl⟩
  · rw [stands keeps]
    exact ⟨rfl, rfl⟩

theorem Controller.ramped_sound {c : Controller} (turned : SoundEngine)
    (turns : c.reverses ∧ c.motion.rampedSpeed = 0 → turned = c.sound.motionTrigger .reverse)
    (keeps : ¬(c.reverses ∧ c.motion.rampedSpeed = 0) → turned = c.sound) : c.begun.directionStage.sound = turned := by
  obtain ⟨turnedEq, standsEq⟩ := c.directed_eq
  by_cases turning : c.reverses ∧ c.motion.rampedSpeed = 0
  · rw [turnedEq turning, turns turning]
  · rw [standsEq turning, keeps turning]

/-- The target that a period's ramp stage goes by (R50, R52). -/
def Controller.periodTarget (c : Controller) : Nat := c.begun.directionStage.effectiveTarget c.begun.reversalWaiting

/-- R once a period has moved it (R53). -/
def Controller.periodRamp (c : Controller) : Nat :=
  rampToward c.ratesInForce.1 c.ratesInForce.2 (16 * c.periodTarget) c.motion.ramp

/-- A period in IDLE or MOVING with a supply that drives: R moves, and v_r is judged for departure and arrival. -/
theorem Controller.ramped_free {c : Controller} (free : c.motion.state = .idle ∨ c.motion.state = .moving)
    (drives : c.supply.state.drives = true) :
    Controller.Departs (c.motion.ramp / 16)
      { c.begun.directionStage with
        motion := { c.begun.directionStage.motion with ramp := c.periodRamp, rampSense := senseOf c.motion.ramp c.periodRamp } }
      c.ramped := by
  obtain ⟨settings, command, consist, supply, -, -, state, ramp⟩ := c.directed_frame
  have departs := Controller.rampStage_free (c := c.begun.directionStage) (waiting := c.begun.reversalWaiting)
    (by rwa [state]) (by rwa [supply])
  rw [Controller.ratesInForce_congr settings command consist, ramp] at departs
  have before : c.begun.directionStage.motion.rampedSpeed = c.motion.ramp / 16 := congrArg (· / 16) ramp
  rw [before] at departs
  exact departs

/-- A period in IDLE or MOVING in HOLD or SETTLE: R stands (R55). -/
theorem Controller.ramped_unsupplied {c : Controller} (free : c.motion.state = .idle ∨ c.motion.state = .moving)
    (unsupplied : ¬c.supply.state.drives = true) :
    c.ramped = { c with motion := { c.motion with block := c.motion.block.older, rampSense := .steady } } := by
  have keeps : ¬(c.reverses ∧ c.motion.rampedSpeed = 0) := fun ⟨⟨_, drives, _⟩, _⟩ => unsupplied drives
  obtain ⟨-, -, -, supply, -, -, state, -⟩ := c.directed_frame
  have stage := Controller.rampStage_unsupplied (c := c.begun.directionStage) (waiting := c.begun.reversalWaiting)
    (by rwa [state]) (by rwa [supply])
  rw [c.directed_eq.2 keeps] at stage
  rw [Controller.ramped, c.directed_eq.2 keeps]
  exact stage

/-- A period in every other motion state: R is 0 (R55). -/
theorem Controller.ramped_held {c : Controller} (held : c.motion.state.stopped = true ∨ c.motion.state.isCalibrating = true) :
    c.ramped
      = { c.begun.directionStage with motion := { c.begun.directionStage.motion with ramp := 0, rampSense := .steady } } := by
  obtain ⟨-, -, -, -, -, -, state, -⟩ := c.directed_frame
  exact Controller.rampStage_held (by rwa [state])

/-! ### The terms as section 3.5 writes them -/

theorem Controller.curveInForce_eq (c : Controller) (step : Nat) :
    c.curveInForce step
      = match (if c.consist.state = .formed ∨ c.consist.state = .broken then c.consist.common else none) with
        | some p => if step = 0 then 0 else p.vmin + (p.vtop - p.vmin) * (step - 1) / 95
        | none => ownCurve c.settings.curve step := by
  unfold Controller.curveInForce
  rw [ConsistUnit.commonInForce_eq]
  rfl

theorem LocoEntry.fresh_eq (e : LocoEntry) : e.fresh = e.statusAge.any (· < 10) := by
  unfold LocoEntry.fresh
  cases e.statusAge <;> rfl

/-- A field of another member's fresh STATUS (R13). -/
theorem Controller.freshStatus_bind {α : Type} (c : Controller) (address : Nat) (f : StatusFields → Option α) :
    (c.freshStatus address).bind f
      = (locoEntry address c.air.peers).bind fun e => if e.statusAge.any (· < 10) = true then e.status.bind f else none := by
  unfold Controller.freshStatus
  cases locoEntry address c.air.peers with
  | none => rfl
  | some e =>
    simp only [Option.bind_some, LocoEntry.fresh_eq]
    split <;> rfl

theorem Controller.membersCaps_eq (c : Controller) :
    c.membersCaps
      = if c.consist.state = .formed ∧ (∃ p, c.consist.common = some p ∧ p.capShare = true) then
          c.consist.others.filterMap fun o =>
            (locoEntry o.address c.air.peers).bind fun e =>
              if e.statusAge.any (· < 10) = true then e.status.bind (·.cap) else none
        else [] := by
  unfold Controller.membersCaps
  simp only [Controller.freshStatus_bind]

theorem ConsistUnit.stopCap_iff (k : ConsistUnit) :
    k.stopCap = true ↔ k.state = .broken ∨ k.consistFault = true ∨ k.signalLossStop = true := by
  simp [ConsistUnit.stopCap, or_assoc]

theorem ConsistUnit.topSpeed_eq (k : ConsistUnit) :
    k.topSpeed = if k.state = .formed then k.common.map (·.vtop) else none := by
  unfold ConsistUnit.topSpeed
  split
  · next formed => rw [if_pos formed]
  · next other => rw [if_neg other]

theorem Controller.ratesInForce_eq (c : Controller) :
    c.ratesInForce
      = (shuntRate c.shuntLevel ((c.consist.commonInForce.map (·.accel)).getD c.settings.accel),
          shuntRate c.shuntLevel ((c.consist.commonInForce.map (·.decel)).getD c.settings.decel)) := by
  unfold Controller.ratesInForce
  cases c.consist.commonInForce <;> rfl

theorem BlockRecord.older_eq (b : BlockRecord) :
    b.older = { b with age := if b.markerAddress.isSome = true then min 2000 (b.age + 1) else b.age } := by
  unfold BlockRecord.older
  split <;> rfl

/-- What a period publishes of the ramp is what its ramp stage has formed. -/
theorem Controller.controlPeriod_ramped (bemf current : Nat) (c : Controller) :
    (c.controlPeriod bemf current).motion.travel = c.ramped.motion.travel ∧
      (c.controlPeriod bemf current).motion.ramp = c.ramped.motion.ramp ∧
      (c.controlPeriod bemf current).motion.rampSense = c.ramped.motion.rampSense ∧
      (c.controlPeriod bemf current).motion.state = c.ramped.motion.state ∧
      (c.controlPeriod bemf current).sound = c.ramped.sound := by
  have sense : (c.controlPeriod bemf current).motion.rampSense = c.ramped.motion.rampSense := by
    rw [Controller.controlPeriod_motion]
    unfold Controller.labourStage Controller.calibrationStage
    split <;> rfl
  refine ⟨by simp [Controller.controlPeriod_motion, Controller.limited], by simp [Controller.controlPeriod_motion], sense,
    by simp [Controller.controlPeriod_motion], ?_⟩
  rw [Controller.controlPeriod_published, Controller.judgeRenegotiation_shape]
  exact congrArg (·.sound) (c.published_eq bemf current)

/-- It is 0 while a reversal waits, and else the least of the terms. -/
theorem Controller.periodTarget_least {c : Controller} (free : c.motion.state = .idle ∨ c.motion.state = .moving) :
    (c.reverses ∧ 0 < c.motion.rampedSpeed → c.periodTarget = 0) ∧
      (¬(c.reverses ∧ 0 < c.motion.rampedSpeed) →
        c.periodTarget ∈ c.begun.targetTerms ∧ ∀ term ∈ c.begun.targetTerms, c.periodTarget ≤ term) := by
  obtain ⟨settings, command, consist, -, block, peers, state, -⟩ := c.directed_frame
  have waiting : c.begun.reversalWaiting = true ↔ c.reverses ∧ 0 < c.motion.rampedSpeed := c.begun.reversalWaiting_iff
  unfold Controller.periodTarget
  refine ⟨fun waits => ?_, fun goes => ?_⟩
  · rw [waiting.mpr waits, Controller.effectiveTarget_waiting]
  · rw [Bool.eq_false_iff.mpr (mt waiting.mp goes),
      ← Controller.targetTerms_congr (c := c.begun) settings command consist block peers]
    exact Controller.effectiveTarget_least (state ▸ free)

/-- Settles O43: the direction stage by its two cases, then the ramp stage by motion state and supply. -/
theorem theRampFollowsTheEffectiveTarget : Obligations.TheRampFollowsTheEffectiveTarget := by
  intro s bemf sum started common curve commandTarget age markerCap membersCaps stopCap topSpeed terms rate demanded supplied
    compared turns waits turned
  let c := s.toController
  have commonInForce : c.consist.commonInForce = common := ConsistUnit.commonInForce_eq _
  have curve_eq (step : Nat) : c.begun.curveInForce step = curve step := Controller.curveInForce_eq ..
  have aspect : c.begun.motion.block.effectiveAspect = (if 2000 ≤ age then Aspect.unknown else s.motion.block.aspect) := by
    show s.motion.block.older.effectiveAspect = _
    rw [BlockRecord.older_eq]
    rfl
  have marker_eq : c.begun.markerCap.toList = markerCap := by
    show (if s.settings.markerUse = true then _ else none).toList = if s.settings.markerUse = false then [] else _
    rw [aspect]
    generalize (if 2000 ≤ age then Aspect.unknown else s.motion.block.aspect) = a
    cases s.settings.markerUse with
    | false => rfl
    | true =>
      cases a with
      | clear | stop => rfl
      | caution => exact congrArg ([·]) ((curve_eq _).trans (congrArg (curve ·.capStep) s.motion.block.older_eq))
      | restrict | unknown => exact congrArg ([·]) (curve_eq _)
  have command_eq : c.begun.commandTarget = commandTarget := by
    unfold Controller.commandTarget
    simp only [curve_eq]
    rfl
  have members_eq : c.begun.membersCaps = membersCaps := by
    rw [Controller.membersCaps_eq]
    refine if_congr (and_congr_right fun formed => ?_) rfl rfl
    rw [show common = s.consist.common from if_pos (.inl formed)]
    exact Iff.rfl
  have stop_eq : (if c.begun.consist.stopCap = true then [0] else []) = stopCap := if_congr (ConsistUnit.stopCap_iff _) rfl rfl
  have top_eq : c.begun.consist.topSpeed.toList = topSpeed := by
    rw [ConsistUnit.topSpeed_eq]
    show (if s.consist.state = .formed then _ else none).toList = if s.consist.state = .formed then _ else []
    split
    · next formed =>
      rw [show common = s.consist.common from if_pos (.inl formed)]
      rfl
    · rfl
  have terms_eq : c.begun.targetTerms = terms := by
    rw [Controller.targetTerms, command_eq, marker_eq, members_eq, stop_eq, top_eq]
  have drives_iff : c.supply.state.drives = true ↔ supplied := SupplyState.drives_iff _
  have demanded_eq : c.demandedDirection = demanded := Controller.demandedDirection_eq _
  have reverses_iff : c.reverses ↔ compared := by
    unfold Controller.reverses
    rw [drives_iff, demanded_eq]
  have turns_iff : c.reverses ∧ c.motion.rampedSpeed = 0 ↔ turns := and_congr_left fun _ => reverses_iff
  have waits_iff : c.reverses ∧ 0 < c.motion.rampedSpeed ↔ waits := and_congr_left fun _ => reverses_iff
  have turned_eq : c.begun.directionStage.sound = turned :=
    Controller.ramped_sound turned (fun turning => if_pos (turns_iff.mp turning)) (fun keeps => if_neg (mt turns_iff.mpr keeps))
  obtain ⟨travel, ramp, sense, state, sound⟩ := c.controlPeriod_ramped bemf.val (sum.val / 92)
  refine ⟨_, exec_controlPeriod started bemf sum, travel.trans ?_, ?_, ?_, ?_, ?_⟩
  · by_cases turning : turns
    · rw [if_pos turning, (c.ramped_reversal.1 (turns_iff.mpr turning)).2, demanded_eq]
    · rw [if_neg turning, (c.ramped_reversal.2 (mt turns_iff.mp turning)).2]
  · intro turning
    rw [Controller.controlPeriod_published]
    refine Controller.judgeRenegotiation_requested ?_
    rw [Controller.published_eq, (c.ramped_reversal.1 (turns_iff.mpr turning)).1]
    exact TxSlot.file_requested _
  · intro free supplies
    have departs := Controller.ramped_free (c := c) free (drives_iff.mpr supplies)
    obtain ⟨waiting, least⟩ := Controller.periodTarget_least (c := c) free
    obtain ⟨-, -, -, -, -, -, directed, -⟩ := c.directed_frame
    have moved : c.ramped.motion.ramp = c.periodRamp := congrArg (·.motion.ramp) departs.shape
    have sensed : c.ramped.motion.rampSense = senseOf c.motion.ramp c.periodRamp := congrArg (·.motion.rampSense) departs.shape
    rw [ramp, sense, state, sound, sensed, moved]
    refine ⟨c.periodTarget, fun waits => waiting (waits_iff.mpr waits), fun goes => ?_, ?_, rfl, ?_, ?_⟩
    · exact terms_eq ▸ least (mt waits_iff.mp goes)
    · have rates := c.ratesInForce_eq
      rw [commonInForce] at rates
      rw [Controller.periodRamp, rates]
      rfl
    · exact directed ▸ departs.state
    · exact turned_eq ▸ departs.sound
  · intro free unsupplied
    rw [ramp, sense, state, sound, Controller.ramped_unsupplied (c := c) free (mt drives_iff.mp unsupplied)]
    exact ⟨rfl, rfl, rfl, rfl⟩
  · intro held
    obtain ⟨-, -, -, -, -, -, directed, -⟩ := c.directed_frame
    rw [ramp, sense, state, sound, Controller.ramped_held (c := c) held]
    exact ⟨rfl, rfl, directed, turned_eq⟩

end Sys2Proof.Machine
end

section
/-! PROOFS. CONTROL_PERIOD: measurement, setpoint, regulation, limits, calibration, labour (R63 to R77, R115). -/

namespace Sys2Proof.Machine

/-! ### The Motion Unit of a period, field by field -/

section
variable {c : Controller} {bemf current : Nat}

/-- The part as the measurement stage of a period leaves it. -/
def Controller.measured (bemf : Nat) (c : Controller) : Controller := c.ramped.measurementStage bemf

/-- What measurement, limits, calibration and labour stages publish, over what the ramp stage has formed. -/
theorem Controller.controlPeriod_motion_shape (bemf current : Nat) (c : Controller) :
    (c.controlPeriod bemf current).motion
      = { c.ramped.motion with
          bemf := bemf
          measuredSpeed := measuredSpeed c.motion.inForce.kbs bemf
          setpoint := c.ramped.setpointOf
          periodCurrent := current
          filteredCurrent := filterCurrent c.motion.filteredCurrent current
          integrator := (c.measured bemf).regulationStage.integrator
          duty := limitDuty c.settings.dutyCap c.motion.duty
            (c.settings.currentLimit < filterCurrent c.motion.filteredCurrent current) (c.measured bemf).regulationStage.rawDuty
          stallCount := nextStallCount c.settings.stallDuty (c.controlPeriod bemf current).motion.duty
            (measuredSpeed c.motion.inForce.kbs bemf) c.motion.stallCount
          calibration := (c.limited bemf current).calibrationStage.motion.calibration
          labour := (c.controlPeriod bemf current).motion.labour } := by
  have calibrated (d : Controller) : d.calibrationStage.motion = { d.motion with calibration := d.calibrationStage.motion.calibration } := by
    unfold Controller.calibrationStage
    split <;> rfl
  have kept := c.ramped_shape
  have inForce : c.ramped.motion.inForce = c.motion.inForce := congrArg (·.motion.inForce) kept
  have filtered : c.ramped.motion.filteredCurrent = c.motion.filteredCurrent := congrArg (·.motion.filteredCurrent) kept
  have duty : c.ramped.motion.duty = c.motion.duty := congrArg (·.motion.duty) kept
  have stall : c.ramped.motion.stallCount = c.motion.stallCount := congrArg (·.motion.stallCount) kept
  have settings : c.ramped.settings = c.settings := congrArg (·.settings) kept
  rw [Controller.controlPeriod_motion, ← inForce, ← filtered, ← duty, ← stall, ← settings]
  unfold Controller.labourStage
  simp only [Controller.onMotion]
  rw [calibrated]
  rfl

end

/-! ### The setpoint (R64, R115) -/

/-- The loads that the other members report (R115). -/
def Controller.othersLoads (c : Controller) : List Nat :=
  c.consist.others.filterMap fun o =>
    (locoEntry o.address c.air.peers).bind fun e =>
      if e.statusAge.any (· < 10) = true then e.status.map (·.load) else none

theorem Controller.othersLoads_eq (c : Controller) :
    (c.consist.others.filterMap fun o => (c.freshStatus o.address).map (·.load)) = c.othersLoads := by
  unfold Controller.othersLoads
  simp only [Option.map_eq_bind, Controller.freshStatus_bind]

/-- The load-share trim of a locomotive that moves (R115). -/
theorem Controller.trim_eq {c : Controller} (above : 0 < c.motion.rampedSpeed) :
    c.trim
      = if c.consist.state = .formed ∧ (∃ p, c.consist.common = some p ∧ p.loadShare = true) ∧ c.othersLoads ≠ [] then
          max (-(c.settings.trimMax : Int))
            (min
              (Int.tdiv
                ((((c.motion.load + c.othersLoads.sum) / (c.othersLoads.length + 1) : Nat) - (c.motion.load : Int))
                  * c.settings.shareGain) 16)
              c.settings.trimMax)
        else 0 := by
  have trims (loads : List Nat) (own : Nat) :
      trimOf c.settings.shareGain c.settings.trimMax own loads
        = if loads ≠ [] then
            max (-(c.settings.trimMax : Int))
              (min (Int.tdiv ((((own + loads.sum) / (loads.length + 1) : Nat) - (own : Int)) * c.settings.shareGain) 16)
                c.settings.trimMax)
          else 0 := by
    unfold trimOf
    by_cases empty : loads = []
    · rw [if_pos empty, if_neg (not_not.mpr empty)]
    · rw [if_neg empty, if_pos empty]
      rfl
  by_cases formed : c.consist.state = .formed
  · cases common : c.consist.common with
    | none => simp [Controller.trim, formed, common]
    | some p =>
      cases shares : p.loadShare with
      | false => simp [Controller.trim, formed, common, shares]
      | true =>
        have trim : c.trim = trimOf c.settings.shareGain c.settings.trimMax c.motion.load c.othersLoads := by
          rw [← Controller.othersLoads_eq]
          simp [Controller.trim, formed, common, shares, above]
        rw [trim, trims]
        refine if_congr ?_ rfl rfl
        simp [formed, shares]
  · rw [if_neg fun shares => formed shares.1]
    unfold Controller.trim
    split
    · next state _ => exact absurd state formed
    · rfl

theorem Controller.othersLoads_congr {c d : Controller} (consist : d.consist = c.consist)
    (peers : d.air.peers = c.air.peers) : d.othersLoads = c.othersLoads := by
  unfold Controller.othersLoads
  rw [consist, peers]

/-! ### Regulation (R65 to R67) -/

/-- A stopped part, a calibration that stores, and a supply or setpoint without a drive give no raw duty, and I is 0. -/
theorem Controller.regulationStage_off {c : Controller}
    (off : c.motion.state.stopped = true ∨ c.motion.state = .calibrating .store ∨
      (c.motion.state.isCalibrating = false ∧ (c.supply.state.drives = false ∨ c.motion.setpoint = 0))) :
    c.regulationStage = { integrator := 0, rawDuty := none } := by
  unfold Controller.regulationStage
  cases state : c.motion.state with
  | eStopped | faulted => rfl
  | calibrating phase =>
    simp only [state, MotionState.stopped, MotionState.isCalibrating] at off
    cases phase with
    | store => rfl
    | spinup | measure => simp at off
  | idle | moving =>
    simp only [state, MotionState.stopped, MotionState.isCalibrating, reduceCtorEq, false_or, true_and] at off
    rcases off with undriven | zero
    · simp [undriven]
    · simp [regulator, zero]

theorem Controller.regulationStage_free {c : Controller} (free : c.motion.state = .idle ∨ c.motion.state = .moving)
    (drives : c.supply.state.drives = true) :
    c.regulationStage
      = regulator c.settings c.motion.inForce.kff c.motion.duty c.motion.setpoint c.motion.measuredSpeed c.motion.integrator := by
  unfold Controller.regulationStage
  rcases free with free | free <;> simp [free, drives]

theorem Controller.regulationStage_calibrating {c : Controller} {phase : CalPhase} {r : CalRecord}
    (state : c.motion.state = .calibrating phase) (other : phase ≠ .store) (record : c.motion.calibration = some r) :
    c.regulationStage = { integrator := 0, rawDuty := some (r.dcal : Int) } := by
  unfold Controller.regulationStage
  rw [state, record]
  cases phase with
  | store => exact absurd rfl other
  | spinup | measure => rfl

/-- The duty of a raw duty: within the duty cap, and under the foldback ceiling (R69, R70). -/
theorem limitDuty_some (dutyCap previous : Nat) (folding : Bool) (raw : Int) :
    (limitDuty dutyCap previous folding (some raw) : Int)
      = if folding = true then min (max 0 (min raw dutyCap)) ((previous - 16 : Nat) : Int) else max 0 (min raw dutyCap) := by
  have within : (((max 0 (min raw dutyCap)).toNat : Nat) : Int) = max 0 (min raw dutyCap) := Int.toNat_of_nonneg (le_max_left ..)
  unfold limitDuty foldback clampInt
  cases folding with
  | false => exact within
  | true =>
    show ((min (max 0 (min raw dutyCap)).toNat (previous - 16) : Nat) : Int) = min _ _
    rw [← within, Nat.cast_min]
    simp

/-- The filtered current never falls below 0 (R68). -/
theorem filterCurrent_eq (filtered current : Nat) :
    (filterCurrent filtered current : Int) = filtered + Int.tdiv ((current : Int) - filtered) 8 := by
  refine Int.toNat_of_nonneg ?_
  have bounded : -(filtered : Int) ≤ Int.tdiv ((current : Int) - filtered) 8 := by
    rcases Int.le_total 0 ((current : Int) - filtered) with rises | falls
    · have := Int.tdiv_nonneg rises (show (0 : Int) ≤ 8 by decide)
      omega
    · have mirrored : Int.tdiv ((current : Int) - filtered) 8 = -(((filtered : Int) - current) / 8) := by
        rw [← Int.tdiv_eq_ediv_of_nonneg (by omega), ← Int.neg_tdiv, Int.neg_sub]
      omega
  omega

/-- The labour level from load and level, with hysteresis (R74). -/
theorem labourFromLoad_eq (light heavy load : Nat) (level : LabourLevel) :
    labourFromLoad light heavy load level
      = if load ≤ (if level = .light then light + 8 else light) then .light
        else if heavy ≤ (if level = .heavy then load + 8 else load) then .heavy
        else .working := by
  cases level <;> rfl

/-! ### The Motion Unit of a period, case by case -/

section
variable {c : Controller} {bemf current : Nat}

theorem Controller.ramped_of_free (free : c.motion.state = .idle ∨ c.motion.state = .moving) :
    c.ramped.motion.state = .idle ∨ c.ramped.motion.state = .moving := by
  obtain same | ⟨-, moves⟩ := Controller.DriveSafe.ramped_state c
  · rwa [same]
  · exact moves

theorem Controller.ramped_of_held (held : c.motion.state.stopped = true ∨ c.motion.state.isCalibrating = true) :
    c.ramped.motion.state = c.motion.state := by
  obtain ⟨-, -, -, -, -, -, directed, -⟩ := c.directed_frame
  exact (congrArg (·.motion.state) (Controller.ramped_held held)).trans directed

/-- What the regulation stage of a period goes by. -/
theorem Controller.measured_eq (bemf : Nat) (c : Controller) :
    c.measured bemf
      = { c.ramped with
          motion :=
            { c.ramped.motion with
              bemf := bemf, measuredSpeed := measuredSpeed c.motion.inForce.kbs bemf, setpoint := c.ramped.setpointOf } } := by
  have inForce : c.ramped.motion.inForce = c.motion.inForce := congrArg (·.motion.inForce) c.ramped_shape
  rw [← inForce]
  rfl

/-- The drive is off: duty and I are 0 (R65). -/
theorem Controller.controlPeriod_off
    (off : c.motion.state.stopped = true ∨ c.motion.state = .calibrating .store ∨
      (c.motion.state.isCalibrating = false ∧ (c.supply.state.drives = false ∨ (c.controlPeriod bemf current).motion.setpoint = 0))) :
    (c.controlPeriod bemf current).motion.duty = 0 ∧ (c.controlPeriod bemf current).motion.integrator = 0 := by
  have shape := c.controlPeriod_motion_shape bemf current
  have supply : (c.measured bemf).supply = c.supply :=
    (congrArg (·.supply) (c.measured_eq bemf)).trans (congrArg (·.supply) c.ramped_shape)
  have none : (c.measured bemf).regulationStage = { integrator := 0, rawDuty := none } := by
    refine Controller.regulationStage_off ?_
    have state : (c.measured bemf).motion.state = c.ramped.motion.state := congrArg (·.motion.state) (c.measured_eq bemf)
    have setpoint : (c.measured bemf).motion.setpoint = (c.controlPeriod bemf current).motion.setpoint :=
      (congrArg (·.motion.setpoint) (c.measured_eq bemf)).trans (congrArg (·.setpoint) shape).symm
    rw [state, setpoint, supply]
    rcases c.motion.state.free_or_held with free | held
    · have moves := Controller.ramped_of_free free
      have free' : c.ramped.motion.state.isCalibrating = false := by rcases moves with h | h <;> rw [h] <;> rfl
      refine .inr (.inr ⟨free', ?_⟩)
      rcases off with stopped | store | ⟨-, rest⟩
      · rcases free with h | h <;> rw [h] at stopped <;> cases stopped
      · rcases free with h | h <;> rw [h] at store <;> cases store
      · exact rest
    · rw [Controller.ramped_of_held held]
      exact off
  rw [congrArg (·.duty) shape, congrArg (·.integrator) shape, none]
  exact ⟨rfl, rfl⟩

/-- The regulator of a period that drives (R66, R67). -/
theorem Controller.controlPeriod_regulates (free : c.motion.state = .idle ∨ c.motion.state = .moving)
    (drives : c.supply.state.drives = true) (above : (c.controlPeriod bemf current).motion.setpoint ≠ 0) :
    let t := (c.controlPeriod bemf current).motion
    let e : Int := (t.setpoint : Int) - t.measuredSpeed
    t.integrator = integrate c.settings.dutyCap c.motion.duty e c.motion.integrator ∧
      t.duty = limitDuty c.settings.dutyCap c.motion.duty (c.settings.currentLimit < t.filteredCurrent)
        (some (((t.setpoint * c.motion.inForce.kff / 4096 : Nat) : Int) + Int.tdiv (e * c.settings.kp) 64
          + Int.tdiv (t.integrator * c.settings.ki) 256)) := by
  have shape := c.controlPeriod_motion_shape bemf current
  have kept := c.ramped_shape
  have regulates : (c.measured bemf).regulationStage
      = regulator c.settings c.motion.inForce.kff c.motion.duty c.ramped.setpointOf (measuredSpeed c.motion.inForce.kbs bemf)
          c.motion.integrator := by
    have settings : c.ramped.settings = c.settings := congrArg (·.settings) kept
    have supply : c.ramped.supply = c.supply := congrArg (·.supply) kept
    have inForce : c.ramped.motion.inForce = c.motion.inForce := congrArg (·.motion.inForce) kept
    have duty : c.ramped.motion.duty = c.motion.duty := congrArg (·.motion.duty) kept
    have integrator : c.ramped.motion.integrator = c.motion.integrator := congrArg (·.motion.integrator) kept
    rw [c.measured_eq bemf]
    refine (Controller.regulationStage_free (by exact Controller.ramped_of_free free) (by rw [supply]; exact drives)).trans ?_
    rw [settings, inForce, duty, integrator]
  have setpoint := congrArg (·.setpoint) shape
  rw [setpoint] at above
  have runs : regulator c.settings c.motion.inForce.kff c.motion.duty c.ramped.setpointOf (measuredSpeed c.motion.inForce.kbs bemf)
      c.motion.integrator = _ := if_neg above
  rw [regulates, runs] at shape
  have measured := congrArg (·.measuredSpeed) shape
  have filtered := congrArg (·.filteredCurrent) shape
  have integrator := congrArg (·.integrator) shape
  have duty := congrArg (·.duty) shape
  dsimp only at setpoint measured filtered integrator duty ⊢
  rw [duty, integrator, setpoint, measured, filtered]
  exact ⟨rfl, rfl⟩

/-- A calibration's duty is that of its record, with I at 0 (R75). -/
theorem Controller.controlPeriod_calibrates {phase : CalPhase} {r : CalRecord} (state : c.motion.state = .calibrating phase)
    (other : phase ≠ .store) (record : c.motion.calibration = some r) :
    (c.controlPeriod bemf current).motion.integrator = 0 ∧
      (c.controlPeriod bemf current).motion.duty
        = limitDuty c.settings.dutyCap c.motion.duty
            (c.settings.currentLimit < (c.controlPeriod bemf current).motion.filteredCurrent) (some (r.dcal : Int)) := by
  have shape := c.controlPeriod_motion_shape bemf current
  have held : c.motion.state.stopped = true ∨ c.motion.state.isCalibrating = true := .inr (by rw [state]; rfl)
  have runs : (c.measured bemf).motion.state = .calibrating phase := by
    rw [c.measured_eq bemf]
    exact (Controller.ramped_of_held held).trans state
  have kept : (c.measured bemf).motion.calibration = some r := by
    rw [c.measured_eq bemf]
    exact (congrArg (·.motion.calibration) c.ramped_shape).trans record
  rw [Controller.regulationStage_calibrating runs other kept] at shape
  have filtered := congrArg (·.filteredCurrent) shape
  dsimp only at filtered
  rw [filtered]
  exact ⟨congrArg (·.integrator) shape, congrArg (·.duty) shape⟩

/-- A period moves the record of a calibration (R75, R76). -/
theorem Controller.controlPeriod_record {phase : CalPhase} (state : c.motion.state = .calibrating phase) :
    (c.controlPeriod bemf current).motion.calibration
      = c.motion.calibration.map
          (CalRecord.period phase bemf c.beat.wheelSpeed (c.controlPeriod bemf current).motion.duty) := by
  have held : c.motion.state.stopped = true ∨ c.motion.state.isCalibrating = true := .inr (by rw [state]; rfl)
  have runs : (c.limited bemf current).motion.state = .calibrating phase :=
    (Controller.ramped_of_held held).trans state
  have beat : c.ramped.beat = c.beat := congrArg (·.beat) c.ramped_shape
  have record : c.ramped.motion.calibration = c.motion.calibration := congrArg (·.motion.calibration) c.ramped_shape
  have duty : (c.controlPeriod bemf current).motion.duty = (c.limited bemf current).motion.duty := by
    simp [Controller.controlPeriod_motion]
  refine (congrArg (·.calibration) (c.controlPeriod_motion_shape bemf current)).trans ?_
  rw [duty, ← record, ← beat]
  dsimp only [Controller.calibrationStage]
  rw [runs]
  rfl

theorem Controller.controlPeriod_uncalibrated (free : c.motion.state.isCalibrating = false) :
    (c.controlPeriod bemf current).motion.calibration = c.motion.calibration := by
  have record : c.ramped.motion.calibration = c.motion.calibration := congrArg (·.motion.calibration) c.ramped_shape
  have other (phase : CalPhase) : (c.limited bemf current).motion.state ≠ .calibrating phase := by
    show c.ramped.motion.state ≠ _
    obtain same | ⟨-, moves⟩ := Controller.DriveSafe.ramped_state c
    · rw [same]
      rintro runs
      rw [runs] at free
      cases free
    · rcases moves with moves | moves <;> rw [moves] <;> simp
  refine (congrArg (·.calibration) (c.controlPeriod_motion_shape bemf current)).trans ?_
  unfold Controller.calibrationStage
  dsimp only
  split
  · next phase runs => exact absurd runs (other phase)
  · exact record

/-- The labour level of a period (R74). -/
theorem Controller.controlPeriod_labour (bemf current : Nat) (c : Controller) :
    let t := (c.controlPeriod bemf current).motion
    t.labour
      = if t.ramp / 16 = 0 ∨ t.rampSense = .falling ∨ t.duty = 0 then .coast
        else labourFromLoad c.settings.lightThreshold c.settings.heavyThreshold (t.filteredCurrent / 4) c.motion.labour := by
  have settings : (c.limited bemf current).calibrationStage.settings = c.settings := by simp [Controller.limited]
  have labour : (c.limited bemf current).calibrationStage.motion.labour = c.motion.labour := by
    have kept : c.ramped.motion.labour = c.motion.labour := congrArg (·.motion.labour) c.ramped_shape
    unfold Controller.calibrationStage
    split <;> exact kept
  rw [Controller.controlPeriod_motion, ← settings, ← labour]
  rfl

end

/-! ### Timers, slots, lights and the consist of a period -/

section
variable {c : Controller} {bemf current : Nat}

/-- Lights that follow a judgement are judged. -/
theorem Controller.LightsFollow.judged {before : LightController} (follows : c.LightsFollow before) : c.LightsJudged := by
  intro k o held
  have outputs := congrArg (·.outputs[k]?) follows
  simp only [List.getElem?_mapIdx] at outputs
  rw [held] at outputs
  obtain ⟨old, -, rfl⟩ := Option.map_eq_some_iff.mp outputs.symm
  cases lit : c.isLit k with
  | false => rfl
  | true =>
    rw [if_pos rfl]
    split
    · assumption
    · rfl

theorem Controller.directed_command (c : Controller) :
    c.begun.directionStage.command = c.command ∧ c.begun.directionStage.air.statusTimer = c.air.statusTimer := by
  obtain ⟨turned, stands⟩ := c.directed_eq
  by_cases turns : c.reverses ∧ c.motion.rampedSpeed = 0
  · rw [turned turns]
    exact ⟨rfl, rfl⟩
  · rw [stands turns]
    exact ⟨rfl, rfl⟩

/-- A period whose v_r neither leaves nor reaches 0 leaves both timers alone. -/
theorem Controller.ramped_rests (rests : c.motion.ramp / 16 = 0 ↔ c.ramped.motion.ramp / 16 = 0) :
    c.ramped.air.statusTimer = c.air.statusTimer ∧ c.ramped.command.parkTimer = c.command.parkTimer := by
  obtain ⟨command, timer⟩ := c.directed_command
  rcases c.motion.state.free_or_held with free | held
  · by_cases drives : c.supply.state.drives = true
    · have departs := Controller.ramped_free free drives
      have ramp : c.ramped.motion.ramp = c.periodRamp := congrArg (·.motion.ramp) departs.shape
      rw [ramp] at rests
      obtain ⟨status, park⟩ := departs.stands (by
        show ¬(c.motion.ramp / 16 = 0 ∧ 0 < c.periodRamp / 16 ∨ 0 < c.motion.ramp / 16 ∧ c.periodRamp / 16 = 0)
        omega)
      exact ⟨status.trans timer, park.trans (congrArg (·.parkTimer) command)⟩
    · rw [Controller.ramped_unsupplied free drives]
      exact ⟨rfl, rfl⟩
  · rw [Controller.ramped_held held]
    exact ⟨timer, congrArg (·.parkTimer) command⟩

/-- A period that changes the motion state cuts the STATUS timer and judges the park timer (R37, R179). -/
theorem Controller.ramped_moves (moves : c.ramped.motion.state ≠ c.motion.state) :
    c.ramped.air.statusTimer = c.air.statusTimer.map (min · c.ramped.statusInterval) ∧
      c.ramped.command.parkTimer
        = if c.ramped.parkConditions = true then some (c.command.parkTimer.getD 0) else none := by
  obtain ⟨command, timer⟩ := c.directed_command
  obtain ⟨-, -, -, -, -, -, state, -⟩ := c.directed_frame
  rcases c.motion.state.free_or_held with free | held
  · by_cases drives : c.supply.state.drives = true
    · have departs := Controller.ramped_free free drives
      obtain ⟨status, park⟩ := departs.timers (by_contra fun calm => moves (by
        obtain ⟨stays, rests⟩ := not_or.mp calm
        rw [departs.state, if_neg stays, if_neg rests]
        exact state))
      dsimp only at status park
      rw [timer] at status
      rw [command] at park
      exact ⟨status, park⟩
    · exact absurd (congrArg (·.motion.state) (Controller.ramped_unsupplied free drives)) moves
  · exact absurd (Controller.ramped_of_held held) moves

/-- The STATUS slot of a period: requested by a reversal alone (R52). -/
theorem Controller.ramped_slot (c : Controller) :
    c.ramped.air.statusSlot = if c.ramped.motion.travel = c.motion.travel then c.air.statusSlot else c.air.statusSlot.file := by
  obtain ⟨turned, stands⟩ := c.ramped_reversal
  by_cases turns : c.reverses ∧ c.motion.rampedSpeed = 0
  · obtain ⟨slot, travel⟩ := turned turns
    obtain ⟨⟨-, -, differs⟩, -⟩ := turns
    rw [slot, travel, if_neg differs]
  · obtain ⟨slot, travel⟩ := stands turns
    rw [slot, travel, if_pos rfl]

theorem Controller.published_follow (bemf current : Nat) (c : Controller) : (c.published bemf current).LightsFollow c.light := by
  have follows := ((c.limited bemf current).calibrationStage.labourStage).judgeLights_follow
  have light : ((c.limited bemf current).calibrationStage.labourStage).light = c.light := by simp [Controller.limited]
  rwa [light] at follows

/-- A period without a renegotiation. -/
theorem Controller.controlPeriod_quiet
    (quiet : c.consist.state ≠ .broken ∨ c.consist.renegotiationPending = false ∨
      0 < (c.controlPeriod bemf current).motion.ramp / 16) :
    c.controlPeriod bemf current = c.published bemf current := by
  have published := c.published_eq bemf current
  have consist : (c.published bemf current).consist = c.consist :=
    (congrArg (·.consist) published).trans (congrArg (·.consist) c.ramped_shape)
  have speed : (c.published bemf current).motion.rampedSpeed = (c.controlPeriod bemf current).motion.ramp / 16 :=
    congrArg (·.motion.rampedSpeed) published
  refine (c.controlPeriod_published bemf current).trans (if_neg ?_)
  rw [consist, speed]
  rintro ⟨broken, pending, still⟩
  rcases quiet with other | none | above
  · exact other broken
  · rw [none] at pending
    cases pending
  · omega

/-- A period at standstill with a renegotiation pending (R109). -/
theorem Controller.controlPeriod_renegotiates {m : Membership} (broken : c.consist.state = .broken)
    (pending : c.consist.renegotiationPending = true) (held : c.consist.membership = some m)
    (still : (c.controlPeriod bemf current).motion.ramp / 16 = 0) :
    ∃ light, c.controlPeriod bemf current = (c.published bemf current).restated (c.consist.renegotiated m) light ∧
      (c.controlPeriod bemf current).LightsJudged := by
  have published := c.published_eq bemf current
  have consist : (c.published bemf current).consist = c.consist :=
    (congrArg (·.consist) published).trans (congrArg (·.consist) c.ramped_shape)
  have speed : (c.published bemf current).motion.rampedSpeed = (c.controlPeriod bemf current).motion.ramp / 16 :=
    congrArg (·.motion.rampedSpeed) published
  have renegotiates : c.controlPeriod bemf current = (c.published bemf current).renegotiate := by
    refine (c.controlPeriod_published bemf current).trans (if_pos ?_)
    rw [consist, speed]
    exact ⟨broken, pending, still⟩
  obtain ⟨outcome, follows⟩ := Controller.renegotiate_eq (c := c.published bemf current) (m := m) (by rw [consist, held])
  rw [consist] at outcome
  rw [renegotiates]
  exact ⟨_, outcome, follows.judged⟩

/-- All that a period can touch (R43). -/
theorem Controller.controlPeriod_shape (bemf current : Nat) (c : Controller) :
    c.controlPeriod bemf current
      = { c with
          air :=
            { c.air with
              joinSlot := (c.controlPeriod bemf current).air.joinSlot
              statusSlot := (c.controlPeriod bemf current).air.statusSlot
              statusTimer := (c.controlPeriod bemf current).air.statusTimer }
          command :=
            { c.command with
              parkTimer := (c.controlPeriod bemf current).command.parkTimer
              commandedStep := (c.controlPeriod bemf current).command.commandedStep }
          motion := (c.controlPeriod bemf current).motion, consist := (c.controlPeriod bemf current).consist
          sound := (c.controlPeriod bemf current).sound, light := (c.controlPeriod bemf current).light } := by
  have judged := (c.published bemf current).judgeRenegotiation_shape
  have published := c.published_eq bemf current
  have ramped := c.ramped_shape
  rw [← c.controlPeriod_published] at judged
  generalize c.controlPeriod bemf current = t at *
  generalize c.published bemf current = p at *
  generalize c.ramped = r at *
  rw [judged, published, ramped]

/-- The filtered current of a period (R68). -/
theorem Controller.controlPeriod_filtered (bemf current : Nat) (c : Controller) :
    let t := (c.controlPeriod bemf current).motion
    (t.filteredCurrent : Int)
      = c.motion.filteredCurrent + Int.tdiv ((t.periodCurrent : Int) - c.motion.filteredCurrent) 8 := by
  have shape := c.controlPeriod_motion_shape bemf current
  have filtered := congrArg (·.filteredCurrent) shape
  have measured := congrArg (·.periodCurrent) shape
  dsimp only at filtered measured ⊢
  rw [filtered, measured]
  exact filterCurrent_eq ..

/-- The stall count of a period (R73). -/
theorem Controller.controlPeriod_stall (bemf current : Nat) (c : Controller) :
    let t := (c.controlPeriod bemf current).motion
    t.stallCount
      = if c.settings.stallDuty ≤ t.duty ∧ t.measuredSpeed < 40 then min 400 (c.motion.stallCount + 1) else 0 := by
  have shape := c.controlPeriod_motion_shape bemf current
  have count := congrArg (·.stallCount) shape
  have measured := congrArg (·.measuredSpeed) shape
  dsimp only at count measured ⊢
  rw [count, measured]
  rfl

/-- The setpoint of a period (R64, R115). -/
theorem Controller.controlPeriod_setpoint (bemf current : Nat) (c : Controller) :
    let t := (c.controlPeriod bemf current).motion
    let own := c.motion.load
    let shares := c.consist.state = .formed ∧ (∃ p, c.consist.common = some p ∧ p.loadShare = true) ∧ c.othersLoads ≠ []
    let trim : Int :=
      if shares then
        max (-(c.settings.trimMax : Int))
          (min
            (Int.tdiv ((((own + c.othersLoads.sum) / (c.othersLoads.length + 1) : Nat) - (own : Int)) * c.settings.shareGain) 16)
            c.settings.trimMax)
      else 0
    t.setpoint = if t.ramp / 16 = 0 then 0 else (max 0 (min (((t.ramp / 16 : Nat) : Int) + trim) 4095)).toNat := by
  intro t own shares trim
  have shape := c.controlPeriod_motion_shape bemf current
  have kept := c.ramped_shape
  have ramp : t.ramp = c.ramped.motion.ramp := congrArg (·.ramp) shape
  rw [show t.setpoint = c.ramped.setpointOf from congrArg (·.setpoint) shape, ramp]
  show (if c.ramped.motion.ramp / 16 = 0 then 0 else _) = _
  split
  · rfl
  · next moves =>
    have settings : c.ramped.settings = c.settings := congrArg (·.settings) kept
    have consist : c.ramped.consist = c.consist := congrArg (·.consist) kept
    have load : c.ramped.motion.load = c.motion.load := congrArg (·.motion.load) kept
    have loads : c.ramped.othersLoads = c.othersLoads := Controller.othersLoads_congr consist (congrArg (·.air.peers) kept)
    have trims : c.ramped.trim = trim := by
      rw [Controller.trim_eq (Nat.pos_of_ne_zero moves), settings, consist, load, loads]
    rw [trims]
    rfl

/-- Timers and slots of a period without a renegotiation: those that its first stages have left. -/
theorem Controller.published_air (bemf current : Nat) (c : Controller) :
    (c.published bemf current).air = c.ramped.air ∧ (c.published bemf current).command = c.ramped.command ∧
      (c.published bemf current).statusInterval = c.ramped.statusInterval ∧
      (c.published bemf current).parkConditions = c.ramped.parkConditions := by
  have published := c.published_eq bemf current
  have state : (c.published bemf current).motion.state = c.ramped.motion.state :=
    (congrArg (·.motion.state) published).trans (c.controlPeriod_ramped bemf current).2.2.2.1
  have command := congrArg (·.command) published
  have consist := congrArg (·.consist) published
  exact ⟨congrArg (·.air) published, command,
    Controller.statusInterval_congr (congrArg (·.partMode) command) (congrArg (·.state) consist) state,
    Controller.parkConditions_congr (congrArg (·.partMode) command) (congrArg (·.state) consist) state
      (congrArg (·.settings) published)⟩

end

/-- Settles O44: what each stage publishes, by the motion state before the period. -/
theorem theControlPeriodRegulatesTheMotor : Obligations.TheControlPeriodRegulatesTheMotor := by
  intro s bemf sum started filed
  let c := s.toController
  have shape := c.controlPeriod_motion_shape bemf.val (sum.val / 92)
  have kept := c.ramped_shape
  have published := c.published_eq bemf.val (sum.val / 92)
  refine ⟨_, exec_controlPeriod started bemf sum, ?_, fun quiet => ?_, fun m broken pending held still => ?_,
    congrArg (·.bemf) shape, congrArg (·.measuredSpeed) shape, congrArg (·.periodCurrent) shape, ?_, ?_, ?_, ?_, ?_, ?_, ?_, ?_, ?_,
    ?_, ?_⟩
  · have whole := c.controlPeriod_shape bemf.val (sum.val / 92)
    generalize c.controlPeriod bemf.val (sum.val / 92) = t at *
    exact congrArg (State.mk · s.pending) whole
  · have whole := Controller.controlPeriod_quiet (c := c) quiet
    obtain ⟨air, command, interval, conditions⟩ := c.published_air bemf.val (sum.val / 92)
    have follows := c.published_follow bemf.val (sum.val / 92)
    obtain ⟨travel, ramp, -, state, -⟩ := c.controlPeriod_ramped bemf.val (sum.val / 92)
    rw [← whole] at air command interval conditions follows published
    refine ⟨(congrArg (·.consist) published).trans (congrArg (·.consist) kept),
      (congrArg (·.joinSlot) air).trans (congrArg (·.air.joinSlot) kept),
      (congrArg (·.commandedStep) command).trans (congrArg (·.command.commandedStep) kept), follows, ?_, fun _ rests => ?_,
      fun moves => ?_⟩
    · have slot := c.ramped_slot
      rw [← travel] at slot
      exact (congrArg (·.statusSlot) air).trans slot
    · obtain ⟨timer, park⟩ := Controller.ramped_rests (c := c) (ramp ▸ rests)
      exact ⟨(congrArg (·.statusTimer) air).trans timer, (congrArg (·.parkTimer) command).trans park⟩
    · obtain ⟨timer, park⟩ := Controller.ramped_moves (c := c) (state ▸ moves)
      rw [← interval] at timer
      rw [← conditions] at park
      refine ⟨(congrArg (·.statusTimer) air).trans timer, (congrArg (·.parkTimer) command).trans (park.trans ?_)⟩
      refine if_congr ((Controller.parkConditions_iff _).trans ?_) rfl rfl
      have mode : (c.controlPeriod bemf.val (sum.val / 92)).command.partMode = s.command.partMode :=
        congrArg (·.command.partMode) (c.controlPeriod_shape ..)
      have consist : (c.controlPeriod bemf.val (sum.val / 92)).consist = s.consist :=
        (congrArg (·.consist) published).trans (congrArg (·.consist) kept)
      rw [mode, consist, congrArg (·.settings) (c.controlPeriod_shape bemf.val (sum.val / 92))]
  · obtain ⟨light, outcome, judged⟩ := Controller.controlPeriod_renegotiates (c := c) broken pending held still
    have slot : (c.published bemf.val (sum.val / 92)).air.statusSlot.file = filed := by
      rw [published, c.ramped_slot]
      split
      · rfl
      · exact TxSlot.file_file _
    refine ⟨congrArg (·.consist) outcome, congrArg (·.command.commandedStep) outcome, ?_,
      (congrArg (·.air.statusSlot) outcome).trans slot, judged⟩
    exact (congrArg (·.air.joinSlot.requested) outcome).trans (TxSlot.file_requested _)
  · exact c.controlPeriod_filtered ..
  · exact (congrArg (·.inForce) shape).trans (congrArg (·.motion.inForce) kept)
  · exact (congrArg (·.write) shape).trans (congrArg (·.motion.write) kept)
  · exact (congrArg (·.calDefaultsInForce) shape).trans (congrArg (·.motion.calDefaultsInForce) kept)
  · exact (congrArg (·.block) shape).trans ((congrArg (·.motion.block) kept).trans (BlockRecord.older_eq _))
  · exact c.controlPeriod_setpoint ..
  · intro ceiling e stopped
    have undriven : s.supply.state = .hold ∨ s.supply.state = .settle ↔ c.supply.state.drives = false := by
      show _ ↔ s.supply.state.drives = false
      cases s.supply.state <;> decide
    have limited (raw : Int) := limitDuty_some c.settings.dutyCap c.motion.duty
      (c.settings.currentLimit < (c.controlPeriod bemf.val (sum.val / 92)).motion.filteredCurrent) raw
    simp only [decide_eq_true_eq] at limited
    refine ⟨fun off => ?_, fun on free => ?_, fun phase r state other record => ?_⟩
    · refine Controller.controlPeriod_off (off.imp_right (Or.imp_right (And.imp_right ?_)))
      rintro (hold | settle | zero)
      · exact .inl (undriven.mp (.inl hold))
      · exact .inl (undriven.mp (.inr settle))
      · exact .inr zero
    · obtain ⟨unstopped, others⟩ := not_or.mp on
      obtain ⟨-, rest⟩ := not_or.mp others
      have runs : c.motion.state = .idle ∨ c.motion.state = .moving := by
        rcases c.motion.state.free_or_held with runs | stops | calibrates
        · exact runs
        · exact absurd stops unstopped
        · exact absurd (free.symm.trans calibrates) (by decide)
      have drives : c.supply.state.drives = true := by
        refine Bool.of_not_eq_false fun off => rest ⟨free, ?_⟩
        rw [← or_assoc]
        exact .inl (undriven.mpr off)
      obtain ⟨integrator, duty⟩ := Controller.controlPeriod_regulates (bemf := bemf.val) (current := sum.val / 92) runs drives
        fun zero => rest ⟨free, .inr (.inr zero)⟩
      exact ⟨integrator, (congrArg Nat.cast duty).trans (limited _)⟩
    · obtain ⟨integrator, duty⟩ := Controller.controlPeriod_calibrates (c := c) (bemf := bemf.val) (current := sum.val / 92)
        state other record
      refine ⟨integrator, (congrArg Nat.cast duty).trans ((limited _).trans ?_)⟩
      rw [max_eq_right (le_min (Int.natCast_nonneg _) (Int.natCast_nonneg _))]
  · exact Controller.controlPeriod_uncalibrated
  · intro phase r state record
    refine (Controller.controlPeriod_record (c := c) state).trans ?_
    rw [show c.motion.calibration = some r from record]
    refine congrArg some ?_
    unfold CalRecord.period
    cases phase <;> rfl
  · exact c.controlPeriod_stall ..
  · refine (c.controlPeriod_labour ..).trans (if_congr Iff.rfl rfl ?_)
    exact labourFromLoad_eq ..

end Sys2Proof.Machine
end

section
/-! PROOFS. The Sound Engine: output instants, fills, triggers (R121 to R141). -/

namespace Sys2Proof.Machine

/-! ### Output instants (R133, R134) -/

/-- The sample just taken was the last of the half (R134). -/
def Voice.Last (v : Voice) (id : HalfId) (cur : Playing) : Prop := (v.half id).offset + (v.half id).count ≤ cur.offset + 1

/-- The voice with this half exhausted, and the play position `next`. -/
def Voice.emptied (v : Voice) (id : HalfId) (next : Playing) : Voice :=
  { v.setHalf id HalfBuffer.empty with nextPlay := id.other, current := some next }

/-- The other half waits for a fill of the present generation. -/
def Voice.Awaited (reader : Option Fill) (k : Nat) (v : Voice) (id : HalfId) : Prop :=
  (v.half id.other).state = .filling ∧ reader.any (fun f => f.voice = k ∧ f.tag = v.generation) = true

theorem fillInFlight_iff (reader : Option Fill) (k : Nat) (v : Voice) :
    fillInFlight reader k v = true ↔ reader.any (fun f => f.voice = k ∧ f.tag = v.generation) = true := by
  cases reader <;> simp [fillInFlight]

section
variable {table : ProgramTable} {reader : Option Fill} {k : Nat} {v : Voice} {id : HalfId} {cur : Playing}

theorem Voice.awaited_iff :
    (v.half id.other).state = .filling ∧ fillInFlight reader k v = true ↔ v.Awaited reader k id :=
  and_congr_right fun _ => fillInFlight_iff ..

theorem Voice.takeSample_idle (idle : v.playingHalf = none ∨ v.current = none) : v.takeSample table reader k = (v, false) := by
  unfold Voice.takeSample
  rcases idle with silent | none
  · rw [silent]
  · rw [none]
    cases v.playingHalf <;> rfl

theorem Voice.takeSample_playing (plays : v.playingHalf = some id) (current : v.current = some cur) :
    v.takeSample table reader k
      = if cur.offset + 1 < (v.half id).offset + (v.half id).count then
          ({ v with current := some { cur with offset := cur.offset + 1 } }, false)
        else Voice.afterExhaustion table reader k (v.emptied id cur) cur id.other := by
  have same : v.emptied id cur = { v.setHalf id HalfBuffer.empty with nextPlay := id.other } := by
    rw [Voice.emptied, ← current]
    cases id <;> rfl
  unfold Voice.takeSample
  rw [plays, current, same]

theorem Voice.takeSample_within (plays : v.playingHalf = some id) (current : v.current = some cur) (more : ¬v.Last id cur) :
    v.takeSample table reader k = ({ v with current := some { cur with offset := cur.offset + 1 } }, false) :=
  (Voice.takeSample_playing plays current).trans (if_pos (Nat.lt_of_not_le more))

theorem Voice.takeSample_last (plays : v.playingHalf = some id) (current : v.current = some cur) (last : v.Last id cur) :
    v.takeSample table reader k = Voice.afterExhaustion table reader k (v.emptied id cur) cur id.other :=
  (Voice.takeSample_playing plays current).trans (if_neg (Nat.not_lt_of_le last))

@[simp] theorem Voice.emptied_other (v : Voice) (id : HalfId) (next : Playing) :
    (v.emptied id next).half id.other = v.half id.other := by
  cases id <;> rfl

theorem Voice.emptied_inFlight (reader : Option Fill) (k : Nat) (v : Voice) (id : HalfId) (next : Playing) :
    fillInFlight reader k (v.emptied id next) = fillInFlight reader k v := by
  cases id <;> rfl

/-- The other half is READY: it plays (R134). -/
theorem Voice.afterExhaustion_ready (ready : (v.half id.other).state = .ready) :
    Voice.afterExhaustion table reader k (v.emptied id cur) cur id.other
      = ((v.emptied id { cur with segment := (v.half id.other).segment, offset := (v.half id.other).offset }).setHalf id.other
          { v.half id.other with state := .playing }, false) := by
  unfold Voice.afterExhaustion
  rw [Voice.emptied_other, if_pos ready]
  cases id <;> rfl

/-- A fill for the other half is in flight: underrun (R134). -/
theorem Voice.afterExhaustion_awaited (other : (v.half id.other).state ≠ .ready) (awaited : v.Awaited reader k id) :
    Voice.afterExhaustion table reader k (v.emptied id cur) cur id.other
      = (v.emptied id { cur with segment := (v.half id.other).segment, offset := (v.half id.other).offset }, true) := by
  unfold Voice.afterExhaustion
  rw [Voice.emptied_other, if_neg other, Voice.emptied_inFlight, if_pos (Voice.awaited_iff.mpr awaited)]
  rfl

/-- A fill is still to come: underrun (R134). -/
theorem Voice.afterExhaustion_fetch {segment : Segment} {offset : Nat} (other : (v.half id.other).state ≠ .ready)
    (unawaited : ¬v.Awaited reader k id) (fetch : v.cursor = .fetch segment offset) :
    Voice.afterExhaustion table reader k (v.emptied id cur) cur id.other
      = (v.emptied id { cur with segment := segment, offset := offset }, true) := by
  have cursor : (v.emptied id cur).cursor = .fetch segment offset := by cases id <;> exact fetch
  unfold Voice.afterExhaustion
  rw [Voice.emptied_other, if_neg other, Voice.emptied_inFlight, if_neg (mt Voice.awaited_iff.mp unawaited), cursor]
  dsimp only
  rw [← cursor]
  rfl

/-- Nothing is left of the program: it ends (R131, R134). -/
theorem Voice.afterExhaustion_ended (other : (v.half id.other).state ≠ .ready) (unawaited : ¬v.Awaited reader k id)
    (ended : v.cursor = .ended) :
    Voice.afterExhaustion table reader k (v.emptied id cur) cur id.other
      = (Voice.endProgram table (v.emptied id cur).stack (v.emptied id cur), false) := by
  have cursor : (v.emptied id cur).cursor = .ended := by cases id <;> exact ended
  unfold Voice.afterExhaustion
  rw [Voice.emptied_other, if_neg other, Voice.emptied_inFlight, if_neg (mt Voice.awaited_iff.mp unawaited), cursor]

/-- A voice runs into underrun as it takes the last sample of its half (R134). -/
def Voice.Starved (reader : Option Fill) (k : Nat) (v : Voice) : Prop :=
  ∃ id cur, v.playingHalf = some id ∧ v.current = some cur ∧ v.Last id cur ∧ (v.half id.other).state ≠ .ready ∧
    (v.Awaited reader k id ∨ v.cursor ≠ .ended)

theorem Voice.takeSample_starved_iff (table : ProgramTable) (reader : Option Fill) (k : Nat) (v : Voice) :
    (v.takeSample table reader k).2 = true ↔ v.Starved reader k := by
  cases plays : v.playingHalf with
  | none => simp [Voice.takeSample_idle (.inl plays), Voice.Starved, plays]
  | some id =>
    cases current : v.current with
    | none => simp [Voice.takeSample_idle (.inr current), Voice.Starved, current]
    | some cur =>
      have starved : v.Starved reader k ↔ v.Last id cur ∧ (v.half id.other).state ≠ .ready ∧
          (v.Awaited reader k id ∨ v.cursor ≠ .ended) := by
        simp [Voice.Starved, plays, current]
      rw [starved]
      by_cases last : v.Last id cur
      · rw [Voice.takeSample_last plays current last]
        by_cases ready : (v.half id.other).state = .ready
        · simp [Voice.afterExhaustion_ready ready, ready]
        · by_cases awaited : v.Awaited reader k id
          · simp [Voice.afterExhaustion_awaited ready awaited, last, ready, awaited]
          · cases cursor : v.cursor with
            | fetch segment offset => simp [Voice.afterExhaustion_fetch ready awaited cursor, last, ready]
            | ended => simp [Voice.afterExhaustion_ended ready awaited cursor, awaited]
      · simp [Voice.takeSample_within plays current last, last]

end

/-- What a voice adds to the mixer's sum, before its level (R133, R138). -/
theorem Voice.contribution_gain (table : ProgramTable) (v : Voice) {id : HalfId} {cur : Playing} (plays : v.playingHalf = some id)
    (current : v.current = some cur) :
    v.contribution * (v.gain table : Int)
      = ((v.half id).samples.getD (cur.offset - (v.half id).offset) 0#8).toInt *
          (((lookupProgram table cur.program).map (·.gain)).getD 0 : Nat) := by
  rw [Voice.contribution, Voice.gain, plays, current]

theorem Voice.contribution_idle (v : Voice) (idle : v.playingHalf = none ∨ v.current = none) : v.contribution = 0 := by
  unfold Voice.contribution
  rcases idle with silent | none
  · rw [silent]
  · rw [none]
    cases v.playingHalf <;> rfl

theorem Controller.muted_iff (c : Controller) :
    c.muted = true ↔ 3 ≤ c.supply.shedLevel ∨ c.soundOnLevel = false ∨ c.command.partMode = .start := by
  simp [Controller.muted, or_assoc]

/-- Settles O51: a voice takes its sample by the cases of its half, and the mixer's sum is over the contributions. -/
theorem theMixerSaturatesAndMutes : Obligations.TheMixerSaturatesAndMutes := by
  intro s playing product level total last awaited starved
  have product_eq (v : Voice) : v.contribution * (v.gain s.sound.programs : Int) = product v := by
    show _ = (match playing v, v.current with
      | some id, some cur => _
      | _, _ => _)
    cases plays : v.playingHalf with
    | none => rw [Voice.contribution_idle v (.inl plays), Int.zero_mul, show playing v = none from plays]
    | some id =>
      cases current : v.current with
      | none =>
        rw [Voice.contribution_idle v (.inr current), Int.zero_mul, show playing v = some id from plays]
      | some cur => rw [Voice.contribution_gain _ v plays current, show playing v = some id from plays]
  have total_eq : ((s.sound.voices.map fun v =>
      v.contribution * (v.gain s.sound.programs : Int) * (s.sound.volumeCurve.getD level 0 : Int)).sum) = total := by
    simp only [product_eq]
    rfl
  refine ⟨_, rfl, rfl, fun mutes => if_pos (s.muted_iff.mpr mutes), fun shed sound mode => ?_, ?_, ?_, fun k v held => ?_⟩
  · have sounds : ¬s.muted = true := fun mutes => by
      rcases s.muted_iff.mp mutes with dark | off | start
      · omega
      · rw [off] at sound
        cases sound
      · exact mode start
    exact (if_neg sounds).trans (congrArg (fun n => clampInt (-2048) 2047 (Int.tdiv n 4096)) total_eq)
  · refine ⟨(s.sound.voices.mapIdx fun k v => v.takeSample s.sound.programs s.sound.reader k).map (·.2), by simp,
      fun k v held => ?_, ?_⟩
    · simp only [List.getElem?_map, List.getElem?_mapIdx, held, Option.map_some, Option.some.injEq]
      exact Voice.takeSample_starved_iff ..
    · rw [List.count, List.countP_map]
      refine congrArg (fun n => min 255 (s.counters.soundUnderrun + n)) (List.countP_congr fun pair _ => ?_)
      simp
  · show (List.map _ (List.mapIdx _ _)).length = _
    rw [List.length_map, List.length_mapIdx]
  · have taken : ((s.sound.voices.mapIdx fun k v => v.takeSample s.sound.programs s.sound.reader k).map (·.1))[k]?
        = some (v.takeSample s.sound.programs s.sound.reader k).1 := by
      simp only [List.getElem?_map, List.getElem?_mapIdx, held, Option.map_some]
    refine ⟨_, taken, fun idle => congrArg Prod.fst (Voice.takeSample_idle idle), fun id cur plays current => ?_⟩
    intro emptied other
    refine ⟨fun more => congrArg Prod.fst (Voice.takeSample_within plays current more), fun last ready => ?_,
      fun last unready awaits => ?_, fun last unready unawaited => ⟨fun segment offset fetch => ?_, fun ended => ?_⟩⟩
    · rw [Voice.takeSample_last plays current last, Voice.afterExhaustion_ready ready]
      rfl
    · rw [Voice.takeSample_last plays current last, Voice.afterExhaustion_awaited unready awaits]
      rfl
    · rw [Voice.takeSample_last plays current last, Voice.afterExhaustion_fetch unready unawaited fetch]
      rfl
    · rw [Voice.takeSample_last plays current last, Voice.afterExhaustion_ended unready unawaited ended]
      exact Voice.endProgram_ends _ _ _ rfl

/-! ### The reader (R136, R137) -/

/-- What the arbiter chooses is an eligible voice with what it has left. -/
theorem chooseVoice_chosen {voices : List Voice} {k j n : Nat} (chosen : chooseVoice k voices = some (j, n)) :
    ∃ (i : Nat) (w : Voice), voices[i]? = some w ∧ w.eligible = true ∧ n = w.samplesLeft := by
  induction voices generalizing k with
  | nil => cases chosen
  | cons v rest ih =>
    have later (found : chooseVoice (k + 1) rest = some (j, n)) :
        ∃ (i : Nat) (w : Voice), (v :: rest)[i]? = some w ∧ w.eligible = true ∧ n = w.samplesLeft := by
      obtain ⟨i, w, held, able, left⟩ := ih found
      exact ⟨i + 1, w, held, able, left⟩
    unfold chooseVoice at chosen
    dsimp only at chosen
    split at chosen
    · next able =>
      have first (same : some (k, v.samplesLeft) = some (j, n)) :
          ∃ (i : Nat) (w : Voice), (v :: rest)[i]? = some w ∧ w.eligible = true ∧ n = w.samplesLeft := by
        cases same
        exact ⟨0, v, rfl, able, rfl⟩
      split at chosen
      · next found =>
        split at chosen
        · exact later (found.trans chosen)
        · exact first chosen
      · exact first chosen
    · exact later chosen

/-- The eligible voice with the fewest samples left, the lowest-numbered of several, is chosen (R136). -/
theorem chooseVoice_least {voices : List Voice} {i : Nat} {v : Voice} (k : Nat) (held : voices[i]? = some v)
    (able : v.eligible = true)
    (least : ∀ j w, voices[j]? = some w → w.eligible = true →
      v.samplesLeft < w.samplesLeft ∨ (v.samplesLeft = w.samplesLeft ∧ i ≤ j)) :
    chooseVoice k voices = some (k + i, v.samplesLeft) := by
  induction voices generalizing k i with
  | nil => cases held
  | cons head rest ih =>
    cases i with
    | zero =>
      obtain rfl : head = v := Option.some.inj held
      simp only [chooseVoice, able, if_true]
      cases found : chooseVoice (k + 1) rest with
      | none => rfl
      | some later =>
        obtain ⟨j, n⟩ := later
        obtain ⟨m, w, held', able', rfl⟩ := chooseVoice_chosen found
        have := least (m + 1) w held' able'
        exact if_neg (by omega)
    | succ i =>
      have found := ih (k + 1) held fun j w held' able' => by
        have := least (j + 1) w held' able'
        omega
      have place : k + 1 + i = k + (i + 1) := by omega
      unfold chooseVoice
      rw [found, place]
      dsimp only
      split
      · next headAble =>
        have := least 0 head rfl headAble
        exact if_pos (by omega)
      · rfl

/-- The cursor after a grant of up to 64 samples (R130). -/
theorem Program.cursor_after_grant (p : Program) (repeating : Bool) (segment : Segment) (offset : Nat) :
    (if offset + min 64 (p.segmentLength segment - offset) < p.segmentLength segment then
        Cursor.fetch segment (offset + min 64 (p.segmentLength segment - offset))
      else p.afterSegment repeating segment)
      = if offset + 64 < p.segmentLength segment then .fetch segment (offset + 64) else p.afterSegment repeating segment := by
  by_cases more : offset + 64 < p.segmentLength segment
  · have full : min 64 (p.segmentLength segment - offset) = 64 := by omega
    rw [full]
  · rw [if_neg more, if_neg (by omega)]

theorem Voice.grant_eq {table : ProgramTable} {v : Voice} {cur : Playing} {p : Program} {segment : Segment} {offset : Nat}
    (current : v.current = some cur) (enabled : lookupProgram table cur.program = some p) (cursor : v.cursor = .fetch segment offset) :
    v.grant table
      = { v.setHalf v.nextFill
            { state := .filling, segment := segment, offset := offset
              count := min 64 (p.segmentLength segment - offset), samples := [] } with
          nextFill := v.nextFill.other
          cursor :=
            if offset + 64 < p.segmentLength segment then .fetch segment (offset + 64)
            else p.afterSegment v.repeating segment } := by
  unfold Voice.grant
  rw [current, cursor]
  dsimp only
  rw [enabled]
  dsimp only
  rw [Program.cursor_after_grant]

theorem SoundEngine.grantFill_eq {e : SoundEngine} {k n : Nat} {v : Voice} (free : e.reader = none)
    (chosen : chooseVoice 0 e.voices = some (k, n)) (held : e.voices[k]? = some v) :
    e.grantFill
      = { e with
          voices := e.voices.modify k (Voice.grant e.programs)
          reader := some { voice := k, half := v.nextFill, tag := v.generation } } := by
  unfold SoundEngine.grantFill
  rw [free, chosen]
  dsimp only
  rw [held]
  rfl

theorem filledSamples_length (unread count : Nat) (samples : List Byte) : (filledSamples unread count samples).length = count := by
  simp only [filledSamples, List.length_append, List.length_take, List.length_map, List.length_range]
  omega

/-- The bytes that the store has returned stand first (R137, R177). -/
theorem filledSamples_take (unread count : Nat) (samples : List Byte) :
    (filledSamples unread count samples).take samples.length = samples.take count := by
  rcases Nat.le_total samples.length count with short | long
  · rw [List.take_of_length_le short, filledSamples, List.take_of_length_le short]
    exact List.take_left
  · rw [List.take_of_length_le (by rw [filledSamples_length]; exact long), filledSamples, Nat.sub_eq_zero_of_le long]
    exact List.append_nil _

/-- A completed fill whose tag is stale, and one of the present generation (R137). -/
theorem SoundEngine.completeFill_eq {e : SoundEngine} {f : Fill} {v : Voice} (samples : List Byte) (reader : e.reader = some f)
    (held : e.voices[f.voice]? = some v) :
    (f.tag ≠ v.generation →
      e.completeFill samples
        = { e with voices := e.voices.modify f.voice (·.setHalf f.half HalfBuffer.empty), reader := none }) ∧
    (f.tag = v.generation →
      e.completeFill samples
        = { e with
            voices :=
              e.voices.modify f.voice (·.accept f.half (filledSamples e.unread (v.half f.half).count samples))
            reader := none
            unread := e.unread + ((v.half f.half).count - samples.length) }) := by
  unfold SoundEngine.completeFill
  rw [reader]
  dsimp only
  rw [held]
  exact ⟨fun stale => if_neg stale, fun present => if_pos present⟩

/-- Settles O52: the arbiter's choice and its grant, and the completion of a fill by its tag. -/
theorem theReaderFillsTheHungriestVoice : Obligations.TheReaderFillsTheHungriestVoice := by
  intro s
  refine ⟨fun nothing => ?_, fun k v cur p segment offset free held able least current enabled cursor => ?_,
    fun samples f v reader held => ?_⟩
  · have stands : s.sound.grantFill = s.sound := by
      unfold SoundEngine.grantFill
      rcases nothing with busy | unable
      · obtain ⟨f, reader⟩ := Option.isSome_iff_exists.mp busy
        rw [reader]
      · rw [(chooseVoice_eq_none s.sound.voices 0).mpr unable]
        cases s.sound.reader <;> rfl
    exact State.next_update (d := s.toController) (congrArg (fun e => ({ s.toController with sound := e } : Controller)) stands)
  · intro length granted next
    have chosen : chooseVoice 0 s.sound.voices = some (k, v.samplesLeft) := by
      rw [chooseVoice_least 0 held able least, Nat.zero_add]
    have length_eq : p.segmentLength segment = length := by cases segment <;> rfl
    have next_eq : p.afterSegment v.repeating segment = next := by cases segment <;> rfl
    have grants := Voice.grant_eq current enabled cursor
    rw [length_eq, next_eq] at grants
    refine ⟨_, State.next_update (congrArg (fun e => ({ s.toController with sound := e } : Controller))
      (SoundEngine.grantFill_eq free chosen held)), rfl, fun j other => List.getElem?_modify_ne _ _ other.symm, ?_⟩
    refine (List.getElem?_modify_eq ..).trans ?_
    rw [held]
    exact congrArg some grants
  · intro h
    obtain ⟨stale, present⟩ := SoundEngine.completeFill_eq samples reader held
    by_cases tag : f.tag = v.generation
    · refine ⟨_, State.next_update (congrArg (fun e => ({ s.toController with sound := e } : Controller)) (present tag)), rfl,
        fun j other => List.getElem?_modify_ne _ _ other.symm, fun other => absurd tag other, fun _ => ?_⟩
      refine ⟨_, filledSamples_length s.sound.unread _ samples, filledSamples_take .., rfl, ?_⟩
      refine (List.getElem?_modify_eq ..).trans ?_
      rw [held]
      rfl
    · refine ⟨_, State.next_update (congrArg (fun e => ({ s.toController with sound := e } : Controller)) (stale tag)), rfl,
        fun j other => List.getElem?_modify_ne _ _ other.symm, fun _ => ⟨?_, rfl⟩, fun same => absurd same tag⟩
      refine (List.getElem?_modify_eq ..).trans ?_
      rw [held]
      rfl

/-! ### Triggers (R121 to R129, R141) -/

theorem TriggerOrigin.holds_iff (origin : TriggerOrigin) : origin.holds = true ↔ origin = .function ∨ origin = .ambient := by
  cases origin <;> decide

/-- The voice `w` plays the program of the trigger `t` from its first segment on (R126). -/
def Voice.StartedBy (p : Program) (t : Trigger) (v w : Voice) : Prop :=
  w.current = some { program := t.program, mask := t.priority, segment := p.firstSegment, offset := 0 } ∧
    w.cursor = .fetch p.firstSegment 0 ∧ w.pending = v.pending ∧
    (w.repeating = true ↔ p.loop = true ∧ (t.origin = .function ∨ t.origin = .ambient)) ∧ v.Renewed w

theorem Voice.startProgram_started (p : Program) (t : Trigger) (v : Voice) : v.StartedBy p t (v.startProgram p t) := by
  refine ⟨rfl, rfl, rfl, ?_, v.renew_renewed⟩
  rw [← TriggerOrigin.holds_iff, ← Bool.and_eq_true]
  rfl

/-- A trigger that preempts pushes the program that plays (R127). -/
theorem Voice.push_started {v : Voice} {cur : Playing} (p : Program) (t : Trigger) (current : v.current = some cur) :
    v.StartedBy p t (v.push.startProgram p t) ∧
      (v.push.startProgram p t).stack
        = { program := cur.program, segment := cur.segment, offset := cur.offset, mask := cur.mask,
            repeating := v.repeating, releaseDue := v.letGo && decide (cur.segment ≠ .release) } :: v.stack := by
  have pushes : v.push
      = { v with
          stack :=
            { program := cur.program, segment := cur.segment, offset := cur.offset, mask := cur.mask,
              repeating := v.repeating, releaseDue := v.letGo && decide (cur.segment ≠ .release) } :: v.stack } := by
    have due : (cur.segment != .release) = decide (cur.segment ≠ .release) := by cases cur.segment <;> rfl
    rw [Voice.push, current, ← due]
  rw [pushes]
  exact ⟨Voice.startProgram_started p t _, rfl⟩

/-- A trigger that neither starts nor is dropped waits, unless one of a higher priority waits already (R128). -/
theorem Voice.hold_held (v : Voice) (t : Trigger) :
    (v.pending = none ∨ (∃ h, v.pending = some h ∧ h.priority ≤ t.priority) → v.hold t = { v with pending := some t }) ∧
      ((∃ h, v.pending = some h ∧ t.priority < h.priority) → v.hold t = v) := by
  unfold Voice.hold
  cases pending : v.pending with
  | none => simp
  | some h =>
    refine ⟨fun waits => ?_, fun ⟨other, same, above⟩ => ?_⟩
    · obtain none | ⟨other, same, below⟩ := waits
      · cases none
      · cases same
        exact if_pos below
    · cases same
      exact if_neg (Nat.not_le_of_lt above)

section
variable {p : Program} {t : Trigger} {v : Voice} {cur : Playing}

theorem Voice.judge_idle (idle : v.current = none) : v.judge p t = v.startProgram p t := by
  rw [Voice.judge, idle]

theorem Voice.judge_sounding (current : v.current = some cur) :
    v.judge p t
      = if cur.mask < t.priority then (if v.stack.length < 2 then v.push.startProgram p t else v.hold t)
        else if cur.program = t.program ∧ p.loop = true ∧ v.repeating = true then v
        else if cur.program = t.program ∧ t.origin = .beat then v.startProgram p t
        else v.hold t := by
  rw [Voice.judge, current]

end

/-- A voice stopped at parking (R141). -/
theorem Voice.stop_eq (v : Voice) :
    v.stop
      = { v with
          stack := [], pending := none, current := none
          repeating := v.repeating && v.current.isNone
          letGo := v.letGo && v.current.isNone
          priming := v.priming && v.current.isNone
          cursor := if v.current.isSome = true then .ended else v.cursor
          generation := if v.current.isSome = true then (v.generation + 1) % 65536 else v.generation
          half0 :=
            if v.current.isSome = true ∧ (v.half0.state = .ready ∨ v.half0.state = .playing) then HalfBuffer.empty else v.half0
          half1 :=
            if v.current.isSome = true ∧ (v.half1.state = .ready ∨ v.half1.state = .playing) then HalfBuffer.empty
            else v.half1 } := by
  cases current : v.current <;> simp [Voice.stop, Voice.becomeIdle, current, HalfBuffer.drop_eq]

/-- What a voice becomes as one of its programs is let go of, before it is asked whether anything is left (R129). -/
def Voice.discharged (n : Nat) (v : Voice) : Voice :=
  { v with
    stack := v.stack.map fun r => if r.program = n ∧ r.repeating = true then { r with repeating := false, releaseDue := true } else r
    pending := v.pending.filter fun t => decide (t.program ≠ n) }

/-- Where the cursor of a LOOP goes as it is let go of (R129). -/
def Program.dischargedCursor (p : Program) : Cursor → Cursor
  | .fetch .release offset => .fetch .release offset
  | .ended => .ended
  | .fetch .attack _ => p.releaseCursor
  | .fetch .body _ => p.releaseCursor

/-- The LOOP `n` plays on this voice, and repeats. -/
def Voice.Loops (p : Program) (n : Nat) (v : Voice) : Prop :=
  ∃ cur, v.current = some cur ∧ cur.program = n ∧ p.loop = true ∧ v.repeating = true

/-- The play position apart, letting go of a program is the same for every voice. -/
theorem Voice.release_eq (p : Program) (n : Nat) (v : Voice) :
    (¬v.Loops p n → v.release p n = v.discharged n) ∧
      (v.Loops p n →
        v.release p n
          = { v.discharged n with repeating := false, letGo := true, cursor := p.dischargedCursor v.cursor }) := by
  have pending_eq : v.pending.filter (fun t => decide (t.program ≠ n)) = v.pending.bind fun t => if t.program = n then none else some t := by
    cases v.pending with
    | none => rfl
    | some t => by_cases same : t.program = n <;> simp [Option.filter, same]
  unfold Voice.discharged
  rw [pending_eq]
  obtain ⟨current, repeating, cursor, stack, pending, _⟩ := v
  refine ⟨fun stays => ?_, fun loops => ?_⟩
  · cases current with
    | none => cases pending <;> rfl
    | some cur =>
      have kept : ¬(cur.program = n ∧ p.loop = true ∧ repeating = true) := fun loops => stays ⟨cur, rfl, loops⟩
      simp only [Voice.release, if_neg kept]
      cases pending <;> rfl
  · obtain ⟨cur, held, playing⟩ := loops
    obtain rfl : current = some cur := held
    simp only [Voice.release, if_pos playing]
    cases cursor with
    | ended => cases pending <;> rfl
    | fetch segment offset => cases segment <;> cases pending <;> rfl

/-- Nothing of the program is left to play or to come (R131). -/
theorem Voice.exhausted_iff (reader : Option Fill) (index : Nat) (v : Voice) :
    v.exhausted reader index = true
      ↔ v.current.isSome = true ∧ v.cursor = .ended ∧ v.priming = false ∧
        v.half0.state ≠ .playing ∧ v.half1.state ≠ .playing ∧ v.half0.state ≠ .ready ∧ v.half1.state ≠ .ready ∧
        ∀ f, reader = some f → f.voice = index → f.tag ≠ v.generation := by
  have inFlight : fillInFlight reader index v = false ↔ ∀ f, reader = some f → f.voice = index → f.tag ≠ v.generation := by
    cases reader <;> simp [fillInFlight]
  simp only [Voice.exhausted, Voice.isPlaying, Voice.hasReady, Bool.and_eq_true, Bool.not_eq_true', Bool.or_eq_false_iff,
    beq_eq_false_iff_ne, beq_iff_eq, inFlight]
  constructor
  · rintro ⟨⟨⟨⟨⟨sounding, play0, play1⟩, ready0, ready1⟩, none⟩, ended⟩, primed⟩
    exact ⟨sounding, ended, primed, play0, play1, ready0, ready1, none⟩
  · rintro ⟨sounding, ended, primed, play0, play1, ready0, ready1, none⟩
    exact ⟨⟨⟨⟨⟨sounding, play0, play1⟩, ready0, ready1⟩, none⟩, ended⟩, primed⟩

/-- An enabled program's trigger and its letting go reach its own voice alone (R121, R129). -/
theorem SoundEngine.trigger_enabled {e : SoundEngine} {n : Nat} {p : Program} (enabled : lookupProgram e.programs n = some p)
    (origin : TriggerOrigin) :
    e.trigger (some n) origin
      = { e with
          voices := e.voices.modify p.voice (·.judge p { program := n, priority := p.priority, origin := origin }) } := by
  unfold SoundEngine.trigger
  dsimp only
  rw [enabled]
  rfl

theorem SoundEngine.letGo_enabled {e : SoundEngine} {n : Nat} {p : Program} (enabled : lookupProgram e.programs n = some p) :
    e.letGo (some n)
      = { e with
          voices :=
            e.voices.modify p.voice fun v => (v.release p n).endIfExhausted e.programs e.reader p.voice } := by
  unfold SoundEngine.letGo
  dsimp only
  rw [enabled]
  rfl

theorem SoundEngine.trigger_disabled {e : SoundEngine} {n : Nat} (disabled : lookupProgram e.programs n = none)
    (origin : TriggerOrigin) : e.trigger (some n) origin = e ∧ e.letGo (some n) = e := by
  unfold SoundEngine.trigger SoundEngine.letGo
  dsimp only
  rw [disabled]
  exact ⟨rfl, rfl⟩

/-- Settles O53: the judgement by the rows of R125, letting go by R129 and R131, parking by R141. -/
theorem triggersAreJudgedByTheirVoice : Obligations.TriggersAreJudgedByTheirVoice := by
  intro e n origin
  refine ⟨fun labour phase => ?_, rfl, rfl, rfl, rfl, ?_, rfl, rfl, fun disabled => SoundEngine.trigger_disabled disabled origin,
    fun p v enabled held => ?_⟩
  · cases labour <;> rfl
  · intro stops stopped
    have stops_eq : Voice.stop = stops := funext Voice.stop_eq
    show SoundEngine.letGo { e with voices := e.voices.mapIdx fun k v => if k < 3 then v.stop else v } e.ambient = _
    rw [stops_eq]
  intro e' t started waits loops
  have triggered : e' = _ := SoundEngine.trigger_enabled enabled origin
  refine ⟨⟨by rw [triggered], fun j other => ?_, v.judge p t, ?_, fun idle => ?_, fun cur current => ?_⟩, ?_⟩
  · rw [triggered]
    exact List.getElem?_modify_ne _ _ other.symm
  · rw [triggered]
    exact (List.getElem?_modify_eq ..).trans (congrArg (Option.map _) held)
  · rw [Voice.judge_idle idle]
    exact ⟨Voice.startProgram_started p t v, rfl⟩
  · have judged := Voice.judge_sounding (p := p) (t := t) current
    refine ⟨fun above room => ?_, fun above full => ?_, fun below same loop repeats => ?_, fun below same once beat => ?_,
      fun below other => ?_⟩
    · rw [judged, if_pos above, if_pos room]
      exact Voice.push_started p t current
    · rw [judged, if_pos above, if_neg (Nat.not_lt_of_le full)]
      exact Voice.hold_held v t
    · rw [judged, if_neg (Nat.not_lt_of_le below), if_pos ⟨same, loop, repeats⟩]
    · rw [judged, if_neg (Nat.not_lt_of_le below), if_neg (fun all => once all.2), if_pos ⟨same, beat⟩]
      exact ⟨Voice.startProgram_started p t v, rfl⟩
    · have unlooped : ¬(cur.program = n ∧ p.loop = true ∧ v.repeating = true) := fun ⟨same, looping⟩ =>
        other.elim (· same) (·.1 looping)
      have unbeaten : ¬(cur.program = n ∧ origin = .beat) := fun ⟨same, beat⟩ => other.elim (· same) (·.2 beat)
      rw [judged, if_neg (Nat.not_lt_of_le below), if_neg unlooped, if_neg unbeaten]
      exact Voice.hold_held v t
  · intro gone released
    have freed : gone = _ := SoundEngine.letGo_enabled enabled
    obtain ⟨stays, looses⟩ := Voice.release_eq p n v
    refine ⟨by rw [freed], fun j other => ?_, v.release p n, (v.release p n).endIfExhausted e.programs e.reader p.voice, ?_, stays,
      fun looping => (looses looping).trans ?_, ?_⟩
    · rw [freed]
      exact List.getElem?_modify_ne _ _ other.symm
    · rw [freed]
      exact (List.getElem?_modify_eq ..).trans (congrArg (Option.map _) held)
    · have cursor : p.dischargedCursor v.cursor = (match v.cursor with
          | .fetch .release offset => .fetch .release offset
          | .ended => .ended
          | _ => if p.release.isSome = true then .fetch .release 0 else .ended) := by
        cases v.cursor with
        | ended => rfl
        | fetch segment offset => cases segment <;> rfl
      rw [cursor]
      rfl
    · intro ends
      refine ⟨fun empty => ?_, fun lasts => if_neg (mt (Voice.exhausted_iff ..).mp lasts)⟩
      have exhausted : (v.release p n).exhausted e.reader p.voice = true := (Voice.exhausted_iff ..).mpr empty
      rw [Voice.endIfExhausted, if_pos exhausted]
      exact Voice.endProgram_ends _ _ _ rfl

end Sys2Proof.Machine
end

section
/-! PROOFS. The Light Controller: conditions, levels, effects (R157 to R163). -/

namespace Sys2Proof.Machine

/-! ### Which outputs are lit (R157, R158) -/

theorem directionRuleMet_iff (travel : Direction) (rule : DirectionRule) :
    directionRuleMet travel rule = true ↔ (rule = .forward → travel = .forward) ∧ (rule = .reverse → travel = .reverse) := by
  cases rule <;> simp [directionRuleMet]

theorem roleRuleMet_iff (state : ConsistState) (role : Option Role) (rule : RoleRule) :
    roleRuleMet state role rule = true
      ↔ (rule = .leadOnly → (state = .formed ∨ state = .broken) ∧ role = some .lead) ∧
        (rule = .tailOnly → (state = .formed ∨ state = .broken) ∧ role = some .tail) ∧
        (rule = .notInConsist → ¬(state = .formed ∨ state = .broken)) := by
  cases rule <;> simp [roleRuleMet]

theorem Controller.isLit_iff (c : Controller) (k : Nat) :
    c.isLit k = true ↔
      c.lightsFunctionLevel k = true ∧ c.supply.shedLevel < 4 ∧
        (c.supply.shedLevel < 3 ∨ (c.outputRecord k).essential = true) ∧
        ¬(c.command.partMode = .parked ∧ (c.outputRecord k).parkRule = .off) ∧
        ((c.outputRecord k).directionRule = .forward → c.motion.travel = .forward) ∧
        ((c.outputRecord k).directionRule = .reverse → c.motion.travel = .reverse) ∧
        ((c.outputRecord k).roleRule = .leadOnly →
          (c.consist.state = .formed ∨ c.consist.state = .broken) ∧ c.consist.membership.map (·.role) = some .lead) ∧
        ((c.outputRecord k).roleRule = .tailOnly →
          (c.consist.state = .formed ∨ c.consist.state = .broken) ∧ c.consist.membership.map (·.role) = some .tail) ∧
        ((c.outputRecord k).roleRule = .notInConsist → ¬(c.consist.state = .formed ∨ c.consist.state = .broken)) := by
  have parks : (!(c.command.partMode == .parked && (c.outputRecord k).parkRule == .off)) = true
      ↔ ¬(c.command.partMode = .parked ∧ (c.outputRecord k).parkRule = .off) := by
    simp [imp_iff_not_or]
  simp only [Controller.isLit, Controller.onCondition, Bool.and_eq_true, Bool.or_eq_true, decide_eq_true_eq, parks,
    directionRuleMet_iff, roleRuleMet_iff]
  constructor
  · rintro ⟨⟨⟨⟨⟨function, forward, reverse⟩, lead, tail, alone⟩, below⟩, essential⟩, park⟩
    exact ⟨function, below, essential, park, forward, reverse, lead, tail, alone⟩
  · rintro ⟨function, below, essential, park, forward, reverse, lead, tail, alone⟩
    exact ⟨⟨⟨⟨⟨function, forward, reverse⟩, lead, tail, alone⟩, below⟩, essential⟩, park⟩

theorem Controller.baseLevel_eq (c : Controller) (k : Nat) :
    c.baseLevel k
      = if c.dimLevel = true ∨ 3 ≤ c.supply.shedLevel ∨
            (c.command.partMode = .parked ∧ (c.outputRecord k).parkRule = .dim) then (c.outputRecord k).dimLevel
        else (c.outputRecord k).level := by
  refine if_congr ?_ rfl rfl
  simp [or_assoc]

/-! ### The register (R162) -/

theorem drawCount_append (c : Controller) (k : Nat) (outputs : List LightOutput) (o : LightOutput) :
    drawCount c k (outputs ++ [o]) = drawCount c k outputs + if draws c (k + outputs.length) o then 1 else 0 := by
  induction outputs generalizing k with
  | nil => simp [drawCount]
  | cons first rest ih =>
    have place : k + 1 + rest.length = k + (rest.length + 1) := by omega
    rw [List.cons_append, drawCount, ih, drawCount, List.length_cons, place]
    omega

/-- The outputs below number `k` that draw in this tick. -/
def Controller.drawsBelow (c : Controller) (k : Nat) : Nat :=
  ((List.range k).filter fun j =>
    decide ((c.outputRecord j).effect = .flicker ∧ (c.light.outputs[j]?).bind (·.effectTimer) = some 0)).length

theorem drawCount_take (c : Controller) {k : Nat} (within : k ≤ c.light.outputs.length) :
    drawCount c 0 (c.light.outputs.take k) = c.drawsBelow k := by
  induction k with
  | zero => rfl
  | succ k ih =>
    have inside : k < c.light.outputs.length := within
    have length : (c.light.outputs.take k).length = k := List.length_take_of_le inside.le
    have same : draws c (0 + k) c.light.outputs[k]
        = decide ((c.outputRecord k).effect = .flicker ∧ (c.light.outputs[k]?).bind (·.effectTimer) = some 0) := by
      rw [List.getElem?_eq_getElem inside, Nat.zero_add]
      simp [draws, beq_eq_decide]
    rw [List.take_succ_eq_append_getElem inside, drawCount_append, length, ih inside.le, same, Controller.drawsBelow,
      Controller.drawsBelow, List.range_succ, List.filter_append, List.length_append]
    congr 1
    simp only [List.filter_cons, List.filter_nil]
    split <;> rfl

theorem drawCount_all (c : Controller) : drawCount c 0 c.light.outputs = c.drawsBelow c.light.outputs.length := by
  have whole := drawCount_take c (le_refl c.light.outputs.length)
  rwa [List.take_length] at whole

theorem repeat_nextRandom_range (n : Nat) {register : Nat} (low : 1 ≤ register) (high : register ≤ 65536) :
    1 ≤ Nat.repeat nextRandom n register ∧ Nat.repeat nextRandom n register ≤ 65536 := by
  induction n with
  | zero => exact ⟨low, high⟩
  | succ n ih => exact nextRandom_range ih.1 ih.2

/-! ### The levels (R160 to R163) -/

/-- The sweep of MARS stays between the two levels (R160). -/
theorem marsLevel_eq (base dim : Nat) {t : Nat} (position : t < 1000) :
    (marsLevel base dim t : Int)
      = dim + Int.tdiv (((base : Int) - dim) * (if t < 500 then (t : Int) else 1000 - t)) 500 := by
  refine Int.toNat_of_nonneg ?_
  generalize sweep : (if t < 500 then (t : Int) else 1000 - t) = p
  have bounds : 0 ≤ p ∧ p ≤ 500 := by
    rw [← sweep]
    split <;> omega
  obtain ⟨low, high⟩ := bounds
  rcases le_total (dim : Int) base with rises | falls
  · have := Int.tdiv_nonneg (mul_nonneg (sub_nonneg.mpr rises) low) (show (0 : Int) ≤ 500 by decide)
    omega
  · have below : ((dim : Int) - base) * p ≤ ((dim : Int) - base) * 500 := mul_le_mul_of_nonneg_left high (sub_nonneg.mpr falls)
    have above : 0 ≤ ((dim : Int) - base) * p := mul_nonneg (sub_nonneg.mpr falls) low
    have mirrored : Int.tdiv (((base : Int) - dim) * p) 500 = -((((dim : Int) - base) * p) / 500) := by
      rw [← Int.tdiv_eq_ediv_of_nonneg above, ← Int.neg_tdiv, ← neg_mul, neg_sub]
    rw [mirrored]
    omega

theorem Controller.flareInForce_iff (c : Controller) :
    c.flareInForce = true ↔ c.light.flareTimer.any (0 < ·) = true ∧ c.supply.shedLevel < 3 := by
  unfold Controller.flareInForce
  cases c.light.flareTimer <;> simp

section
variable {c : Controller} {k register n : Nat} {o : LightOutput}

/-- An output whose effect timer is stopped does not tick. -/
theorem lightOutputTick_stopped (stopped : o.effectTimer = none) : lightOutputTick c k register o = (o, register) := by
  rw [lightOutputTick, stopped]

/-- A FLICKER output (R162, R163). -/
theorem lightOutputTick_flicker (runs : o.effectTimer = some n) (flicker : (c.outputRecord k).effect = .flicker) :
    (lightOutputTick c k register o).1
      = { o with
          flicker := if n = 0 then flickerDraw (c.baseLevel k) (nextRandom register) else o.flicker
          applied :=
            flickerLevel c.flareInForce (if n = 0 then flickerDraw (c.baseLevel k) (nextRandom register) else o.flicker)
          effectTimer := some ((n + 1) % (c.outputRecord k).effect.cycle) } := by
  rw [lightOutputTick, runs]
  dsimp only
  rw [if_pos flicker]
  split <;> rfl

/-- An output with a fixed cycle, or with DITCH (R160, R161). -/
theorem lightOutputTick_fixed (runs : o.effectTimer = some n) (fixed : (c.outputRecord k).effect ≠ .flicker) :
    (lightOutputTick c k register o).1
      = { o with
          applied :=
            effectLevel (c.outputRecord k).effect (c.baseLevel k) (c.outputRecord k).dimLevel n (k % 2 == 1)
              ((c.light.ditchTimers.getD (k / 2) none).getD 0)
          effectTimer := some ((n + 1) % (c.outputRecord k).effect.cycle) } := by
  rw [lightOutputTick, runs]
  dsimp only
  rw [if_neg fixed]

end

theorem effectLevel_ditch (base dim t k ditch : Nat) :
    (k % 2 = 0 → effectLevel .ditch base dim t (k % 2 == 1) ditch = if ditch < 500 then base else 0) ∧
      (k % 2 = 1 → effectLevel .ditch base dim t (k % 2 == 1) ditch = if ditch < 500 then 0 else base) := by
  refine ⟨fun even => ?_, fun odd => ?_⟩
  · rw [even]
    by_cases first : ditch < 500 <;> simp [effectLevel, first]
  · rw [odd]
    by_cases first : ditch < 500 <;> simp [effectLevel, first]

theorem Controller.endFlare_output (c : Controller) {k : Nat} {o : LightOutput} (held : c.light.outputs[k]? = some o) :
    c.endFlare.light.outputs[k]?
      = some (if o.lit = true ∧ (c.outputRecord k).effect = .flicker then { o with applied := o.flicker } else o) := by
  show (c.light.outputs.mapIdx _)[k]? = _
  rw [List.getElem?_mapIdx, held]
  rfl

/-- The part after one millisecond of lights, with the register moved on once for each draw (R162). -/
theorem Controller.lightTick_eq (c : Controller) :
    c.lightTick
      = { c with
          light :=
            { outputs := c.lightTick.light.outputs
              ditchTimers := c.light.ditchTimers.map fun n => n.map fun n => (n + 1) % 1000
              flareTimer := c.light.flareTimer.map (· - 1)
              randomRegister := Nat.repeat nextRandom (c.drawsBelow c.light.outputs.length) c.light.randomRegister } } := by
  obtain ⟨drawn, -⟩ := lightOutputsTick_outcome c 0 c.light.randomRegister c.light.outputs
  rw [drawCount_all] at drawn
  rw [← drawn]
  rfl

/-- Output `k` ticks with the register as the outputs below it leave it (R162). -/
theorem Controller.lightTick_output (c : Controller) {k : Nat} {o : LightOutput} (held : c.light.outputs[k]? = some o) :
    c.lightTick.light.outputs[k]?
      = some (lightOutputTick c k (Nat.repeat nextRandom (c.drawsBelow k) c.light.randomRegister) o).1 := by
  obtain ⟨-, -, ticked⟩ := lightOutputsTick_outcome c 0 c.light.randomRegister c.light.outputs
  have within : k ≤ c.light.outputs.length := (List.getElem?_eq_some_iff.mp held).1.le
  have tick := ticked k o held
  rwa [Nat.zero_add, drawCount_take c within] at tick

theorem Controller.lightTick_length (c : Controller) : c.lightTick.light.outputs.length = c.light.outputs.length :=
  (lightOutputsTick_outcome c 0 c.light.randomRegister c.light.outputs).2.1

/-- Settles O56: conditions and levels by definition, the tick output by output, the draws counted from output 0 on. -/
theorem lightEffectsFollowTheirCycles : Obligations.LightEffectsFollowTheirCycles := by
  intro s grouped role parked draws register
  let c := s.toController
  refine ⟨fun k => ⟨s.isLit_iff k, s.baseLevel_eq k⟩, ⟨_, rfl, congrArg (State.mk · s.pending) c.lightTick_eq, c.lightTick_length,
    fun low high => ?_, fun k o held => ?_⟩, fun runs => State.next_update (d := s.toController) (if_neg runs), fun ended => ?_⟩
  · have register_eq : c.lightTick.light.randomRegister = _ := congrArg (·.light.randomRegister) c.lightTick_eq
    show 1 ≤ c.lightTick.light.randomRegister ∧ c.lightTick.light.randomRegister ≤ 65536
    rw [register_eq]
    exact repeat_nextRandom_range _ low high
  · refine ⟨_, c.lightTick_output held, lightOutputTick_lit .., fun stopped => congrArg Prod.fst (lightOutputTick_stopped stopped),
      fun n runs => ?_⟩
    intro base dim ditch
    by_cases flicker : (s.outputRecord k).effect = .flicker
    · have tick := lightOutputTick_flicker (c := c)
        (register := Nat.repeat nextRandom (c.drawsBelow k) c.light.randomRegister) runs flicker
      generalize (lightOutputTick c k (Nat.repeat nextRandom (c.drawsBelow k) c.light.randomRegister) o).1 = o' at tick ⊢
      have value := congrArg (·.flicker) tick
      have applied := congrArg (·.applied) tick
      dsimp only at value applied
      rw [← value] at applied
      have fixed {e : Effect} (other : e ≠ .flicker) {outcome : Prop} (is : (s.outputRecord k).effect = e) : outcome :=
        absurd (is.symm.trans flicker) other
      exact ⟨congrArg (·.effectTimer) tick, (absurd flicker ·), fixed (by decide), fixed (by decide), fixed (by decide),
        fixed (by decide), fixed (by decide), fixed (by decide), fixed (by decide),
        fun _ => ⟨value, (flickerDraw_range ..).1, applied.trans (if_congr c.flareInForce_iff rfl rfl)⟩⟩
    · have tick := lightOutputTick_fixed (c := c)
        (register := Nat.repeat nextRandom (c.drawsBelow k) c.light.randomRegister) runs flicker
      generalize (lightOutputTick c k (Nat.repeat nextRandom (c.drawsBelow k) c.light.randomRegister) o).1 = o' at tick ⊢
      have applied := congrArg (·.applied) tick
      dsimp only at applied
      refine ⟨congrArg (·.effectTimer) tick, fun _ => congrArg (·.flicker) tick, fun steady => ?_, fun pulse early => ?_,
        fun pulse late => ?_, fun strobe => ?_, fun mars position => ?_, fun ditching even => ?_, fun ditching odd => ?_,
        (absurd · flicker)⟩
      · exact applied.trans (congrArg (effectLevel · _ _ _ _ _) steady)
      · exact applied.trans ((congrArg (effectLevel · _ _ _ _ _) pulse).trans (if_pos early))
      · exact applied.trans ((congrArg (effectLevel · _ _ _ _ _) pulse).trans (if_neg (Nat.not_lt_of_le late)))
      · exact applied.trans (congrArg (effectLevel · _ _ _ _ _) strobe)
      · rw [applied.trans (congrArg (effectLevel · _ _ _ _ _) mars)]
        exact marsLevel_eq base dim position
      · exact applied.trans ((congrArg (effectLevel · _ _ _ _ _) ditching).trans ((effectLevel_ditch ..).1 even))
      · exact applied.trans ((congrArg (effectLevel · _ _ _ _ _) ditching).trans ((effectLevel_ditch ..).2 odd))
  · refine ⟨_, State.next_update (if_pos ended), rfl, ?_, fun k o held => c.endFlare_output held⟩
    exact List.length_mapIdx

end Sys2Proof.Machine
end

section
/-! PROOFS. The Supply Monitor: samples, the shed ladder, dropouts and returns (R165 to R170, R120). -/

namespace Sys2Proof.Machine

/-! ### The ladder and the shed level (R166, R170) -/

theorem ladder_eq (cfg : Settings) (vres level : Nat) :
    let below (n : Nat) : Nat := if vres < n then 1 else 0
    let rises := below cfg.s1 + below cfg.s2 + below cfg.s3 + below 65
    let falls := below (cfg.s1 + 3) + below (cfg.s2 + 3) + below (cfg.s3 + 3)
    ladder cfg vres level = if level < rises then rises else if falls < level then falls else level := by
  intro below rises falls
  have count (thresholds : List Nat) : countBelow thresholds vres = (thresholds.map below).sum := by
    induction thresholds with
    | nil => rfl
    | cons n rest ih =>
      have step : countBelow (n :: rest) vres = countBelow rest vres + if vres < n then 1 else 0 := by
        simp [countBelow, List.countP_cons]
      rw [step, ih, List.map_cons, List.sum_cons, Nat.add_comm]
  have rising : countBelow [cfg.s1, cfg.s2, cfg.s3, Config.vHold] vres = rises := by
    rw [count]
    simp [rises, Nat.add_assoc]
    rfl
  have falling : countBelow [cfg.s1 + 3, cfg.s2 + 3, cfg.s3 + 3] vres = falls := by
    rw [count]
    simp [falls, Nat.add_assoc]
  rw [ladder, rising, falling]

/-- A shed level that moves: STATUS is requested, smoke and lights follow. -/
theorem Controller.setShedLevel_moves {level : Nat} {c : Controller} (moves : level ≠ c.supply.shedLevel) :
    c.setShedLevel level
        = { c with
            air := { c.air with statusSlot := c.air.statusSlot.file }
            smoke := c.smoke.underShed c.settings.fanIdle level, light := (c.setShedLevel level).light
            supply := { c.supply with shedLevel := level } } ∧
      (c.setShedLevel level).LightsFollow c.light := by
  have judged := Controller.judgeLights_follow (((c.onSupply fun u => { u with shedLevel := level }).fileStatus).smokeShed level)
  have sets : c.setShedLevel level
      = (((c.onSupply fun u => { u with shedLevel := level }).fileStatus).smokeShed level).judgeLights := if_neg moves
  rw [← sets, Controller.smokeShed_under] at judged
  refine ⟨?_, judged⟩
  rw [sets, Controller.smokeShed_under]
  rfl

theorem Controller.setShedLevel_stands {level : Nat} {c : Controller} (stands : level = c.supply.shedLevel) :
    c.setShedLevel level = c := if_pos stands

/-- In either case. -/
theorem Controller.setShedLevel_shape (level : Nat) (c : Controller) :
    c.setShedLevel level
      = { c with
          air :=
            { c.air with statusSlot := if level ≠ c.supply.shedLevel then c.air.statusSlot.file else c.air.statusSlot }
          smoke := (c.setShedLevel level).smoke, light := (c.setShedLevel level).light
          supply := { c.supply with shedLevel := level } } := by
  by_cases stands : level = c.supply.shedLevel
  · rw [Controller.setShedLevel_stands stands, if_neg (not_not_intro stands), stands]
  · obtain ⟨shape, -⟩ := Controller.setShedLevel_moves stands
    rw [if_pos stands]
    generalize c.setShedLevel level = d at *
    rw [shape]

/-! ### A calibration lost as the supply leaves NORMAL (R80) -/

/-- The Motion Unit of a calibration that is aborted. -/
def MotionUnit.aborted (m : MotionUnit) : MotionUnit :=
  { m with state := .idle, duty := 0, ramp := 0, integrator := 0, calibration := none, labour := .coast }

/-- The part as an abort of a calibration leaves it, where one runs. -/
def Controller.abortedIf (c : Controller) : Controller :=
  if c.motion.state.isCalibrating = true then
    { c with
      air :=
        { c.air with
          statusSlot := c.air.statusSlot.file
          statusTimer :=
            c.air.statusTimer.map fun n =>
              min n
                (if c.command.partMode = .parked then 5000
                else if c.consist.state ≠ .solo then 200
                else 1000) }
      command :=
        { c.command with
          parkTimer :=
            if c.command.partMode = .run ∧ c.consist.state = .solo ∧ c.settings.parkDelay ≠ 0 then
              some (c.command.parkTimer.getD 0)
            else none }
      motion := c.motion.aborted }
  else c

theorem Controller.abortCalibration_eq (c : Controller) : c.abortCalibration = c.abortedIf := by
  unfold Controller.abortCalibration Controller.abortedIf
  by_cases calibrating : c.motion.state.isCalibrating = true
  · have changed : c.motion.state.flags ≠ MotionState.flags .idle := by
      rw [MotionState.flags_of_isCalibrating calibrating]; decide
    have left := Controller.setMotionState_idle (c := c.onMotion fun m =>
      { m with duty := 0, ramp := 0, integrator := 0, calibration := none, labour := .coast }) (by exact changed)
    have idle : (c.leaveCalibration .idle).motion.state = .idle := congrArg (·.motion.state) left
    have interval : (c.leaveCalibration .idle).statusInterval
        = if c.command.partMode = .parked then 5000 else if c.consist.state ≠ .solo then 200 else 1000 := by
      rw [Controller.statusInterval_eq (state := c.consist.state) (by simp), idle]
      simp [MotionState.isCalibrating]
    have conditions : (c.leaveCalibration .idle).parkConditions = true
        ↔ c.command.partMode = .run ∧ c.consist.state = .solo ∧ c.settings.parkDelay ≠ 0 := by
      rw [Controller.parkConditions_iff, idle]
      simp
    rw [if_pos calibrating, if_pos calibrating, ← if_congr conditions rfl rfl, ← interval]
    exact left
  · rw [if_neg calibrating, if_neg calibrating]

/-! ### The entry to HOLD and the judgement of the ladder (R166, R167) -/

/-- An abort does not touch the Supply Monitor. -/
theorem Controller.abortedIf_onSupply (c : Controller) (f : SupplyMonitor → SupplyMonitor) :
    (c.onSupply f).abortedIf = c.abortedIf.onSupply f := by
  by_cases calibrating : c.motion.state.isCalibrating = true
  · rw [Controller.abortedIf, if_pos (by exact calibrating), Controller.abortedIf, if_pos calibrating]
    rfl
  · rw [Controller.abortedIf, if_neg (by exact calibrating), Controller.abortedIf, if_neg calibrating]

theorem Controller.setSupplyState_hold (c : Controller) :
    c.setSupplyState .hold = (c.abortedIf.onSupply fun u => { u with state := .hold }).driveOff := by
  rw [← Controller.abortedIf_onSupply, ← Controller.abortCalibration_eq]
  rfl

/-- The part on its entry to HOLD, before the shed level moves. -/
def Controller.held (c : Controller) : Controller :=
  (c.abortedIf.onSupply fun u => { u with state := .hold, holdTimer := some 3000 }).driveOff

theorem Controller.enterHold_eq (c : Controller) : c.enterHold = c.held.setShedLevel 4 := by
  rw [Controller.enterHold, Controller.setSupplyState_hold, Controller.abortedIf_onSupply]
  rfl

theorem Controller.judgeLadder_eq (c : Controller) :
    c.judgeLadder
      = if ladder c.settings c.supply.vres c.supply.shedLevel = 4 then c.held.setShedLevel 4
        else c.setShedLevel (ladder c.settings c.supply.vres c.supply.shedLevel) := by
  rw [← Controller.enterHold_eq]
  rfl

/-- Smoke and lights of the level that the ladder judges, whether HOLD is entered or not. -/
theorem Controller.setShedLevel_reach {level : Nat} {c : Controller} :
    (level = c.supply.shedLevel → (c.setShedLevel level).smoke = c.smoke ∧ (c.setShedLevel level).light = c.light) ∧
      (level ≠ c.supply.shedLevel →
        (c.setShedLevel level).smoke = c.smoke.underShed c.settings.fanIdle level ∧
          (c.setShedLevel level).LightsFollow c.light ∧ (c.setShedLevel level).air.statusSlot.requested = true) := by
  refine ⟨fun stands => ?_, fun moves => ?_⟩
  · rw [Controller.setShedLevel_stands stands]
    exact ⟨rfl, rfl⟩
  · obtain ⟨shape, follow⟩ := Controller.setShedLevel_moves moves
    exact ⟨congrArg (·.smoke) shape, follow,
      (congrArg (·.air.statusSlot.requested) shape).trans c.air.statusSlot.file_requested⟩

section
variable (c : Controller)

@[simp] theorem Controller.abortedIf_kept :
    c.abortedIf.settings = c.settings ∧ c.abortedIf.smoke = c.smoke ∧ c.abortedIf.light = c.light ∧
      c.abortedIf.supply = c.supply ∧ c.abortedIf.consist = c.consist ∧ c.abortedIf.sound = c.sound := by
  unfold Controller.abortedIf
  split <;> exact ⟨rfl, rfl, rfl, rfl, rfl, rfl⟩

theorem Controller.abortedIf_slot :
    c.abortedIf.air.statusSlot
      = if c.motion.state.isCalibrating = true then c.air.statusSlot.file else c.air.statusSlot := by
  unfold Controller.abortedIf
  split <;> rfl

end

/-- The status slot of an abort and of a move of the shed level, in one. -/
theorem TxSlot.file_either (moved aborts : Prop) [Decidable moved] [Decidable aborts] (slot : TxSlot) :
    (if moved then (if aborts then slot.file else slot).file else (if aborts then slot.file else slot))
      = if moved ∨ aborts then slot.file else slot := by
  by_cases aborts <;> by_cases moved <;> simp [*, TxSlot.file_file]

theorem Controller.held_shed_shape (c : Controller) :
    c.held.setShedLevel 4
      = { c with
          air :=
            { c.abortedIf.air with
              statusSlot :=
                if 4 ≠ c.supply.shedLevel ∨ c.motion.state.isCalibrating = true then c.air.statusSlot.file
                else c.air.statusSlot }
          command := c.abortedIf.command
          motion := { c.abortedIf.motion with duty := 0, integrator := 0, labour := .coast }
          smoke := (c.held.setShedLevel 4).smoke, light := (c.held.setShedLevel 4).light
          supply := { c.supply with shedLevel := 4, state := .hold, holdTimer := some 3000 } } := by
  have shape := Controller.setShedLevel_shape 4 c.held
  rw [← TxSlot.file_either, ← Controller.abortedIf_slot]
  generalize c.held.setShedLevel 4 = d at *
  rw [shape]
  by_cases calibrating : c.motion.state.isCalibrating = true
  · rw [Controller.held, Controller.abortedIf, if_pos calibrating]
    rfl
  · rw [Controller.held, Controller.abortedIf, if_neg calibrating]
    rfl

/-! ### The samples (R165, R166, R173) -/

/-- The part with a sample counted, before the ladder is judged. -/
def Controller.counted (vin vres : Nat) (c : Controller) : Controller :=
  c.onSupply fun u => ({ u with vin := vin, vres := vres } : SupplyMonitor).countSample vin

theorem Controller.supplyTick_start {c : Controller} (vin vres : Nat) (start : c.command.partMode = .start) :
    c.supplyTick vin vres = c.onSupply fun u => ({ u with vin := vin, vres := vres } : SupplyMonitor).qualifySample vin :=
  if_pos start

theorem Controller.supplyTick_counts {c : Controller} (vin vres : Nat) (runs : c.command.partMode ≠ .start)
    (fed : c.supply.state ≠ .dropout) : c.supplyTick vin vres = c.counted vin vres :=
  (if_neg runs).trans (if_neg fed)

theorem Controller.supplyTick_judges {c : Controller} (vin vres : Nat) (runs : c.command.partMode ≠ .start)
    (dropped : c.supply.state = .dropout) : c.supplyTick vin vres = (c.counted vin vres).judgeLadder :=
  (if_neg runs).trans (if_pos dropped)

theorem SupplyMonitor.qualifySample_eq (vin : Nat) (u : SupplyMonitor) :
    u.qualifySample vin
      = { u with
          startCount := if 100 ≤ vin then min 100 (u.startCount + 1) else 0
          state := if 100 ≤ vin then u.state else .settle } := by
  by_cases enough : 100 ≤ vin
  · rw [SupplyMonitor.qualifySample, if_pos (by exact enough), if_pos enough, if_pos enough]
    rfl
  · rw [SupplyMonitor.qualifySample, if_neg (by exact enough), if_neg enough, if_neg enough]

theorem Controller.judgeLadder_at {c : Controller} {level : Nat}
    (judged : ladder c.settings c.supply.vres c.supply.shedLevel = level) :
    c.judgeLadder = if level = 4 then c.held.setShedLevel 4 else c.setShedLevel level := by
  rw [Controller.judgeLadder_eq, judged]

theorem Controller.held_reach (c : Controller) :
    (4 = c.supply.shedLevel → (c.held.setShedLevel 4).smoke = c.smoke ∧ (c.held.setShedLevel 4).light = c.light) ∧
      (4 ≠ c.supply.shedLevel →
        (c.held.setShedLevel 4).smoke = c.smoke.underShed c.settings.fanIdle 4 ∧
          (c.held.setShedLevel 4).LightsFollow c.light ∧ (c.held.setShedLevel 4).air.statusSlot.requested = true) := by
  obtain ⟨settings, smoke, light, supply, -⟩ := c.abortedIf_kept
  have reach := Controller.setShedLevel_reach (level := 4) (c := c.held)
  have level : c.held.supply.shedLevel = c.supply.shedLevel := congrArg (·.shedLevel) supply
  rw [level, show c.held.smoke = c.smoke from smoke, show c.held.light = c.light from light,
    show c.held.settings = c.settings from settings] at reach
  exact reach

/-- Settles O57: the ladder enters HOLD at level 4 and otherwise only moves the level. -/
theorem supplySamplesCountAndShed : Obligations.SupplySamplesCountAndShed := by
  unfold Obligations.SupplySamplesCountAndShed
  intro s vin vres counted below rises falls level moved aborts filed
  refine ⟨fun start => ?_, fun runs fed => ?_, fun runs dropped => ?_⟩
  · have whole := Controller.supplyTick_start (c := s.toController) vin.val vres.val start
    exact State.next_update (whole.trans (congrArg (fun u => ({ s.toController with supply := u } : Controller))
      (SupplyMonitor.qualifySample_eq _ _)))
  · exact State.next_update (Controller.supplyTick_counts vin.val vres.val runs fed)
  have whole := Controller.supplyTick_judges (c := s.toController) vin.val vres.val runs dropped
  have judged : ladder s.settings vres.val s.supply.shedLevel = level := ladder_eq s.settings vres.val s.supply.shedLevel
  have ladder := Controller.judgeLadder_at (c := s.toController.counted vin.val vres.val) judged
  clear_value level
  by_cases four : level = 4
  · subst four
    replace ladder := ladder.trans (if_pos rfl)
    have shape := Controller.held_shed_shape (s.toController.counted vin.val vres.val)
    obtain ⟨still, moves⟩ := Controller.held_reach (s.toController.counted vin.val vres.val)
    refine ⟨_, State.next_update (whole.trans ladder), fun other => absurd rfl other, fun _ => ?_,
      fun stands => still (not_not.mp stands), fun moved => ⟨(moves moved).1, (moves moved).2.1⟩⟩
    refine congrArg (State.mk · s.pending) (shape.trans ?_)
    by_cases calibrating : aborts
    · rw [Controller.abortedIf, if_pos (by exact calibrating), if_pos calibrating, if_pos calibrating, if_pos calibrating]
      rfl
    · rw [Controller.abortedIf, if_neg (by exact calibrating), if_neg calibrating, if_neg calibrating, if_neg calibrating]
      rfl
  · have shape := Controller.setShedLevel_shape level (s.toController.counted vin.val vres.val)
    obtain ⟨still, moves⟩ := Controller.setShedLevel_reach (level := level) (c := s.toController.counted vin.val vres.val)
    exact ⟨_, State.next_update (whole.trans (ladder.trans (if_neg four))), fun _ => congrArg (State.mk · s.pending) shape,
      fun same => absurd same four, fun stands => still (not_not.mp stands),
      fun moved => ⟨(moves moved).1, (moves moved).2.1⟩⟩

/-! ### A negotiation that waited for NORMAL (R120) -/

/-- What the steps of a negotiation may touch: the Air Interface, the park timer, the consist record and the lights. -/
def Controller.Negotiates (c d : Controller) : Prop :=
  d = { c with
    air := d.air, command := { c.command with parkTimer := d.command.parkTimer }, consist := d.consist, light := d.light }

theorem Controller.Negotiates.trans {c d e : Controller} (first : c.Negotiates d) (next : d.Negotiates e) :
    c.Negotiates e := by
  unfold Controller.Negotiates at first next ⊢
  exact next.trans (by rw [first])

theorem Controller.setConsistState_negotiates {state : ConsistState} (coupled : state ≠ .solo) (other : state ≠ .ability)
    (c : Controller) : c.Negotiates (c.setConsistState state) := by
  have shape := Controller.setConsistState_coupled coupled c
  rw [if_neg other] at shape
  unfold Controller.Negotiates
  generalize c.setConsistState state = d at *
  rw [shape]

theorem Controller.enterAcknowledge_negotiates (c : Controller) : c.Negotiates c.enterAcknowledge := by
  unfold Controller.enterAcknowledge
  split
  · exact (Controller.setConsistState_negotiates (state := .acknowledge) (by decide) (by decide) c).trans rfl
  · rfl

theorem Controller.enterFormed_negotiates (c : Controller) : c.Negotiates c.enterFormed := by
  unfold Controller.enterFormed
  split
  · exact Controller.Negotiates.trans (by exact rfl)
      (Controller.setConsistState_negotiates (state := .formed) (by decide) (by decide) _)
  · rfl

/-- The part with the timers of a negotiation started. -/
def Controller.negotiating (c : Controller) : Controller :=
  (c.onConsist fun k => { k with negotiationTimer := some 5000 }).startJoins

theorem Controller.resumeNegotiation_negotiates (c : Controller) : c.Negotiates c.resumeNegotiation := by
  have advances (e : Controller) : e.Negotiates e.advanceNegotiation :=
    e.enterAcknowledge_negotiates.trans e.enterAcknowledge.enterFormed_negotiates
  unfold Controller.resumeNegotiation
  split
  · exact Controller.Negotiates.trans (d := c.negotiating) rfl (advances _)
  · rfl

/-- Without every ability the negotiation only runs on. -/
theorem Controller.resumeNegotiation_incomplete {c : Controller}
    (waits : c.consist.state = .ability ∧ c.consist.negotiationTimer = none) (missing : ∃ o ∈ c.consist.others, o.ability = none) :
    c.resumeNegotiation = c.negotiating := by
  have incomplete : ¬c.negotiating.consist.allAbilities = true := by
    obtain ⟨o, mem, absent⟩ := missing
    intro all
    have present : o.ability.isSome = true := List.all_eq_true.mp all o mem
    rw [absent] at present
    exact absurd present (by decide)
  have early : ¬c.negotiating.consist.state = .acknowledge := by
    change ¬c.consist.state = .acknowledge
    rw [waits.1]
    decide
  have resumes : c.resumeNegotiation = c.negotiating.advanceNegotiation := if_pos waits
  rw [resumes, Controller.advanceNegotiation, Controller.enterAcknowledge_stands fun ⟨_, _, all⟩ => incomplete all,
    Controller.enterFormed_stands fun ⟨acknowledge, _⟩ => early acknowledge]

theorem Controller.resumeNegotiation_stands {c : Controller}
    (calm : ¬(c.consist.state = .ability ∧ c.consist.negotiationTimer = none)) : c.resumeNegotiation = c := if_neg calm

/-! ### Falling into DROPOUT and HOLD, and returning (R165, R167 to R169) -/

/-- The part with a dropout counted and a calibration lost, before the ladder is judged. -/
def Controller.dropped (c : Controller) : Controller :=
  c.countDropout.abortedIf.onSupply fun u => { u with settleTimer := none, stepDownTimer := none, state := .dropout }

theorem Controller.detectDropout_eq (c : Controller) : c.detectDropout = c.dropped.judgeLadder := by
  rw [Controller.dropped, ← Controller.abortedIf_onSupply, ← Controller.abortCalibration_eq]
  rfl

theorem Controller.endHold_eq (c : Controller) :
    c.endHold
      = (c.abortedIf.onSupply fun u => { u with holdTimer := none, settleTimer := some 100, state := .settle }).setShedLevel 3 := by
  rw [← Controller.abortedIf_onSupply, ← Controller.abortCalibration_eq]
  rfl

theorem Controller.supplyNormal_eq (c : Controller) :
    c.supplyNormal
      = ({ c with
            supply :=
              { c.supply with settleTimer := none, stepDownTimer := stepDownFor c.supply.shedLevel, state := .normal } } :
          Controller).resumeNegotiation := rfl

/-- An aborted calibration: the motion record, and what else the abort touches. -/
theorem Controller.abortedIf_shape (c : Controller) :
    c.abortedIf
      = { c with
          air := { c.air with statusSlot := c.abortedIf.air.statusSlot, statusTimer := c.abortedIf.air.statusTimer }
          command := { c.command with parkTimer := c.abortedIf.command.parkTimer }
          motion := if c.motion.state.isCalibrating = true then c.motion.aborted else c.motion } := by
  by_cases calibrating : c.motion.state.isCalibrating = true
  · rw [Controller.abortedIf, if_pos calibrating, if_pos calibrating]
  · rw [Controller.abortedIf, if_neg calibrating, if_neg calibrating]

theorem Controller.abortedIf_twice (c : Controller) : c.abortedIf.abortedIf = c.abortedIf := by
  have ended : ¬c.abortedIf.motion.state.isCalibrating = true := by
    rw [c.abortedIf_shape]
    by_cases calibrating : c.motion.state.isCalibrating = true
    · rw [if_pos calibrating]
      exact Bool.false_ne_true
    · rw [if_neg calibrating]
      exact calibrating
  rw [Controller.abortedIf, if_neg ended]

/-- What `resumeNegotiation` makes of a waiting negotiation, and of any other. -/
theorem Controller.resumeNegotiation_resumes (c : Controller) :
    let waits := c.consist.state = .ability ∧ c.consist.negotiationTimer = none
    (¬waits → c.resumeNegotiation.consist = c.consist ∧ c.resumeNegotiation.air = c.air) ∧
      (waits → (∃ o ∈ c.consist.others, o.ability = none) →
        c.resumeNegotiation.consist = { c.consist with negotiationTimer := some 5000, joinTimer := some 100 } ∧
          c.resumeNegotiation.air.joinSlot.requested = true) := by
  intro waits
  refine ⟨fun calm => ?_, fun due missing => ?_⟩
  · rw [Controller.resumeNegotiation_stands calm]
    exact ⟨rfl, rfl⟩
  · rw [Controller.resumeNegotiation_incomplete due missing]
    exact ⟨rfl, c.air.joinSlot.file_requested⟩

/-- The dropped part, without the ladder's judgement. -/
theorem Controller.dropped_shape (c : Controller) :
    c.dropped
      = { c with
          air := { c.air with statusSlot := c.dropped.air.statusSlot, statusTimer := c.dropped.air.statusTimer }
          command := { c.command with parkTimer := c.dropped.command.parkTimer }
          motion := if c.motion.state.isCalibrating = true then c.motion.aborted else c.motion
          supply := { c.supply with settleTimer := none, stepDownTimer := none, state := .dropout }
          counters := { c.counters with dropoutCount := min 255 (c.counters.dropoutCount + 1) } } := by
  have shape := Controller.abortedIf_shape c.countDropout
  unfold Controller.dropped
  generalize c.countDropout.abortedIf = d at *
  rw [shape]
  rfl

/-- HOLD has nothing left to abort in a dropped part. -/
theorem Controller.dropped_held (c : Controller) :
    c.dropped.held
      = (c.dropped.onSupply fun u => { u with state := .hold, holdTimer := some 3000 }).driveOff := by
  rw [Controller.held, Controller.dropped, Controller.abortedIf_onSupply, Controller.abortedIf_twice]

/-- The ladder on a dropped part: level 4 holds, another level sheds. -/
theorem Controller.detectDropout_holds {c : Controller} (four : ladder c.settings c.supply.vres c.supply.shedLevel = 4) :
    c.detectDropout = c.dropped.held.setShedLevel 4 := by
  rw [Controller.detectDropout_eq, Controller.judgeLadder_at (level := 4), if_pos rfl]
  rw [c.dropped_shape]
  exact four

theorem Controller.detectDropout_sheds {c : Controller} {level : Nat}
    (judged : ladder c.settings c.supply.vres c.supply.shedLevel = level) (other : level ≠ 4) :
    c.detectDropout = c.dropped.setShedLevel level := by
  rw [Controller.detectDropout_eq, Controller.judgeLadder_at (level := level), if_neg other]
  rw [c.dropped_shape]
  exact judged

/-- Smoke and lights of `d` under a shed level that was `c`'s and is now `level`. -/
def Controller.Sheds (level : Nat) (c d : Controller) : Prop :=
  (level = c.supply.shedLevel → d.smoke = c.smoke ∧ d.light = c.light) ∧
    (level ≠ c.supply.shedLevel →
      d.smoke = c.smoke.underShed c.settings.fanIdle level ∧ d.LightsFollow c.light ∧ d.air.statusSlot.requested = true)

theorem Controller.Sheds.of_same {level : Nat} {c d e : Controller} (sheds : d.Sheds level e)
    (same : d.settings = c.settings ∧ d.smoke = c.smoke ∧ d.light = c.light ∧ d.supply.shedLevel = c.supply.shedLevel) :
    c.Sheds level e := by
  obtain ⟨settings, smoke, light, shedLevel⟩ := same
  unfold Controller.Sheds at sheds ⊢
  rw [settings, smoke, light, shedLevel] at sheds
  exact sheds

theorem Controller.setShedLevel_sheds (level : Nat) (c : Controller) : c.Sheds level (c.setShedLevel level) :=
  Controller.setShedLevel_reach

theorem Controller.dropped_same (c : Controller) :
    c.dropped.settings = c.settings ∧ c.dropped.smoke = c.smoke ∧ c.dropped.light = c.light ∧
      c.dropped.supply.shedLevel = c.supply.shedLevel := by
  rw [c.dropped_shape]
  exact ⟨rfl, rfl, rfl, rfl⟩

theorem Controller.detectDropout_sheds_at {c : Controller} {level : Nat}
    (judged : ladder c.settings c.supply.vres c.supply.shedLevel = level) : c.Sheds level c.detectDropout := by
  by_cases four : level = 4
  · subst four
    rw [Controller.detectDropout_holds judged]
    exact Controller.Sheds.of_same (Controller.held_reach c.dropped) c.dropped_same
  · rw [Controller.detectDropout_sheds judged four]
    exact (Controller.setShedLevel_sheds level c.dropped).of_same c.dropped_same

/-- DROPOUT_DETECTED: the frame, and the supply and motion records by the level that the ladder judges. -/
theorem Controller.detectDropout_outcome {c : Controller} {level : Nat}
    (judged : ladder c.settings c.supply.vres c.supply.shedLevel = level) :
    let d := c.detectDropout
    let supply : SupplyMonitor :=
      if level = 4 then
        { c.supply with
          settleTimer := none, stepDownTimer := none, holdTimer := some 3000, state := .hold, shedLevel := 4 }
      else { c.supply with settleTimer := none, stepDownTimer := none, state := .dropout, shedLevel := level }
    let motion : MotionUnit :=
      if c.motion.state.isCalibrating = true then c.motion.aborted
      else if level = 4 then { c.motion with duty := 0, integrator := 0, labour := .coast }
      else c.motion
    d = { c with
          air := { c.air with statusSlot := d.air.statusSlot, statusTimer := d.air.statusTimer }
          command := { c.command with parkTimer := d.command.parkTimer }
          motion := motion, smoke := d.smoke, light := d.light, supply := supply
          counters := { c.counters with dropoutCount := min 255 (c.counters.dropoutCount + 1) } } := by
  intro d supply motion
  have dropped := c.dropped_shape
  by_cases four : level = 4
  · have shape := Controller.setShedLevel_shape 4 c.dropped.held
    have isHeld : d = c.dropped.held.setShedLevel 4 := Controller.detectDropout_holds (judged.trans four)
    rw [← isHeld, c.dropped_held] at shape
    have isSupply : supply = { c.supply with
        settleTimer := none, stepDownTimer := none, holdTimer := some 3000, state := .hold, shedLevel := 4 } := if_pos four
    have isMotion : motion =
        let left := if c.motion.state.isCalibrating = true then c.motion.aborted else c.motion
        { left with duty := 0, integrator := 0, labour := .coast } := by
      by_cases calibrating : c.motion.state.isCalibrating = true
      · simp only [motion, if_pos calibrating]
        rfl
      · simp only [motion, if_neg calibrating, if_pos four]
    rw [isSupply, isMotion]
    clear_value d
    generalize c.dropped = p at *
    rw [shape, dropped]
    rfl
  · have shape := Controller.setShedLevel_shape level c.dropped
    have shed : d = c.dropped.setShedLevel level := Controller.detectDropout_sheds judged four
    rw [← shed] at shape
    have isSupply : supply = { c.supply with
        settleTimer := none, stepDownTimer := none, state := .dropout, shedLevel := level } := if_neg four
    have isMotion : motion = if c.motion.state.isCalibrating = true then c.motion.aborted else c.motion := by
      simp only [motion, if_neg four]
    rw [isSupply, isMotion]
    clear_value d
    generalize c.dropped = p at *
    rw [shape, dropped]

/-! ### The re-seat at the end of SETTLE (R55, R168) -/

/-- The part with R at the measured speed at most. -/
def Controller.seated (c : Controller) : Controller :=
  c.onMotion fun m => { m with ramp := min m.ramp (16 * m.measuredSpeed) }

theorem Controller.reseat_free {c : Controller} (free : c.motion.state = .idle ∨ c.motion.state = .moving) :
    c.seated.Departs c.motion.rampedSpeed c.reseat := by
  have departs := Controller.judgeDeparture_departs (before := c.motion.rampedSpeed) (c := c.seated) free
  have reseats : c.reseat = c.seated.judgeDeparture c.motion.rampedSpeed := if_pos free
  rw [reseats]
  exact departs

theorem Controller.reseat_held {c : Controller} (held : ¬(c.motion.state = .idle ∨ c.motion.state = .moving)) :
    c.reseat = c.seated := if_neg held

theorem Controller.seated_rampedSpeed_le (c : Controller) : c.seated.motion.rampedSpeed ≤ c.motion.rampedSpeed :=
  Nat.div_le_div_right (Nat.min_le_left ..)

/-- SETTLE_END's re-seat: a stop of the ramp is an arrival, and otherwise only R moves. -/
theorem Controller.reseat_outcome (c : Controller) :
    let d := c.reseat
    d = { c with
        air := d.air, command := { c.command with parkTimer := d.command.parkTimer }
        motion := { c.motion with state := d.motion.state, ramp := min c.motion.ramp (16 * c.motion.measuredSpeed) }
        sound := d.sound } ∧
      (c.motion.state = .moving → 0 < c.motion.rampedSpeed → d.motion.rampedSpeed = 0 →
        d.motion.state = .idle ∧ d.sound = c.sound.motionTrigger .arrive) ∧
      (c.motion.rampedSpeed = 0 ∨ 0 < d.motion.rampedSpeed ∨ (c.motion.state ≠ .idle ∧ c.motion.state ≠ .moving) →
        d.motion.state = c.motion.state ∧ d.sound = c.sound ∧ d.air = c.air) := by
  intro d
  by_cases free : c.motion.state = .idle ∨ c.motion.state = .moving
  · obtain ⟨shape, state, sound, -, stands⟩ := Controller.reseat_free free
    have lowered := c.seated_rampedSpeed_le
    have speed : d.motion.rampedSpeed = c.seated.motion.rampedSpeed := congrArg (·.motion.ramp / 16) shape
    have noDeparture : ¬(c.motion.rampedSpeed = 0 ∧ 0 < c.seated.motion.rampedSpeed) := by omega
    rw [if_neg noDeparture] at state sound
    refine ⟨?_, fun _ runs stops => ?_, fun calm => ?_⟩
    · change d = _ at shape
      clear_value d
      rw [shape]
      rfl
    · have arrives : 0 < c.motion.rampedSpeed ∧ c.seated.motion.rampedSpeed = 0 := ⟨runs, speed ▸ stops⟩
      exact ⟨state.trans (if_pos arrives), sound.trans (if_pos arrives)⟩
    · have noArrival : ¬(0 < c.motion.rampedSpeed ∧ c.seated.motion.rampedSpeed = 0) := by
        rw [speed] at calm
        rintro ⟨runs, stops⟩
        rcases calm with before | after | other
        · omega
        · omega
        · exact free.elim other.1 other.2
      obtain ⟨timer, -⟩ := stands fun event => event.elim noDeparture noArrival
      refine ⟨state.trans (if_neg noArrival), sound.trans (if_neg noArrival), ?_⟩
      have air := congrArg (·.air) shape
      dsimp only at air
      rw [timer] at air
      exact air
  · rw [show d = c.seated from Controller.reseat_held free]
    exact ⟨rfl, fun moving => absurd (.inr moving) free, fun _ => ⟨rfl, rfl, rfl⟩⟩

theorem stepDownFor_pred (level : Nat) : stepDownFor (level - 1) = if 1 < level then some 200 else none := by
  have same : 0 < level - 1 ↔ 1 < level := by omega
  exact if_congr same rfl rfl

theorem Controller.stepDown_shape (c : Controller) :
    c.stepDown
      = { c with
          air := { c.air with statusSlot := c.stepDown.air.statusSlot }
          smoke := c.stepDown.smoke, light := c.stepDown.light
          supply :=
            { c.supply with
              shedLevel := c.supply.shedLevel - 1, stepDownTimer := if 1 < c.supply.shedLevel then some 200 else none } } := by
  have shape := Controller.setShedLevel_shape (c.supply.shedLevel - 1) c
  rw [← stepDownFor_pred]
  unfold Controller.stepDown
  generalize c.setShedLevel (c.supply.shedLevel - 1) = d at *
  rw [shape]
  rfl

theorem Controller.stepDown_sheds (c : Controller) : c.Sheds (c.supply.shedLevel - 1) c.stepDown := by
  obtain ⟨still, moves⟩ := Controller.setShedLevel_sheds (c.supply.shedLevel - 1) c
  refine ⟨still, fun moved => ?_⟩
  obtain ⟨smoke, follow, slot⟩ := moves moved
  exact ⟨smoke, follow.of_eq rfl rfl, slot⟩

theorem Controller.endHold_shape (c : Controller) :
    c.endHold
      = { c with
          air := { c.air with statusSlot := c.endHold.air.statusSlot, statusTimer := c.endHold.air.statusTimer }
          command := { c.command with parkTimer := c.endHold.command.parkTimer }
          motion := if c.motion.state.isCalibrating = true then c.motion.aborted else c.motion
          smoke := c.endHold.smoke, light := c.endHold.light
          supply :=
            { c.supply with holdTimer := none, settleTimer := some 100, state := .settle, shedLevel := 3 } } := by
  have left := c.abortedIf_shape
  have shape := Controller.setShedLevel_shape 3
    (c.abortedIf.onSupply fun u => { u with holdTimer := none, settleTimer := some 100, state := .settle })
  rw [← c.endHold_eq] at shape
  generalize c.endHold = d at *
  generalize c.abortedIf = p at *
  rw [shape, left]
  rfl

theorem Controller.endHold_sheds (c : Controller) : c.Sheds 3 c.endHold := by
  obtain ⟨settings, smoke, light, supply, -⟩ := c.abortedIf_kept
  rw [c.endHold_eq]
  exact (Controller.setShedLevel_sheds 3 _).of_same ⟨settings, smoke, light, congrArg (·.shedLevel) supply⟩

theorem Controller.supplyNormal_shape (c : Controller) :
    c.supplyNormal
      = { c with
          air := c.supplyNormal.air
          command := { c.command with parkTimer := c.supplyNormal.command.parkTimer }
          consist := c.supplyNormal.consist, light := c.supplyNormal.light
          supply :=
            { c.supply with settleTimer := none, stepDownTimer := stepDownFor c.supply.shedLevel, state := .normal } } :=
  Controller.resumeNegotiation_negotiates _

theorem Controller.supplyNormal_resumes (c : Controller) :
    let waits := c.consist.state = .ability ∧ c.consist.negotiationTimer = none
    (¬waits → c.supplyNormal.consist = c.consist ∧ c.supplyNormal.air = c.air) ∧
      (waits → (∃ o ∈ c.consist.others, o.ability = none) →
        c.supplyNormal.consist = { c.consist with negotiationTimer := some 5000, joinTimer := some 100 } ∧
          c.supplyNormal.air.joinSlot.requested = true) :=
  Controller.resumeNegotiation_resumes { c with
    supply := { c.supply with settleTimer := none, stepDownTimer := stepDownFor c.supply.shedLevel, state := .normal } }

/-- SETTLE_END: NORMAL, then the re-seat. -/
theorem Controller.settled_shape (c : Controller) :
    let d := c.supplyNormal.reseat
    d = { c with
      air := d.air, command := { c.command with parkTimer := d.command.parkTimer }
      motion := { c.motion with state := d.motion.state, ramp := min c.motion.ramp (16 * c.motion.measuredSpeed) }
      consist := d.consist, sound := d.sound, light := d.light
      supply :=
        { c.supply with settleTimer := none, stepDownTimer := stepDownFor c.supply.shedLevel, state := .normal } } := by
  intro d
  obtain ⟨shape, -⟩ := c.supplyNormal.reseat_outcome
  have normal := c.supplyNormal_shape
  change d = _ at shape
  clear_value d
  generalize c.supplyNormal = n at *
  rw [shape, normal]

/-- Settles O58: the five events, each by the shape of its operation. -/
theorem theSupplyFallsAndReturns : Obligations.TheSupplyFallsAndReturns := by
  unfold Obligations.TheSupplyFallsAndReturns
  intro s below rises falls level stepDown aborted shed waits resumed
  have judged : ladder s.settings s.supply.vres s.supply.shedLevel = level :=
    ladder_eq s.settings s.supply.vres s.supply.shedLevel
  have normal := Controller.supplyNormal_shape s.toController
  have resumes := Controller.supplyNormal_resumes s.toController
  refine ⟨fun runs low fed => ?_, fun dropped good => ?_, fun held good => ?_, fun settles ends => ?_,
    fun fed ends positive => ?_⟩
  · have shape := Controller.detectDropout_outcome (c := s.toController) judged
    have sheds := Controller.detectDropout_sheds_at (c := s.toController) judged
    have supply := congrArg (·.supply) shape
    have motion := congrArg (·.motion) shape
    dsimp only at supply motion
    refine ⟨_, State.next_update (if_pos ⟨runs, low, fed⟩), ?_, fun other => supply.trans (if_neg other),
      fun four => supply.trans (if_pos four), fun calibrating => motion.trans (if_pos calibrating), fun idle four => ?_,
      fun idle other => ?_, sheds⟩
    · refine congrArg (State.mk · s.pending) ?_
      rw [← supply, ← motion] at shape
      exact shape
    · exact motion.trans ((if_neg (by rw [idle]; decide)).trans (if_pos four))
    · exact motion.trans ((if_neg (by rw [idle]; decide)).trans (if_neg other))
  · exact ⟨_, State.next_update (if_pos ⟨dropped, good⟩), congrArg (State.mk · s.pending) normal, resumes⟩
  · have shape := Controller.endHold_shape s.toController
    have motion := congrArg (·.motion) shape
    dsimp only at motion
    refine ⟨_, State.next_update (if_pos ⟨held, good⟩), ?_, motion, Controller.endHold_sheds s.toController⟩
    rw [← motion] at shape
    exact congrArg (State.mk · s.pending) shape
  · obtain ⟨seats, stops, stands⟩ := Controller.reseat_outcome s.toController.supplyNormal
    have shape := Controller.settled_shape s.toController
    have before : s.toController.supplyNormal.motion = s.motion := congrArg (·.motion) normal
    have consist : s.toController.supplyNormal.reseat.consist = s.toController.supplyNormal.consist :=
      congrArg (·.consist) seats
    have sound : s.toController.supplyNormal.sound = s.sound := congrArg (·.sound) normal
    rw [before, sound] at stops stands
    refine ⟨_, State.next_update (if_pos ⟨settles, ends⟩), congrArg (State.mk · s.pending) shape, stops, fun calm => ?_⟩
    obtain ⟨state, kept, air⟩ := stands calm
    rw [← consist, ← air] at resumes
    exact ⟨state, kept, resumes⟩
  · have shape := Controller.stepDown_shape s.toController
    have sheds := Controller.stepDown_sheds s.toController
    obtain ⟨-, -, filed⟩ := sheds.2 (by omega)
    exact ⟨_, State.next_update (if_pos ⟨fed, ends⟩), congrArg (State.mk · s.pending) shape, filed, sheds⟩

end Sys2Proof.Machine
end

section
/-! PROOFS. Restarts: the warm restart, the brownout, the cold start and the qualification (R171 to R177). -/

namespace Sys2Proof.Machine

/-! ### The units at a warm restart (R34, R120, R145, R156, R164) -/

theorem mapIdx_unindexed {α β : Type} (f : α → β) (l : List α) : l.mapIdx (fun _ a => f a) = l.map f :=
  List.ext_getElem (by simp) (by simp)

/-- With no function on, every output is dark. -/
theorem Controller.isLit_off {c : Controller} (off : c.command.functions = 0#24) (k : Nat) : c.isLit k = false := by
  refine Bool.eq_false_iff.mpr fun lit => ?_
  obtain ⟨level, -⟩ := (Controller.isLit_iff c k).mp lit
  obtain ⟨i, -, on, -⟩ := (anyFunctionOn_iff ..).mp level
  rw [off, BitVec.getLsbD_zero] at on
  exact absurd on (by decide)

/-- A judgement with no function on leaves lights that are dark. -/
theorem Controller.judgeLights_dark {c : Controller} {l : LightController} (off : c.command.functions = 0#24)
    (dark : c.light = l.warm) : c.judgeLights.light = l.warm := by
  have unlit (k : Nat) : c.isLit k = false := Controller.isLit_off off k
  have pairs (k : Nat) : c.pairDitching k = false := by simp [Controller.pairDitching, unlit]
  have judged : c.judgeLights.light
      = { c.light with
          outputs := c.light.outputs.map (LightOutput.judge false)
          ditchTimers := c.light.ditchTimers.map fun _ => none } := by
    simp [Controller.judgeLights, unlit, pairs, Controller.onLight, mapIdx_unindexed]
  rw [judged, dark]
  simp [LightController.warm, LightOutput.judge]

theorem Controller.setConsistState_dark {c : Controller} {l : LightController} (state : ConsistState)
    (off : c.command.functions = 0#24) (dark : c.light = l.warm) : (c.setConsistState state).light = l.warm := by
  unfold Controller.setConsistState
  split <;> exact Controller.judgeLights_dark off dark

theorem Controller.setMotionState_timers (state : MotionState) (c : Controller) :
    (c.setMotionState state).air.statusTimer = c.air.statusTimer.map (min · (c.setMotionState state).statusInterval) ∧
      (c.setMotionState state).command.parkTimer
        = if (c.setMotionState state).parkConditions = true then some (c.command.parkTimer.getD 0) else none := by
  unfold Controller.setMotionState
  split <;> exact ⟨rfl, rfl⟩

theorem Controller.setMotionState_slot (state : MotionState) (c : Controller) :
    (c.setMotionState state).air.statusSlot.file = c.air.statusSlot.file := by
  unfold Controller.setMotionState
  split
  · rfl
  · exact TxSlot.file_file _

/-- A change of the Smoke Controller before a STATUS request. -/
theorem Controller.changeSmoke_filed (c : Controller) (f : SmokeController → SmokeController) :
    (c.changeSmoke f).fileStatus
      = { c with air := { c.air with statusSlot := c.air.statusSlot.file }, smoke := f c.smoke } := by
  unfold Controller.changeSmoke Controller.announceSmoke
  split
  · rfl
  · change ({ c with air := { c.air with statusSlot := c.air.statusSlot.file.file }, smoke := f c.smoke } : Controller) = _
    rw [TxSlot.file_file]

/-- The part once the units up to the Motion Unit have performed their part of a warm restart. -/
def Controller.stoodDown (c : Controller) : Controller :=
  ((((c.onAir (·.warm)).onCommand (·.warm)).onLight (·.warm)).onMotion (·.warm)).setMotionState .idle

theorem Controller.stoodDown_eq (c : Controller) :
    c.stoodDown
      = { c with
          air :=
            { c.air.warm with
              statusSlot := c.stoodDown.air.statusSlot
              statusTimer := c.air.statusTimer.map fun n => min n (if c.consist.state = .solo then 1000 else 200) }
          command :=
            { c.command.warm with
              parkTimer := if c.consist.state = .solo ∧ c.settings.parkDelay ≠ 0 then some 0 else none }
          motion := { c.motion.warm with state := .idle }
          light := c.light.warm } := by
  have shape := Controller.setMotionState_eq .idle
    ((((c.onAir (·.warm)).onCommand (·.warm)).onLight (·.warm)).onMotion (·.warm))
  obtain ⟨statusTimer, parkTimer⟩ := Controller.setMotionState_timers .idle
    ((((c.onAir (·.warm)).onCommand (·.warm)).onLight (·.warm)).onMotion (·.warm))
  have consist : c.stoodDown.consist.state = c.consist.state := congrArg (·.consist.state) shape
  have mode : c.stoodDown.command.partMode = .run := congrArg (·.command.partMode) shape
  have idle : c.stoodDown.motion.state = .idle := congrArg (·.motion.state) shape
  have settings : c.stoodDown.settings = c.settings := congrArg (·.settings) shape
  have interval : c.stoodDown.statusInterval = if c.consist.state = .solo then 1000 else 200 := by
    rw [Controller.statusInterval_eq consist, mode, idle]
    by_cases solo : c.consist.state = .solo <;> simp [solo, MotionState.isCalibrating]
  have conditions : c.stoodDown.parkConditions = true ↔ c.consist.state = .solo ∧ c.settings.parkDelay ≠ 0 := by
    rw [Controller.parkConditions_iff, mode, idle, consist, settings]
    simp
  rw [← if_congr conditions rfl rfl, ← interval]
  rw [statusTimer, parkTimer] at shape
  exact shape

theorem Controller.stoodDown_slot (c : Controller) :
    c.stoodDown.air.statusSlot.file = { requested := true, attempts := 0 } :=
  Controller.setMotionState_slot ..

/-- The consist record of a coupled locomotive at a warm restart (R120). -/
def ConsistUnit.warmed (k : ConsistUnit) : ConsistUnit :=
  { state := .ability, common := none, negotiationTimer := none, joinTimer := none
    renegotiationPending := false, consistFault := false, signalLossStop := false
    membership :=
      k.membership.map fun m =>
        { m with
          others := m.others.map fun o => { o with ability := none, ackHeard := false, timer := none, mark := .watched } } }

theorem Controller.warmConsist_coupled {c : Controller} {l : LightController} (coupled : c.consist.state ≠ .solo)
    (off : c.command.functions = 0#24) (dark : c.light = l.warm) :
    c.warmConsist
      = { c with
          air :=
            { c.air with
              statusSlot := c.air.statusSlot.file
              statusTimer := c.air.statusTimer.map fun n => min n (if c.command.partMode = .parked then 5000 else 200) }
          command := { c.command with parkTimer := none, commandedStep := 0 }
          consist := c.consist.warmed, light := l.warm } := by
  have light := Controller.setConsistState_dark (c := { c with consist := { c.consist.warmed with state := c.consist.state } })
    .ability off dark
  have shape := Controller.setConsistState_coupled (state := .ability) (by decide)
    { c with consist := { c.consist.warmed with state := c.consist.state } }
  rw [light] at shape
  exact (if_neg coupled).trans shape

/-- The part restarted, before the ambient trigger and the judgement of the lights (R171). -/
theorem Controller.restarted_eq (c : Controller) :
    c.restarted
      = { c with
          air :=
            { c.air.warm with
              statusSlot := { requested := true, attempts := 0 }
              statusTimer := c.air.statusTimer.map fun n => min n (if c.consist.state = .solo then 1000 else 200) }
          command :=
            { c.command.warm with
              parkTimer := if c.consist.state = .solo ∧ c.settings.parkDelay ≠ 0 then some 0 else none }
          motion := { c.motion.warm with state := .idle }
          beat := c.beat.warm c.settings.preload
          consist := if c.consist.state = .solo then c.consist else c.consist.warmed
          sound := c.sound.warm, smoke := c.smoke.warm, light := c.light.warm
          supply := c.supply.warm } := by
  have down := c.stoodDown_eq
  have slot := c.stoodDown_slot
  have staged : c.restarted
      = ((((c.stoodDown.onBeat (·.warm c.settings.preload)).warmConsist.onSound (·.warm)).changeSmoke
          (·.warm)).fileStatus).onSupply (·.warm) := rfl
  rw [staged, Controller.changeSmoke_filed]
  by_cases solo : c.consist.state = .solo
  · have stands : (c.stoodDown.onBeat (·.warm c.settings.preload)).warmConsist
        = c.stoodDown.onBeat (·.warm c.settings.preload) := by
      refine if_pos ?_
      rw [down]
      exact solo
    have keeps : (if c.consist.state = .solo then c.consist else c.consist.warmed) = c.consist := if_pos solo
    rw [stands, keeps, ← slot]
    generalize c.stoodDown = d at *
    rw [down]
    rfl
  · have coupled := Controller.warmConsist_coupled (c := c.stoodDown.onBeat (·.warm c.settings.preload)) (l := c.light)
      (by rw [down]; exact solo) (by rw [down]; rfl) (by rw [down]; rfl)
    have cut : c.air.statusTimer.map (min · (if c.consist.state = .solo then 1000 else 200))
        = (c.air.statusTimer.map (min · (if c.consist.state = .solo then 1000 else 200))).map (min · 200) := by
      rw [if_neg solo, Option.map_min_min _ (Nat.le_refl 200)]
    have unparked : (if c.consist.state = .solo ∧ c.settings.parkDelay ≠ 0 then some 0 else none : Option Nat) = none :=
      if_neg fun both => solo both.1
    have negotiates : (if c.consist.state = .solo then c.consist else c.consist.warmed) = c.consist.warmed := if_neg solo
    rw [coupled, negotiates, ← slot, ← c.stoodDown.air.statusSlot.file_file, cut, unparked]
    generalize c.stoodDown = d at *
    rw [down]
    rfl

/-- The lights stay dark and the ambient program is triggered at the end of a warm restart. -/
theorem Controller.warmRestart_final (c : Controller) :
    c.warmRestart
      = { c.restarted with
          air := { c.restarted.air with querier := c.warmRestart.air.querier }
          sound :=
            if c.warmRestart.soundOnLevel = true then c.sound.warm.trigger c.sound.ambient .ambient else c.sound.warm
          light := c.light.warm } := by
  have restarted := c.restarted_eq
  have sound := Controller.triggerAmbient_eq c.restarted
  have dark := Controller.judgeLights_dark (c := c.restarted.triggerAmbient) (l := c.light)
    (by rw [sound, restarted]; rfl) (by rw [sound, restarted])
  have level : c.warmRestart.soundOnLevel = c.restarted.soundOnLevel := by
    rw [Controller.warmRestart_eq, sound]
    rfl
  have querier : c.warmRestart.air.querier = c.restarted.air.querier := by
    rw [Controller.warmRestart_eq, sound]
    rfl
  have isWarm : c.restarted.sound = c.sound.warm := congrArg (·.sound) restarted
  have shape : c.warmRestart = { c.restarted.triggerAmbient with light := c.restarted.triggerAmbient.judgeLights.light } :=
    c.warmRestart_eq
  rw [level, querier, shape, dark, sound, isWarm]
  rfl

/-- A voice that has just been restarted, or has just started its program. -/
def Voice.Unstacked (v : Voice) : Prop := v.stack = [] ∧ v.pending = none

theorem forall_mem_modify {α : Type} {P : α → Prop} {l : List α} {k : Nat} {f : α → α} (all : ∀ a ∈ l, P a)
    (changed : ∀ a ∈ l, P (f a)) : ∀ a ∈ l.modify k f, P a := by
  intro a mem
  obtain ⟨i, inRange, rfl⟩ := List.getElem_of_mem mem
  have there : l[i]'(by simpa using inRange) ∈ l := List.getElem_mem _
  rw [List.getElem_modify]
  split
  · exact changed _ there
  · exact all _ there

theorem SoundEngine.warm_voices (e : SoundEngine) : ∀ v ∈ e.warm.voices, v.current = none ∧ v.Unstacked := by
  intro v mem
  obtain ⟨w, -, rfl⟩ := List.mem_map.mp mem
  exact ⟨rfl, rfl, rfl⟩

/-- The ambient trigger finds every voice IDLE after a warm restart. -/
theorem SoundEngine.warm_trigger_unstacked (e : SoundEngine) (n : Option Nat) (origin : TriggerOrigin) :
    ∀ v ∈ (e.warm.trigger n origin).voices, v.Unstacked := by
  have warm := e.warm_voices
  rcases e.warm.trigger_cases n origin with stands | ⟨m, p, -, -, triggered⟩
  · rw [stands]
    exact fun v mem => (warm v mem).2
  · rw [triggered]
    refine forall_mem_modify (fun v mem => (warm v mem).2) fun v mem => ?_
    obtain ⟨idle, unstacked⟩ := warm v mem
    rw [Voice.judge_idle idle]
    exact unstacked

theorem SoundEngine.warm_eq (e : SoundEngine) :
    let kept (h : HalfBuffer) : HalfBuffer := if h.state = .ready ∨ h.state = .playing then HalfBuffer.empty else h
    e.warm
      = { e with
          voices :=
            e.voices.map fun v =>
              { current := none, repeating := false, cursor := .ended, stack := [], pending := none
                generation := (v.generation + 1) % 65536, half0 := kept v.half0, half1 := kept v.half1
                nextFill := .h0, nextPlay := .h0, priming := false, letGo := false } } := by
  intro kept
  have warm (v : Voice) : v.warm
      = { current := none, repeating := false, cursor := .ended, stack := [], pending := none
          generation := (v.generation + 1) % 65536, half0 := kept v.half0, half1 := kept v.half1
          nextFill := .h0, nextPlay := .h0, priming := false, letGo := false } := by
    simp only [kept, ← HalfBuffer.drop_eq]
    rfl
  rw [SoundEngine.warm, funext warm]

/-- Settles O59: the units at a warm restart, and what a brownout leaves. -/
theorem restartsKeepWhatTheManualKeeps : Obligations.RestartsKeepWhatTheManualKeeps := by
  unfold Obligations.RestartsKeepWhatTheManualKeeps
  intro s kept restarted
  refine ⟨fun held ends => ?_, rfl⟩
  have shape := Controller.warmRestart_final s.toController
  have isWarm : s.sound.warm = restarted := SoundEngine.warm_eq s.sound
  have sound : s.toController.warmRestart.sound
      = if s.toController.warmRestart.soundOnLevel = true then s.sound.warm.trigger s.sound.ambient .ambient
        else s.sound.warm := congrArg (·.sound) shape
  have level : s.toController.warmRestart.soundOnLevel = true ↔ .soundOn ∉ s.settings.functionMap := by
    rw [Controller.soundOnLevel_iff, shape, s.toController.restarted_eq]
    simp [CommandUnit.warm]
  have smoke : s.smoke.warm.state = if s.smoke.state = .purge ∨ s.smoke.state = .fault then .fault else .off := by
    unfold SmokeController.warm
    cases s.smoke.state <;> rfl
  refine ⟨_, State.next_update (if_pos ⟨held, ends⟩), ?_, level, ?_, ?_⟩
  · refine congrArg (State.mk · s.pending) ?_
    rw [← isWarm, ← smoke]
    have whole := s.toController.restarted_eq
    generalize s.toController.restarted = r at *
    rw [whole] at shape
    exact shape
  · change ∀ v ∈ s.toController.warmRestart.sound.voices, v.Unstacked
    rw [sound]
    split
    · exact SoundEngine.warm_trigger_unstacked _ _ _
    · exact fun v mem => (SoundEngine.warm_voices _ v mem).2
  · change s.toController.warmRestart.sound.programs = _ ∧ _
    rw [sound]
    split
    · obtain ⟨programs, beats, motions, ambient, curve, reader, -⟩ := s.sound.warm.trigger_frame s.sound.ambient .ambient
      exact ⟨programs, beats, motions, ambient, curve, reader⟩
    · exact ⟨rfl, rfl, rfl, rfl, rfl, rfl⟩

/-! ### Bytes of the stored records (R174, section 11.5) -/

theorem byteAt_lt (bs : List Byte) (i : Nat) : byteAt bs i < 256 := (bs.getD i 0#8).isLt

theorem byteAt_drop (bs : List Byte) (n i : Nat) : byteAt (bs.drop n) i = byteAt bs (n + i) := by
  simp [byteAt, List.getD_eq_getElem?_getD, List.getElem?_drop]

theorem wordAt_drop (bs : List Byte) (n i : Nat) : wordAt (bs.drop n) i = wordAt bs (n + i) := by
  rw [wordAt, wordAt, byteAt_drop, byteAt_drop, Nat.add_assoc]

theorem tripleAt_eq (bs : List Byte) (i : Nat) :
    tripleAt bs i = byteAt bs i * 65536 + byteAt bs (i + 1) * 256 + byteAt bs (i + 2) := by
  rw [tripleAt, wordAt]
  omega

theorem tripleAt_drop (bs : List Byte) (n i : Nat) : tripleAt (bs.drop n) i = tripleAt bs (n + i) := by
  rw [tripleAt, tripleAt, wordAt_drop, byteAt_drop, Nat.add_assoc]

theorem byteOf_byteAt (bs : List Byte) (i : Nat) : byteOf (byteAt bs i) = bs.getD i 0#8 := BitVec.ofNat_toNat ..

theorem clampNat_zero (high x : Nat) : clampNat 0 high x = min high x := by
  rw [clampNat, Nat.zero_max, Nat.min_comm]

/-- A shed threshold needs no upper bound: a byte has none above 255. -/
theorem clampNat_byte (low : Nat) (bs : List Byte) (i : Nat) : clampNat low 255 (byteAt bs i) = max low (byteAt bs i) := by
  rw [clampNat, Nat.min_eq_left (Nat.le_of_lt_succ (byteAt_lt bs i))]

theorem yesNo_eq (n : Nat) : yesNo n = decide (n ≠ 0) := by
  cases n <;> rfl

theorem goodRecord_eq_none {n : Nat} {record : Option (List Byte)}
    (bad : ∀ bs, ¬(record = some bs ∧ bs.length = n ∧ wordAt bs (n - 2) = ((bs.take (n - 2)).map (·.toNat)).sum % 65536)) :
    goodRecord n record = none :=
  Option.eq_none_iff_forall_ne_some.mpr fun bs good => bad bs (goodRecord_eq_some.mp good)

/-! ### The configuration record (R175) -/

theorem clampedWords_zero (bs : List Byte) (i n high : Nat) :
    clampedWords bs i n 0 high = (List.range n).map fun k => min high (wordAt bs (i + 2 * k)) := by
  simp only [clampedWords, clampNat_zero]

theorem settingsOf_curve (bs : List Byte) :
    (settingsOf bs).curve.length = 17 ∧
      ∀ k < 17, (settingsOf bs).curve.getD k 0
        = max (if k = 0 then 0 else (settingsOf bs).curve.getD (k - 1) 0) (min 4095 (wordAt bs (57 + 2 * k))) := by
  have points : (settingsOf bs).curve = nonDecreasing 0 ((List.range 17).map fun k => min 4095 (wordAt bs (57 + 2 * k))) := by
    rw [← clampedWords_zero]
    rfl
  obtain ⟨length, raised⟩ := nonDecreasing_outcome ((List.range 17).map fun k => min 4095 (wordAt bs (57 + 2 * k))) 0
  rw [points]
  rw [List.length_map, List.length_range] at length raised
  refine ⟨length, fun k inRange => ?_⟩
  have point : ((List.range 17).map fun k => min 4095 (wordAt bs (57 + 2 * k))).getD k 0 = min 4095 (wordAt bs (57 + 2 * k)) := by
    simp [List.getD_eq_getElem?_getD, List.getElem?_range inRange]
  rw [raised k inRange, point]

theorem settingsOf_outputs (bs : List Byte) :
    (settingsOf bs).outputs
      = (List.range 8).map fun k =>
          { effect := effectOf (byteAt bs (156 + 7 * k))
            level := byteAt bs (157 + 7 * k)
            dimLevel := byteAt bs (158 + 7 * k)
            directionRule := directionRuleOf (byteAt bs (159 + 7 * k))
            roleRule := roleRuleOf (byteAt bs (160 + 7 * k))
            essential := decide (byteAt bs (161 + 7 * k) ≠ 0)
            parkRule := parkRuleOf (byteAt bs (162 + 7 * k)) } := by
  refine List.map_congr_left fun k _ => ?_
  simp only [outputRecordOf, byteAt_drop, yesNo_eq, Nat.add_right_comm 156 (7 * k)]

theorem settingsOf_functionMap (bs : List Byte) :
    (settingsOf bs).functionMap
      = (List.range 24).map fun k =>
          match byteAt bs (6 + 2 * k) with
          | 1 => .lights (bs.getD (7 + 2 * k) 0#8)
          | 2 => .sound (min 63 (byteAt bs (7 + 2 * k)))
          | 3 => .smokeEnable
          | 4 => .dim
          | 5 => .soundOn
          | 6 => .shunt
          | _ => .none := by
  refine List.map_congr_left fun k _ => ?_
  rw [← byteOf_byteAt]
  rfl

/-- The fields of the configuration record that are not read as they stand, by their bytes. -/
theorem settingsOf_normalised (bs : List Byte) :
    settingsOf bs
      = { settingsOf bs with
          consistMask := BitVec.ofNat 24 (byteAt bs 54 * 65536 + byteAt bs 55 * 256 + byteAt bs 56)
          markerUse := decide (byteAt bs 95 ≠ 0)
          sensorFitted := decide (byteAt bs 108 ≠ 0)
          loadShareOffered := decide (byteAt bs 115 ≠ 0)
          capShareOffered := decide (byteAt bs 116 ≠ 0)
          temperatureTable := (List.range 9).map fun k => min 400 (wordAt bs (120 + 2 * k))
          tIdle := min 400 (wordAt bs 138)
          tWork := min 400 (wordAt bs 140)
          tMax := min 400 (wordAt bs 142)
          heaterPower := min 1000 (wordAt bs 144)
          fanIdle := min 1000 (wordAt bs 146)
          fanPuff := (List.range 4).map fun k => min 1000 (wordAt bs (148 + 2 * k))
          s1 := max 65 (byteAt bs 212)
          s2 := min (max 65 (byteAt bs 212)) (max 65 (byteAt bs 213))
          s3 := min (min (max 65 (byteAt bs 212)) (max 65 (byteAt bs 213))) (max 65 (byteAt bs 214)) } := by
  simp only [settingsOf, yesNo_eq, clampNat_zero, clampNat_byte, tripleAt_eq, clampedWords_zero]

/-! ### The sound directory (R121, R177) -/

theorem runOf_drop (bs : List Byte) (n i : Nat) : runOf (bs.drop n) i = runOf bs (n + i) := by
  rw [runOf, runOf, wordAt_drop, tripleAt_drop, Nat.add_assoc]

theorem runFits_iff (bs : List Byte) (i : Nat) :
    runFits (runOf bs i) = true ↔ wordAt bs (i + 3) = 0 ∨ tripleAt bs i + wordAt bs (i + 3) ≤ 16777216 := by
  unfold runOf
  split
  · next absent => exact iff_of_true rfl (.inl absent)
  · next present => exact decide_eq_true_iff.trans (by simp [present, Config.storeSize])

/-- A program record is taken when its enable byte, its voice, its mode, its body and its segments allow it. -/
theorem programOf_eq (bs : List Byte) :
    programOf bs
      = if byteAt bs 0 ≠ 0 ∧ byteAt bs 1 ≤ 3 ∧ byteAt bs 3 ≤ 1 ∧ wordAt bs 12 ≠ 0 ∧ runFits (runOf bs 4) = true ∧
            runFits (runOf bs 9) = true ∧ runFits (runOf bs 14) = true then
          some
            { voice := byteAt bs 1
              priority := min 3 (byteAt bs 2)
              loop := byteAt bs 3 == 1
              attack := runOf bs 4
              body := { start := tripleAt bs 9, length := wordAt bs 12 }
              release := runOf bs 14
              gain := byteAt bs 19 }
        else none := by
  by_cases silent : wordAt bs 12 = 0
  · have body : runOf bs 9 = none := if_pos silent
    rw [programOf, body, if_neg fun ⟨_, _, _, present, _⟩ => present silent]
  · have body : runOf bs 9 = some { start := tripleAt bs 9, length := wordAt bs 12 } := if_neg silent
    rw [programOf, body]
    refine if_congr ?_ rfl rfl
    simp only [silent, ne_eq, not_false_eq_true, true_and]

theorem programOf_drop (bs : List Byte) (i : Nat) :
    programOf (bs.drop i)
      = if byteAt bs i ≠ 0 ∧ byteAt bs (i + 1) ≤ 3 ∧ byteAt bs (i + 3) ≤ 1 ∧ wordAt bs (i + 12) ≠ 0 ∧
            runFits (runOf bs (i + 4)) = true ∧ runFits (runOf bs (i + 9)) = true ∧ runFits (runOf bs (i + 14)) = true then
          some
            { voice := byteAt bs (i + 1)
              priority := min 3 (byteAt bs (i + 2))
              loop := byteAt bs (i + 3) == 1
              attack := runOf bs (i + 4)
              body := { start := tripleAt bs (i + 9), length := wordAt bs (i + 12) }
              release := runOf bs (i + 14)
              gain := byteAt bs (i + 19) }
        else none := by
  simp only [programOf_eq, byteAt_drop, wordAt_drop, tripleAt_drop, runOf_drop, Nat.add_zero]

theorem soundTablesOf_program {k : Nat} (inTable : k < 64) (bs : List Byte) :
    (soundTablesOf bs).programs[k]? = some (programOf (bs.drop (20 * k))) := by
  simp [soundTablesOf, inTable]

theorem soundTablesOf_tables (bs : List Byte) :
    (soundTablesOf bs).beatTable = (List.range 16).map (fun k => programNumber (byteAt bs (1280 + k))) ∧
      (soundTablesOf bs).motionTable = (List.range 4).map (fun k => programNumber (byteAt bs (1296 + k))) ∧
      (soundTablesOf bs).ambient = programNumber (byteAt bs 1300) ∧
      (soundTablesOf bs).volumeCurve = (List.range 16).map (fun k => byteAt bs (1301 + k)) ∧
      (soundTablesOf bs).programs.length = 64 := by
  simp only [soundTablesOf, byteAt_drop, List.length_map, List.length_range]
  exact ⟨trivial, trivial, trivial, trivial, trivial⟩

/-! ### The cold start (R172 to R177) -/

section
variable {config calibration directory : Option (List Byte)} {mark : Bool} {c : Controller} {bs : List Byte}

theorem Controller.coldStart_settings_read (read : goodRecord 217 config = some bs) :
    (c.coldStart config calibration directory mark).settings = settingsOf bs ∧
      (c.coldStart config calibration directory mark).latches.configDefaulted = false := by
  have settings : (c.coldStart config calibration directory mark).settings
      = ((goodRecord 217 config).map settingsOf).getD Settings.builtIn := rfl
  have latch : (c.coldStart config calibration directory mark).latches.configDefaulted = (goodRecord 217 config).isNone := rfl
  rw [settings, latch, read]
  exact ⟨rfl, rfl⟩

theorem Controller.coldStart_settings_default (bad : goodRecord 217 config = none) :
    (c.coldStart config calibration directory mark).settings = Settings.builtIn ∧
      (c.coldStart config calibration directory mark).latches.configDefaulted = true := by
  have settings : (c.coldStart config calibration directory mark).settings
      = ((goodRecord 217 config).map settingsOf).getD Settings.builtIn := rfl
  have latch : (c.coldStart config calibration directory mark).latches.configDefaulted = (goodRecord 217 config).isNone := rfl
  rw [settings, latch, bad]
  exact ⟨rfl, rfl⟩

theorem Controller.coldStart_calibration_read (read : goodRecord 6 calibration = some bs) :
    (c.coldStart config calibration directory mark).motion.inForce
        = { kbs := max 1 (min (wordAt bs 0) 1024), kff := min 4095 (wordAt bs 2) } ∧
      (c.coldStart config calibration directory mark).latches.calDefaulted = false := by
  have inForce : (c.coldStart config calibration directory mark).motion.inForce
      = ((goodRecord 6 calibration).map calValuesOf).getD CalValues.builtIn := rfl
  have latch : (c.coldStart config calibration directory mark).latches.calDefaulted = (goodRecord 6 calibration).isNone := rfl
  rw [inForce, latch, read, ← clampNat_zero 4095]
  exact ⟨rfl, rfl⟩

theorem Controller.coldStart_calibration_default (bad : goodRecord 6 calibration = none) :
    (c.coldStart config calibration directory mark).motion.inForce = { kbs := 1024, kff := 1000 } ∧
      (c.coldStart config calibration directory mark).latches.calDefaulted = true := by
  have inForce : (c.coldStart config calibration directory mark).motion.inForce
      = ((goodRecord 6 calibration).map calValuesOf).getD CalValues.builtIn := rfl
  have latch : (c.coldStart config calibration directory mark).latches.calDefaulted = (goodRecord 6 calibration).isNone := rfl
  rw [inForce, latch, bad]
  exact ⟨rfl, rfl⟩

/-- The tables of the Sound Engine after a cold start are those of the directory, or the built-in ones. -/
theorem Controller.coldStart_sound (config calibration directory : Option (List Byte)) (mark : Bool) (c : Controller) :
    (c.coldStart config calibration directory mark).sound
      = SoundEngine.cold (((goodRecord 1319 directory).map soundTablesOf).getD SoundTables.builtIn) c.sound.unread := rfl

end

/-- The part in RUN before the lights are judged (R173, R179). -/
def Controller.runEntered (c : Controller) : Controller :=
  { c with
    air :=
      { c.air with
        statusSlot := c.air.statusSlot.file
        statusTimer :=
          some
            (if c.consist.state ≠ .solo ∨ c.motion.state = .moving ∨ c.motion.state.isCalibrating = true then 200
            else 1000) }
    command :=
      { c.command with
        partMode := .run
        parkTimer :=
          if c.motion.state = .idle ∧ c.consist.state = .solo ∧ c.settings.parkDelay ≠ 0 then
            some (c.command.parkTimer.getD 0)
          else none }
    sound := if c.soundOnLevel = true then c.sound.trigger c.sound.ambient .ambient else c.sound }

theorem Controller.enterRun_eq (c : Controller) : c.enterRun = c.runEntered.judgeLights := by
  have conditions : (c.onCommand fun u => { u with partMode := .run }).parkConditions = true
      ↔ c.motion.state = .idle ∧ c.consist.state = .solo ∧ c.settings.parkDelay ≠ 0 := by
    rw [Controller.parkConditions_iff]
    simp
  have entered := Controller.triggerAmbient_eq
    (((c.setMode .run).fileStatus).onAir fun a => { a with statusTimer := some ((c.setMode .run).fileStatus).statusInterval })
  rw [Controller.runEntered, ← if_congr conditions rfl rfl]
  exact congrArg Controller.judgeLights entered

theorem Controller.enterRun_outcome (c : Controller) :
    c.enterRun = { c.runEntered with light := c.enterRun.light } ∧ c.enterRun.LightsFollow c.light := by
  rw [c.enterRun_eq]
  exact ⟨rfl, Controller.judgeLights_follow c.runEntered⟩

/-- Settles O60: the records as they are read, then the qualification and the entry to RUN. -/
theorem theColdStartLoadsAndQualifies : Obligations.TheColdStartLoadsAndQualifies := by
  unfold Obligations.TheColdStartLoadsAndQualifies
  intro s good clamp
  refine ⟨fun config calibration directory markLost => ?_, fun start enough => ?_, fun start loaded normal => ?_⟩
  · refine ⟨_, rfl, ?_, ?_⟩
    · have cause : coldCause (s.supply.brownoutMark && !markLost)
          = if s.supply.brownoutMark = true ∧ markLost = false then .brownout else .powerOn := by
        cases s.supply.brownoutMark <;> cases markLost <;> rfl
      rw [← cause]
      rfl
    generalize isCold : s.update (fun c => c.coldStart config calibration directory (c.supply.brownoutMark && !markLost)) = t
    have cold : t.toController = s.toController.coldStart config calibration directory (s.supply.brownoutMark && !markLost) :=
      congrArg (·.toController) isCold.symm
    rw [cold]
    refine ⟨fun bad => Controller.coldStart_settings_default (goodRecord_eq_none bad), fun bs isGood => ?_, fun bad => ?_,
      fun bs isGood => ?_, fun bad => ?_, fun bs isGood => ?_⟩
    · obtain ⟨settings, latch⟩ := Controller.coldStart_settings_read (calibration := calibration) (directory := directory)
        (mark := s.supply.brownoutMark && !markLost) (c := s.toController) (goodRecord_eq_some.mpr isGood)
      obtain ⟨length, raised⟩ := settingsOf_curve bs
      rw [settings]
      refine ⟨latch, raised, length, ?_⟩
      conv_lhs =>
        rw [settingsOf_normalised]
        dsimp only
        rw [settingsOf_functionMap, settingsOf_outputs]
      rfl
    · exact Controller.coldStart_calibration_default (goodRecord_eq_none bad)
    · exact Controller.coldStart_calibration_read (goodRecord_eq_some.mpr isGood)
    · rw [Controller.coldStart_sound, goodRecord_eq_none bad]
      exact ⟨rfl, rfl, rfl, rfl, rfl⟩
    · intro named triple run fits
      rw [Controller.coldStart_sound, goodRecord_eq_some.mpr isGood]
      obtain ⟨beats, motions, ambient, curve, length⟩ := soundTablesOf_tables bs
      refine ⟨beats, motions, ambient, curve, length, fun k inTable => ?_⟩
      intro i enabled
      have program := (soundTablesOf_program inTable bs).trans (congrArg some (programOf_drop bs i))
      have fit (j : Nat) : runFits (runOf bs j) = true ↔ fits j := by
        rw [runFits_iff, tripleAt_eq]
      have runs (j : Nat) : runOf bs j = run j := by
        rw [runOf, tripleAt_eq]
      simp only [fit] at program
      simp only [runs, tripleAt_eq bs (i + 9)] at program
      exact ⟨fun disabled => program.trans (congrArg some (if_neg disabled)), fun taken => program.trans
        (congrArg some (if_pos taken))⟩
  · exact ⟨_, State.next_update (if_pos ⟨start, enough⟩), rfl, Controller.judgeLights_follow _⟩
  · obtain ⟨shape, follow⟩ := Controller.enterRun_outcome s.toController
    exact ⟨_, State.next_update (if_pos ⟨start, loaded, normal⟩), congrArg (State.mk · s.pending) shape, follow⟩

end Sys2Proof.Machine
end
